-- ==== Sys2Proof/Word.lean ====
section
/-! DEFINITION. The words of the FC340's links: a byte of the supervisory line and of the valve channels, a 16-bit word of the
sample link, and the two counts with which every counter of the spec grows. -/

namespace Sys2Proof

/-- A byte of a supervisory or valve frame. -/
abbrev Byte := BitVec 8

/-- The 16 data bits of a sample link word, and a used value. -/
abbrev Half := BitVec 16

/-- A frame index, and a sequence number of the history: 32 bits, wrapping (R20, R166). -/
abbrev Index := BitVec 32

/-- A counter of the spec "stops at its largest value" (Conventions): it grows by one up to `limit`. -/
def bump (limit n : Nat) : Nat := if n < limit then n + 1 else limit

/-- A saturating counter that grows by `k` at once. -/
def bumpBy (limit k n : Nat) : Nat := min (n + k) limit

end Sys2Proof
end

