-- ==== Sys2Proof/Index.lean ====
section
/-! DEFINITION. The fixed sets of names the spec counts over (branches, groups, channels, quantities, inputs, events) and,
for each, a record that keeps one item per name. A record's fields are its items; `get` and `set` are by name. -/

namespace Sys2Proof

/-- The three reactor branches (Introduction, Conventions). -/
inductive Branch where
  | ab
  | bc
  | ca
  deriving DecidableEq, Repr

/-- Every `Branch`, in the order of the rule that lists them; a payload codes one by its place here (R197). -/
def Branch.all : List Branch :=
  [.ab, .bc, .ca]

/-- The place of a `Branch` in `Branch.all`, from 0. -/
def Branch.number : Branch → Nat
  | .ab => 0
  | .bc => 1
  | .ca => 2

/-- The six valve groups: a branch and a direction, F forward and R reverse (Introduction, Conventions). -/
inductive Group where
  | abF
  | abR
  | bcF
  | bcR
  | caF
  | caR
  deriving DecidableEq, Repr

/-- Every `Group`, in the order of the rule that lists them; a payload codes one by its place here (R197). -/
def Group.all : List Group :=
  [.abF, .abR, .bcF, .bcR, .caF, .caR]

/-- The place of a `Group` in `Group.all`, from 0. -/
def Group.number : Group → Nat
  | .abF => 0
  | .abR => 1
  | .bcF => 2
  | .bcR => 3
  | .caF => 4
  | .caR => 5

/-- The six measured quantities in the order of the sample link frames (chapter 2.1). -/
inductive Quantity where
  | vab
  | vbc
  | vca
  | ia
  | ib
  | ic
  deriving DecidableEq, Repr

/-- Every `Quantity`, in the order of the rule that lists them; a payload codes one by its place here (R197). -/
def Quantity.all : List Quantity :=
  [.vab, .vbc, .vca, .ia, .ib, .ic]

/-- The place of a `Quantity` in `Quantity.all`, from 0. -/
def Quantity.number : Quantity → Nat
  | .vab => 0
  | .vbc => 1
  | .vca => 2
  | .ia => 3
  | .ib => 4
  | .ic => 5

/-- The eight valve channels V0..V7. -/
inductive ValveChannel where
  | v0
  | v1
  | v2
  | v3
  | v4
  | v5
  | v6
  | v7
  deriving DecidableEq, Repr

/-- Every `ValveChannel`, in the order of the rule that lists them; a payload codes one by its place here (R197). -/
def ValveChannel.all : List ValveChannel :=
  [.v0, .v1, .v2, .v3, .v4, .v5, .v6, .v7]

/-- The place of a `ValveChannel` in `ValveChannel.all`, from 0. -/
def ValveChannel.number : ValveChannel → Nat
  | .v0 => 0
  | .v1 => 1
  | .v2 => 2
  | .v3 => 3
  | .v4 => 4
  | .v5 => 5
  | .v6 => 6
  | .v7 => 7

/-- The two converter chains of the sampling head (chapter 2.1). -/
inductive LinkChannel where
  | a
  | b
  deriving DecidableEq, Repr

/-- Every `LinkChannel`, in the order of the rule that lists them; a payload codes one by its place here (R197). -/
def LinkChannel.all : List LinkChannel :=
  [.a, .b]

/-- The place of a `LinkChannel` in `LinkChannel.all`, from 0. -/
def LinkChannel.number : LinkChannel → Nat
  | .a => 0
  | .b => 1

/-- The six plant inputs (chapter 8.1). -/
inductive PlantInput where
  | furnaceBreaker
  | filterBank0
  | filterBank1
  | filterBank2
  | filterBank3
  | extBlock
  deriving DecidableEq, Repr

/-- Every `PlantInput`, in the order of the rule that lists them; a payload codes one by its place here (R197). -/
def PlantInput.all : List PlantInput :=
  [.furnaceBreaker, .filterBank0, .filterBank1, .filterBank2, .filterBank3, .extBlock]

/-- The place of a `PlantInput` in `PlantInput.all`, from 0. -/
def PlantInput.number : PlantInput → Nat
  | .furnaceBreaker => 0
  | .filterBank0 => 1
  | .filterBank1 => 2
  | .filterBank2 => 3
  | .filterBank3 => 4
  | .extBlock => 5

/-- The four filter banks. -/
inductive Bank where
  | bank0
  | bank1
  | bank2
  | bank3
  deriving DecidableEq, Repr

/-- Every `Bank`, in the order of the rule that lists them; a payload codes one by its place here (R197). -/
def Bank.all : List Bank :=
  [.bank0, .bank1, .bank2, .bank3]

/-- The place of a `Bank` in `Bank.all`, from 0. -/
def Bank.number : Bank → Nat
  | .bank0 => 0
  | .bank1 => 1
  | .bank2 => 2
  | .bank3 => 3

/-- The validity codes of a window (R73), numbered as the history record numbers them. -/
inductive ValidityCode where
  | valid
  | noWindow
  | measForced
  | resync
  | measGap
  | synth
  | length
  | heldWords
  | delayFilling
  | lowVoltage
  deriving DecidableEq, Repr

/-- Every `ValidityCode`, in the order of the rule that lists them; a payload codes one by its place here (R197). -/
def ValidityCode.all : List ValidityCode :=
  [.valid, .noWindow, .measForced, .resync, .measGap, .synth, .length, .heldWords, .delayFilling, .lowVoltage]

/-- The place of a `ValidityCode` in `ValidityCode.all`, from 0. -/
def ValidityCode.number : ValidityCode → Nat
  | .valid => 0
  | .noWindow => 1
  | .measForced => 2
  | .resync => 3
  | .measGap => 4
  | .synth => 5
  | .length => 6
  | .heldWords => 7
  | .delayFilling => 8
  | .lowVoltage => 9

/-- The 29 event kinds, numbered as the table of 10.7 numbers them (R190). -/
inductive EventKind where
  | linkLate
  | linkLost
  | linkResync
  | blockCheckError
  | channelFailed
  | primarySwitched
  | quantityDiverged
  | acquireDone
  | acquireFailed
  | crossingRejected
  | crossingSynthesized
  | syncLost
  | branchFallback
  | demandSaturated
  | lateDecision
  | misfire
  | refusal
  | selfFired
  | strayAck
  | polarityMismatch
  | groupFailed
  | channelSilent
  | valveStatusChanged
  | plantLineChanged
  | presetApplied
  | presetCancelled
  | halted
  | captureFrozen
  | hostFrameError
  deriving DecidableEq, Repr

/-- Every `EventKind`, in the order of the rule that lists them; a payload codes one by its place here (R197). -/
def EventKind.all : List EventKind :=
  [.linkLate, .linkLost, .linkResync, .blockCheckError, .channelFailed, .primarySwitched, .quantityDiverged, .acquireDone, .acquireFailed, .crossingRejected, .crossingSynthesized, .syncLost, .branchFallback, .demandSaturated, .lateDecision, .misfire, .refusal, .selfFired, .strayAck, .polarityMismatch, .groupFailed, .channelSilent, .valveStatusChanged, .plantLineChanged, .presetApplied, .presetCancelled, .halted, .captureFrozen, .hostFrameError]

/-- The place of a `EventKind` in `EventKind.all`, from 0. -/
def EventKind.number : EventKind → Nat
  | .linkLate => 0
  | .linkLost => 1
  | .linkResync => 2
  | .blockCheckError => 3
  | .channelFailed => 4
  | .primarySwitched => 5
  | .quantityDiverged => 6
  | .acquireDone => 7
  | .acquireFailed => 8
  | .crossingRejected => 9
  | .crossingSynthesized => 10
  | .syncLost => 11
  | .branchFallback => 12
  | .demandSaturated => 13
  | .lateDecision => 14
  | .misfire => 15
  | .refusal => 16
  | .selfFired => 17
  | .strayAck => 18
  | .polarityMismatch => 19
  | .groupFailed => 20
  | .channelSilent => 21
  | .valveStatusChanged => 22
  | .plantLineChanged => 23
  | .presetApplied => 24
  | .presetCancelled => 25
  | .halted => 26
  | .captureFrozen => 27
  | .hostFrameError => 28

/-- The two directions of a valve group. -/
inductive Direction where
  | forward
  | reverse
  deriving DecidableEq, Repr

/-- The branch a group belongs to. -/
def Group.branch : Group → Branch
  | .abF | .abR => .ab
  | .bcF | .bcR => .bc
  | .caF | .caR => .ca

/-- The direction of a group. -/
def Group.direction : Group → Direction
  | .abF | .bcF | .caF => .forward
  | .abR | .bcR | .caR => .reverse

/-- The group of a branch that has a direction. -/
def Branch.group : Branch → Direction → Group
  | .ab, .forward => .abF
  | .ab, .reverse => .abR
  | .bc, .forward => .bcF
  | .bc, .reverse => .bcR
  | .ca, .forward => .caF
  | .ca, .reverse => .caR

/-- The line-to-line voltage a branch is named after. -/
def Branch.voltage : Branch → Quantity
  | .ab => .vab
  | .bc => .vbc
  | .ca => .vca

/-- The feeder current I_x of branch xy. -/
def Branch.currentFrom : Branch → Quantity
  | .ab => .ia
  | .bc => .ib
  | .ca => .ic

/-- The feeder current I_y of branch xy. -/
def Branch.currentTo : Branch → Quantity
  | .ab => .ib
  | .bc => .ic
  | .ca => .ia

/-- The other converter chain. -/
def LinkChannel.other : LinkChannel → LinkChannel
  | .a => .b
  | .b => .a

/-- The plant input that tells whether a bank is in service. -/
def Bank.input : Bank → PlantInput
  | .bank0 => .filterBank0
  | .bank1 => .filterBank1
  | .bank2 => .filterBank2
  | .bank3 => .filterBank3

/-- One item for each branch. -/
structure PerBranch (α : Type) where
  (ab bc ca : α)
  deriving DecidableEq, Repr

/-- The item kept for one `Branch`. -/
def PerBranch.get {α : Type} (t : PerBranch α) : Branch → α
  | .ab => t.ab
  | .bc => t.bc
  | .ca => t.ca

/-- The items with that of one `Branch` replaced. -/
def PerBranch.set {α : Type} (t : PerBranch α) (k : Branch) (x : α) : PerBranch α :=
  match k with
  | .ab => { t with ab := x }
  | .bc => { t with bc := x }
  | .ca => { t with ca := x }

/-- The same item for every `Branch`. -/
def PerBranch.fill {α : Type} (x : α) : PerBranch α :=
  ⟨x, x, x⟩

/-- Every item changed by one function of its `Branch`. -/
def PerBranch.mapKey {α β : Type} (t : PerBranch α) (f : Branch → α → β) : PerBranch β :=
  ⟨f .ab t.ab, f .bc t.bc, f .ca t.ca⟩

/-- The items in the order of `Branch.all`. -/
def PerBranch.toList {α : Type} (t : PerBranch α) : List α :=
  [t.ab, t.bc, t.ca]

/-- One item for each valve group. -/
structure PerGroup (α : Type) where
  (abF abR bcF bcR caF caR : α)
  deriving DecidableEq, Repr

/-- The item kept for one `Group`. -/
def PerGroup.get {α : Type} (t : PerGroup α) : Group → α
  | .abF => t.abF
  | .abR => t.abR
  | .bcF => t.bcF
  | .bcR => t.bcR
  | .caF => t.caF
  | .caR => t.caR

/-- The items with that of one `Group` replaced. -/
def PerGroup.set {α : Type} (t : PerGroup α) (k : Group) (x : α) : PerGroup α :=
  match k with
  | .abF => { t with abF := x }
  | .abR => { t with abR := x }
  | .bcF => { t with bcF := x }
  | .bcR => { t with bcR := x }
  | .caF => { t with caF := x }
  | .caR => { t with caR := x }

/-- The same item for every `Group`. -/
def PerGroup.fill {α : Type} (x : α) : PerGroup α :=
  ⟨x, x, x, x, x, x⟩

/-- Every item changed by one function of its `Group`. -/
def PerGroup.mapKey {α β : Type} (t : PerGroup α) (f : Group → α → β) : PerGroup β :=
  ⟨f .abF t.abF, f .abR t.abR, f .bcF t.bcF, f .bcR t.bcR, f .caF t.caF, f .caR t.caR⟩

/-- The items in the order of `Group.all`. -/
def PerGroup.toList {α : Type} (t : PerGroup α) : List α :=
  [t.abF, t.abR, t.bcF, t.bcR, t.caF, t.caR]

/-- One item for each measured quantity. -/
structure PerQuantity (α : Type) where
  (vab vbc vca ia ib ic : α)
  deriving DecidableEq, Repr

/-- The item kept for one `Quantity`. -/
def PerQuantity.get {α : Type} (t : PerQuantity α) : Quantity → α
  | .vab => t.vab
  | .vbc => t.vbc
  | .vca => t.vca
  | .ia => t.ia
  | .ib => t.ib
  | .ic => t.ic

/-- The items with that of one `Quantity` replaced. -/
def PerQuantity.set {α : Type} (t : PerQuantity α) (k : Quantity) (x : α) : PerQuantity α :=
  match k with
  | .vab => { t with vab := x }
  | .vbc => { t with vbc := x }
  | .vca => { t with vca := x }
  | .ia => { t with ia := x }
  | .ib => { t with ib := x }
  | .ic => { t with ic := x }

/-- The same item for every `Quantity`. -/
def PerQuantity.fill {α : Type} (x : α) : PerQuantity α :=
  ⟨x, x, x, x, x, x⟩

/-- Every item changed by one function of its `Quantity`. -/
def PerQuantity.mapKey {α β : Type} (t : PerQuantity α) (f : Quantity → α → β) : PerQuantity β :=
  ⟨f .vab t.vab, f .vbc t.vbc, f .vca t.vca, f .ia t.ia, f .ib t.ib, f .ic t.ic⟩

/-- The items in the order of `Quantity.all`. -/
def PerQuantity.toList {α : Type} (t : PerQuantity α) : List α :=
  [t.vab, t.vbc, t.vca, t.ia, t.ib, t.ic]

/-- One item for each valve channel. -/
structure PerValve (α : Type) where
  (v0 v1 v2 v3 v4 v5 v6 v7 : α)
  deriving DecidableEq, Repr

/-- The item kept for one `ValveChannel`. -/
def PerValve.get {α : Type} (t : PerValve α) : ValveChannel → α
  | .v0 => t.v0
  | .v1 => t.v1
  | .v2 => t.v2
  | .v3 => t.v3
  | .v4 => t.v4
  | .v5 => t.v5
  | .v6 => t.v6
  | .v7 => t.v7

/-- The items with that of one `ValveChannel` replaced. -/
def PerValve.set {α : Type} (t : PerValve α) (k : ValveChannel) (x : α) : PerValve α :=
  match k with
  | .v0 => { t with v0 := x }
  | .v1 => { t with v1 := x }
  | .v2 => { t with v2 := x }
  | .v3 => { t with v3 := x }
  | .v4 => { t with v4 := x }
  | .v5 => { t with v5 := x }
  | .v6 => { t with v6 := x }
  | .v7 => { t with v7 := x }

/-- The same item for every `ValveChannel`. -/
def PerValve.fill {α : Type} (x : α) : PerValve α :=
  ⟨x, x, x, x, x, x, x, x⟩

/-- Every item changed by one function of its `ValveChannel`. -/
def PerValve.mapKey {α β : Type} (t : PerValve α) (f : ValveChannel → α → β) : PerValve β :=
  ⟨f .v0 t.v0, f .v1 t.v1, f .v2 t.v2, f .v3 t.v3, f .v4 t.v4, f .v5 t.v5, f .v6 t.v6, f .v7 t.v7⟩

/-- The items in the order of `ValveChannel.all`. -/
def PerValve.toList {α : Type} (t : PerValve α) : List α :=
  [t.v0, t.v1, t.v2, t.v3, t.v4, t.v5, t.v6, t.v7]

/-- One item for each converter chain. -/
structure PerLink (α : Type) where
  (a b : α)
  deriving DecidableEq, Repr

/-- The item kept for one `LinkChannel`. -/
def PerLink.get {α : Type} (t : PerLink α) : LinkChannel → α
  | .a => t.a
  | .b => t.b

/-- The items with that of one `LinkChannel` replaced. -/
def PerLink.set {α : Type} (t : PerLink α) (k : LinkChannel) (x : α) : PerLink α :=
  match k with
  | .a => { t with a := x }
  | .b => { t with b := x }

/-- The same item for every `LinkChannel`. -/
def PerLink.fill {α : Type} (x : α) : PerLink α :=
  ⟨x, x⟩

/-- Every item changed by one function of its `LinkChannel`. -/
def PerLink.mapKey {α β : Type} (t : PerLink α) (f : LinkChannel → α → β) : PerLink β :=
  ⟨f .a t.a, f .b t.b⟩

/-- The items in the order of `LinkChannel.all`. -/
def PerLink.toList {α : Type} (t : PerLink α) : List α :=
  [t.a, t.b]

/-- One item for each plant input. -/
structure PerInput (α : Type) where
  (furnaceBreaker filterBank0 filterBank1 filterBank2 filterBank3 extBlock : α)
  deriving DecidableEq, Repr

/-- The item kept for one `PlantInput`. -/
def PerInput.get {α : Type} (t : PerInput α) : PlantInput → α
  | .furnaceBreaker => t.furnaceBreaker
  | .filterBank0 => t.filterBank0
  | .filterBank1 => t.filterBank1
  | .filterBank2 => t.filterBank2
  | .filterBank3 => t.filterBank3
  | .extBlock => t.extBlock

/-- The items with that of one `PlantInput` replaced. -/
def PerInput.set {α : Type} (t : PerInput α) (k : PlantInput) (x : α) : PerInput α :=
  match k with
  | .furnaceBreaker => { t with furnaceBreaker := x }
  | .filterBank0 => { t with filterBank0 := x }
  | .filterBank1 => { t with filterBank1 := x }
  | .filterBank2 => { t with filterBank2 := x }
  | .filterBank3 => { t with filterBank3 := x }
  | .extBlock => { t with extBlock := x }

/-- The same item for every `PlantInput`. -/
def PerInput.fill {α : Type} (x : α) : PerInput α :=
  ⟨x, x, x, x, x, x⟩

/-- Every item changed by one function of its `PlantInput`. -/
def PerInput.mapKey {α β : Type} (t : PerInput α) (f : PlantInput → α → β) : PerInput β :=
  ⟨f .furnaceBreaker t.furnaceBreaker, f .filterBank0 t.filterBank0, f .filterBank1 t.filterBank1, f .filterBank2 t.filterBank2, f .filterBank3 t.filterBank3, f .extBlock t.extBlock⟩

/-- The items in the order of `PlantInput.all`. -/
def PerInput.toList {α : Type} (t : PerInput α) : List α :=
  [t.furnaceBreaker, t.filterBank0, t.filterBank1, t.filterBank2, t.filterBank3, t.extBlock]

/-- One item for each filter bank. -/
structure PerBank (α : Type) where
  (bank0 bank1 bank2 bank3 : α)
  deriving DecidableEq, Repr

/-- The item kept for one `Bank`. -/
def PerBank.get {α : Type} (t : PerBank α) : Bank → α
  | .bank0 => t.bank0
  | .bank1 => t.bank1
  | .bank2 => t.bank2
  | .bank3 => t.bank3

/-- The items with that of one `Bank` replaced. -/
def PerBank.set {α : Type} (t : PerBank α) (k : Bank) (x : α) : PerBank α :=
  match k with
  | .bank0 => { t with bank0 := x }
  | .bank1 => { t with bank1 := x }
  | .bank2 => { t with bank2 := x }
  | .bank3 => { t with bank3 := x }

/-- The same item for every `Bank`. -/
def PerBank.fill {α : Type} (x : α) : PerBank α :=
  ⟨x, x, x, x⟩

/-- Every item changed by one function of its `Bank`. -/
def PerBank.mapKey {α β : Type} (t : PerBank α) (f : Bank → α → β) : PerBank β :=
  ⟨f .bank0 t.bank0, f .bank1 t.bank1, f .bank2 t.bank2, f .bank3 t.bank3⟩

/-- The items in the order of `Bank.all`. -/
def PerBank.toList {α : Type} (t : PerBank α) : List α :=
  [t.bank0, t.bank1, t.bank2, t.bank3]

/-- One item for each validity code. -/
structure PerCode (α : Type) where
  (valid noWindow measForced resync measGap synth length heldWords delayFilling lowVoltage : α)
  deriving DecidableEq, Repr

/-- The item kept for one `ValidityCode`. -/
def PerCode.get {α : Type} (t : PerCode α) : ValidityCode → α
  | .valid => t.valid
  | .noWindow => t.noWindow
  | .measForced => t.measForced
  | .resync => t.resync
  | .measGap => t.measGap
  | .synth => t.synth
  | .length => t.length
  | .heldWords => t.heldWords
  | .delayFilling => t.delayFilling
  | .lowVoltage => t.lowVoltage

/-- The items with that of one `ValidityCode` replaced. -/
def PerCode.set {α : Type} (t : PerCode α) (k : ValidityCode) (x : α) : PerCode α :=
  match k with
  | .valid => { t with valid := x }
  | .noWindow => { t with noWindow := x }
  | .measForced => { t with measForced := x }
  | .resync => { t with resync := x }
  | .measGap => { t with measGap := x }
  | .synth => { t with synth := x }
  | .length => { t with length := x }
  | .heldWords => { t with heldWords := x }
  | .delayFilling => { t with delayFilling := x }
  | .lowVoltage => { t with lowVoltage := x }

/-- The same item for every `ValidityCode`. -/
def PerCode.fill {α : Type} (x : α) : PerCode α :=
  ⟨x, x, x, x, x, x, x, x, x, x⟩

/-- Every item changed by one function of its `ValidityCode`. -/
def PerCode.mapKey {α β : Type} (t : PerCode α) (f : ValidityCode → α → β) : PerCode β :=
  ⟨f .valid t.valid, f .noWindow t.noWindow, f .measForced t.measForced, f .resync t.resync, f .measGap t.measGap, f .synth t.synth, f .length t.length, f .heldWords t.heldWords, f .delayFilling t.delayFilling, f .lowVoltage t.lowVoltage⟩

/-- The items in the order of `ValidityCode.all`. -/
def PerCode.toList {α : Type} (t : PerCode α) : List α :=
  [t.valid, t.noWindow, t.measForced, t.resync, t.measGap, t.synth, t.length, t.heldWords, t.delayFilling, t.lowVoltage]

/-- One item for each event kind. -/
structure PerEvent (α : Type) where
  (linkLate linkLost linkResync blockCheckError channelFailed primarySwitched quantityDiverged acquireDone acquireFailed crossingRejected crossingSynthesized syncLost branchFallback demandSaturated lateDecision misfire refusal selfFired strayAck polarityMismatch groupFailed channelSilent valveStatusChanged plantLineChanged presetApplied presetCancelled halted captureFrozen hostFrameError : α)
  deriving DecidableEq, Repr

/-- The item kept for one `EventKind`. -/
def PerEvent.get {α : Type} (t : PerEvent α) : EventKind → α
  | .linkLate => t.linkLate
  | .linkLost => t.linkLost
  | .linkResync => t.linkResync
  | .blockCheckError => t.blockCheckError
  | .channelFailed => t.channelFailed
  | .primarySwitched => t.primarySwitched
  | .quantityDiverged => t.quantityDiverged
  | .acquireDone => t.acquireDone
  | .acquireFailed => t.acquireFailed
  | .crossingRejected => t.crossingRejected
  | .crossingSynthesized => t.crossingSynthesized
  | .syncLost => t.syncLost
  | .branchFallback => t.branchFallback
  | .demandSaturated => t.demandSaturated
  | .lateDecision => t.lateDecision
  | .misfire => t.misfire
  | .refusal => t.refusal
  | .selfFired => t.selfFired
  | .strayAck => t.strayAck
  | .polarityMismatch => t.polarityMismatch
  | .groupFailed => t.groupFailed
  | .channelSilent => t.channelSilent
  | .valveStatusChanged => t.valveStatusChanged
  | .plantLineChanged => t.plantLineChanged
  | .presetApplied => t.presetApplied
  | .presetCancelled => t.presetCancelled
  | .halted => t.halted
  | .captureFrozen => t.captureFrozen
  | .hostFrameError => t.hostFrameError

/-- The items with that of one `EventKind` replaced. -/
def PerEvent.set {α : Type} (t : PerEvent α) (k : EventKind) (x : α) : PerEvent α :=
  match k with
  | .linkLate => { t with linkLate := x }
  | .linkLost => { t with linkLost := x }
  | .linkResync => { t with linkResync := x }
  | .blockCheckError => { t with blockCheckError := x }
  | .channelFailed => { t with channelFailed := x }
  | .primarySwitched => { t with primarySwitched := x }
  | .quantityDiverged => { t with quantityDiverged := x }
  | .acquireDone => { t with acquireDone := x }
  | .acquireFailed => { t with acquireFailed := x }
  | .crossingRejected => { t with crossingRejected := x }
  | .crossingSynthesized => { t with crossingSynthesized := x }
  | .syncLost => { t with syncLost := x }
  | .branchFallback => { t with branchFallback := x }
  | .demandSaturated => { t with demandSaturated := x }
  | .lateDecision => { t with lateDecision := x }
  | .misfire => { t with misfire := x }
  | .refusal => { t with refusal := x }
  | .selfFired => { t with selfFired := x }
  | .strayAck => { t with strayAck := x }
  | .polarityMismatch => { t with polarityMismatch := x }
  | .groupFailed => { t with groupFailed := x }
  | .channelSilent => { t with channelSilent := x }
  | .valveStatusChanged => { t with valveStatusChanged := x }
  | .plantLineChanged => { t with plantLineChanged := x }
  | .presetApplied => { t with presetApplied := x }
  | .presetCancelled => { t with presetCancelled := x }
  | .halted => { t with halted := x }
  | .captureFrozen => { t with captureFrozen := x }
  | .hostFrameError => { t with hostFrameError := x }

/-- The same item for every `EventKind`. -/
def PerEvent.fill {α : Type} (x : α) : PerEvent α :=
  ⟨x, x, x, x, x, x, x, x, x, x, x, x, x, x, x, x, x, x, x, x, x, x, x, x, x, x, x, x, x⟩

/-- Every item changed by one function of its `EventKind`. -/
def PerEvent.mapKey {α β : Type} (t : PerEvent α) (f : EventKind → α → β) : PerEvent β :=
  ⟨f .linkLate t.linkLate, f .linkLost t.linkLost, f .linkResync t.linkResync, f .blockCheckError t.blockCheckError, f .channelFailed t.channelFailed, f .primarySwitched t.primarySwitched, f .quantityDiverged t.quantityDiverged, f .acquireDone t.acquireDone, f .acquireFailed t.acquireFailed, f .crossingRejected t.crossingRejected, f .crossingSynthesized t.crossingSynthesized, f .syncLost t.syncLost, f .branchFallback t.branchFallback, f .demandSaturated t.demandSaturated, f .lateDecision t.lateDecision, f .misfire t.misfire, f .refusal t.refusal, f .selfFired t.selfFired, f .strayAck t.strayAck, f .polarityMismatch t.polarityMismatch, f .groupFailed t.groupFailed, f .channelSilent t.channelSilent, f .valveStatusChanged t.valveStatusChanged, f .plantLineChanged t.plantLineChanged, f .presetApplied t.presetApplied, f .presetCancelled t.presetCancelled, f .halted t.halted, f .captureFrozen t.captureFrozen, f .hostFrameError t.hostFrameError⟩

/-- The items in the order of `EventKind.all`. -/
def PerEvent.toList {α : Type} (t : PerEvent α) : List α :=
  [t.linkLate, t.linkLost, t.linkResync, t.blockCheckError, t.channelFailed, t.primarySwitched, t.quantityDiverged, t.acquireDone, t.acquireFailed, t.crossingRejected, t.crossingSynthesized, t.syncLost, t.branchFallback, t.demandSaturated, t.lateDecision, t.misfire, t.refusal, t.selfFired, t.strayAck, t.polarityMismatch, t.groupFailed, t.channelSilent, t.valveStatusChanged, t.plantLineChanged, t.presetApplied, t.presetCancelled, t.halted, t.captureFrozen, t.hostFrameError]

end Sys2Proof
end

