-- ==== Sys2Proof/Syntax.lean ====
section
/-! DEFINITION. The commands the FC340 takes from outside, one constructor of `Instr` for each row of spec/opcode_table.json,
and the shapes of what they carry. A request of the supervisory line carries its payload fields at the width the frame gives
them (R197), so that a value outside a field's range can be sent and is refused by its owner. -/

namespace Sys2Proof

/-- One sample link word as it arrives: its 16 data bits and its parity bit (10.11, Sample link frames). -/
structure LinkWord where
  data : Half
  parity : Bool
  deriving DecidableEq, Repr

/-- One character of the supervisory line: its eight data bits, its address mark bit, and whether its stop bit read 1
(R182; a stop bit that reads 0 is a framing error). -/
structure LineChar where
  data : Byte
  mark : Bool
  stopOk : Bool
  deriving DecidableEq, Repr

/-- The causes a valve gives for declining an order (6.1), in the order of their codes. -/
inductive RefusalCause where
  | overtemperature
  | gateSupply
  | protectiveBlock
  | noForwardVoltage
  deriving DecidableEq, Repr

/-- The four fields of a STATUS indication (6.1). -/
structure ValveStatus where
  coolingOk : Bool
  temperatureWarning : Bool
  failedLevels : BitVec 3
  gateSupplyOk : Bool
  deriving DecidableEq, Repr

/-- The commands, in the table's order. Each constructor's docstring names its row's rule. -/
inductive Instr where
  /-- R194: the supply rises from below the level at which the device holds no state. -/
  | powerOn
  /-- R194: the supply falls below its working level. -/
  | supplyDip
  /-- R194: the RESET input is asserted. -/
  | resetLine
  /-- R196: a RESTART request. -/
  | restart
  /-- R183: the 8th frame interval after a reset comes, for the supervisory receiver. -/
  | receiverOn
  /-- R185: the characters of a whole frame, from its address (mark set) to the low byte of its CRC (marks clear). -/
  | requestFrame (frame : List Byte)
  /-- R184: the characters of a frame that is not completed, the one that ends it last. -/
  | frameAbandoned (chars : List LineChar)
  /-- R184: the characters of a frame (none, where the frame is already in assembly), then a gap of over 4 character times. -/
  | gapAbandonment (chars : List LineChar)
  /-- R183: one character arrives while the unit is ANSWERING. -/
  | characterWhileAnswering (char : LineChar)
  /-- R188: the turnaround delay is over and the unit begins to send its reply. -/
  | replyStart
  /-- R188: the last stop bit of the reply is sent. -/
  | replySent
  /-- R193. -/
  | identify
  /-- R17. -/
  | readState
  /-- R192. -/
  | readEvents
  /-- R191. -/
  | setAttentionMask (mask : BitVec 32)
  /-- R64. -/
  | setSync (mode : Byte) (hysteresis halfWidth : Half) (latency limit : Byte)
  /-- R39. -/
  | setLink (tolerance : Half)
  /-- R40. -/
  | selectPrimary (channel : Byte)
  /-- R41. -/
  | resetChannels
  /-- R91: the branch and the six settings; `rest` is what stands beyond the 15th byte, ignored on write. -/
  | setBranch (branch : Byte) (gain : BitVec 24) (trim fallback step : Half) (hold : Byte) (floor : BitVec 32)
      (rest : List Byte)
  /-- R92: twelve shares, the three of bank 0 first. -/
  | setFilters (shares : List Half)
  /-- R93. -/
  | readBranch (branch : Byte)
  /-- R99: the entries α_0 .. α_64. -/
  | loadTable (entries : List Half)
  /-- R101. -/
  | readTable
  /-- R136. -/
  | setValve (guardTime retries : Byte) (lastRetry : Half) (refusals misfires redundancy trip : Byte)
  /-- R142. -/
  | mapGroup (group channel : Byte)
  /-- R137, selection 0. -/
  | readValvesChannelReport
  /-- R137, selection 1. -/
  | readValvesGroupReport
  /-- R149. -/
  | resetGroup (group : Byte)
  /-- R3. -/
  | enable
  /-- R10. -/
  | disable
  /-- R147: 0 AB, 1 BC, 2 CA, 3 ALL. -/
  | block (branch : Byte)
  /-- R148: 0 AB, 1 BC, 2 CA, 3 ALL. -/
  | unblock (branch : Byte)
  /-- R159. -/
  | armPreset (ab bc ca : Half) (closures : Byte)
  /-- R162. -/
  | cancelPreset
  /-- R177. -/
  | readHistory (fromSeq : Index) (max : Byte)
  /-- R174. -/
  | setCapture (triggers post : Half)
  /-- R175. -/
  | triggerCapture
  /-- R176. -/
  | releaseCapture
  /-- R42, with the clear-after-read byte. -/
  | readCountersLink (clear : Byte)
  /-- R139, with the clear-after-read byte. -/
  | readCountersValve (clear : Byte)
  /-- R189, with the clear-after-read byte. -/
  | readCountersSupervisory (clear : Byte)
  /-- R22: a frame on the sample link, its header word and its twelve words, the A and the B word of each quantity. -/
  | dataFrame (header : LinkWord) (words : PerQuantity (PerLink LinkWord))
  /-- R32: a frame on the sample link, its header word and its twelve longitudinal words. -/
  | checkFrame (header : LinkWord) (words : PerQuantity (PerLink LinkWord))
  /-- R36: the gap counter reaches 3. -/
  | linkLate
  /-- R36: the gap counter reaches 12. -/
  | measGap
  /-- R36: the gap counter reaches 48. -/
  | linkLost
  /-- R52: the elapsed time of acquisition reaches 19,200 frame intervals. -/
  | acquireTimeout
  /-- R61: a branch's angle counter reaches 2048 + W. -/
  | crossingSynthesized (branch : Branch)
  /-- R110: a branch's angle counter reaches its armed delay. -/
  | delayReached (branch : Branch)
  /-- R124: a branch's angle counter reaches the guard end of its open transaction. -/
  | guardExpiry (branch : Branch)
  /-- R125: a branch's angle counter reaches the count at which a retry falls due. -/
  | retry (branch : Branch)
  /-- R113, R198: a frame on a valve channel that fails its frame check or its code checks. -/
  | valveFrameError (channel : ValveChannel) (bytes : List Byte)
  /-- R117. -/
  | fv (channel : ValveChannel)
  /-- R122. -/
  | fired (channel : ValveChannel) (tag : BitVec 4)
  /-- R123. -/
  | refused (channel : ValveChannel) (tag : BitVec 4) (cause : RefusalCause)
  /-- R133. -/
  | selfFired (channel : ValveChannel)
  /-- R131. -/
  | status (channel : ValveChannel) (fields : ValveStatus)
  /-- R115: a channel's silence timer reaches 384. -/
  | channelSilent (channel : ValveChannel)
  /-- R155: the raw level of a plant input is now this one (`true` active). -/
  | rawLevelChange (input : PlantInput) (level : Bool)
  /-- R155: the stability timer of a plant input reaches 8. -/
  | plantLineChanged (input : PlantInput)
  /-- R156: the 8th frame interval after a reset comes, for the plant inputs. -/
  | initialSettlingEnd
  /-- R184: a character whose stop bit reads 0 (in MUTE: counted and ignored). -/
  | framingError (data : Byte) (mark : Bool)
  /-- R194: the RESET input is released. -/
  | resetLineRelease
  /-- R194: the supply is back at its working level after a dip. -/
  | supplyRecovery
  deriving DecidableEq, Repr

end Sys2Proof
end

