-- ==== Sys2Proof/Config.lean ====
section
/-! DEFINITION. What the manual leaves open (the free value `Config.pick`), the strap levels State.reset starts from, and the
fixed figures of the spec that more than one rule uses. -/

namespace Sys2Proof.Config

/-- FREE VALUE. Where several marks of the device's own timers, or several closures, fall at the same moment, the spec says that
"either order may occur" (R36, R129, R153, R178) or "in either order" (R169). `pick` chooses which of them is taken next; it has
no body, so nothing can be proved of the choice (assumption 2). -/
opaque pick : Nat → Nat

/-- The unit address the straps give in State.reset (DESIGN CHOICE, assumption 4). -/
def resetAddress : BitVec 7 := 1

/-- The line rate code the rate straps give in State.reset (DESIGN CHOICE, assumption 4): 0, both straps open. -/
def resetRate : BitVec 2 := 0

/-- The gap counter's marks (R36). -/
def lateMark : Nat := 3
def gapMark : Nat := 12
def lostMark : Nat := 48

/-- The consecutive failed blocks at which a channel is FAILED (R33). -/
def failedBlocksLimit : Nat := 4

/-- The run of mismatches or agreements at which DIVERGED is set or cleared (R30). -/
def divergeRun : Nat := 64

/-- The angle counts of one half-period (R54). -/
def halfCycle : Nat := 2048

/-- The delay that stands for no firing order (R104, R106). -/
def noOrder : Nat := 2048

/-- The count a rephased counter is capped at (R57). -/
def startCap : Nat := 2047

/-- The acquisition limits (R52): VAB crossings, and frame intervals. -/
def crossingLimit : Nat := 24
def acquireLimit : Nat := 19200

/-- The silence timer's mark (R115). -/
def silenceMark : Nat := 384

/-- The counts from a guard end to the retry (R124). -/
def retryGap : Nat := 8

/-- The stability timer's mark, and the frame intervals of the initial settling (R155, R156). -/
def stableMark : Nat := 8

/-- The ring's size (R169). -/
def ringSize : Nat := 512

/-- The ticks of the model's clock in one frame interval (assumption 1). -/
def ticksPerInterval : Nat := 32

end Sys2Proof.Config
end

