-- ==== Sys2Proof/Machine/State.lean ====
section
/-! DEFINITION. The state of the FC340: one record for each of its blocks, holding every item the chapter of that block lists,
the pins at its connectors, the model's clock, and the queue of commands that wait. Below each record stands its value after
a reset, item by item from the block's own table (R1, R20, R43, R66, R97, R114, R136, R141, R145, R154, R166, R180). -/

namespace Sys2Proof.Machine

/-! ## Operating Control (R1, R9) -/

/-- The five device states (1.1), in the order of their codes. -/
inductive DeviceState where
  | unset
  | ready
  | acquire
  | run
  | halted
  deriving DecidableEq, Repr

/-- The halt causes of R9. -/
inductive HaltCause where
  | none
  | acquireFailed
  | acquireTimeout
  | phaseOrder
  | syncLost
  | valveFailed
  deriving DecidableEq, Repr

/-- The causes a group fails with (R134), in the order of their codes (R197). -/
inductive FailureCause where
  | channelSilent
  | refusals
  | misfires
  | redundancy
  | cooling
  deriving DecidableEq, Repr

/-- The two nominal frequencies (Units). -/
inductive Nominal where
  | hz50
  | hz60
  deriving DecidableEq, Repr

/-- The halt record (R9). -/
structure HaltRecord where
  cause : HaltCause
  branch : Option Branch
  group : Option Group
  failure : Option FailureCause
  frameIndex : Option Index
  deriving DecidableEq, Repr

/-- The halt record when it is clear (R9). -/
def HaltRecord.clear : HaltRecord := ⟨.none, none, none, none, none⟩

/-- Operating Control: device state, halt record, output lines (`true` asserted), lock frequency (R1, R4). -/
structure OperatingControl where
  device : DeviceState
  halt : HaltRecord
  tripRequest : Bool
  fallbackActive : Bool
  lockFrequency : Option Nominal
  deriving DecidableEq, Repr

/-- R1: UNSET, no halt record, TRIP_REQUEST released, FALLBACK_ACTIVE asserted; R17: no lock frequency. -/
def OperatingControl.reset : OperatingControl := ⟨.unset, .clear, false, true, none⟩

/-! ## Sample Link Receiver (R20) -/

/-- The link states (R37). -/
inductive LinkState where
  | silent
  | flowing
  | late
  | lost
  deriving DecidableEq, Repr

/-- The status of a converter chain (R33). -/
inductive ChannelStatus where
  | good
  | suspect
  | failed
  deriving DecidableEq, Repr

/-- A converter chain's status and consecutive failed-block count (R33). -/
structure ChainState where
  status : ChannelStatus
  failedRun : Nat
  deriving DecidableEq, Repr

/-- A quantity's last used value, runs and DIVERGED flag (R28 to R30). -/
structure QuantityState where
  lastUsed : Half
  mismatchRun : Nat
  agreementRun : Nat
  diverged : Bool
  deriving DecidableEq, Repr

/-- The current block: its index or none, received count, judged mark and twelve accumulators (R31). -/
structure CurrentBlock where
  index : Option (BitVec 5)
  received : Nat
  judged : Bool
  sums : PerQuantity (PerLink Half)
  deriving DecidableEq, Repr

/-- The link counters of R42. -/
structure LinkCounters where
  received : Nat
  patched : Nat
  discarded : Nat
  headerErrors : Nat
  resyncs : Nat
  newStarts : Nat
  lateEntries : Nat
  losses : Nat
  parityErrors : PerLink Nat
  failedBlocks : PerLink Nat
  verified : Nat
  unverified : Nat
  checkDiscarded : Nat
  checkMissing : Nat
  channelFailures : Nat
  primarySwitches : Nat
  substitutions : PerQuantity Nat
  heldWords : PerQuantity Nat
  divergences : PerQuantity Nat
  deriving DecidableEq, Repr

/-- R42: every reset sets every link counter to 0. -/
def LinkCounters.zero : LinkCounters :=
  ⟨0, 0, 0, 0, 0, 0, 0, 0, .fill 0, .fill 0, 0, 0, 0, 0, 0, 0, .fill 0, .fill 0, .fill 0⟩

/-- The Sample Link Receiver (R20). -/
structure SampleLink where
  link : LinkState
  expected : Option Byte
  frameIndex : Index
  gap : Nat
  gapRunning : Bool
  primary : LinkChannel
  chains : PerLink ChainState
  quantities : PerQuantity QuantityState
  block : CurrentBlock
  tolerance : Nat
  counters : LinkCounters
  deriving DecidableEq, Repr

/-- The last column of R20's table. -/
def SampleLink.reset : SampleLink where
  link := .silent
  expected := none
  frameIndex := 0
  gap := 0
  gapRunning := false
  primary := .a
  chains := .fill ⟨.good, 0⟩
  quantities := .fill ⟨0, 0, 0, false⟩
  block := ⟨none, 0, false, .fill (.fill 0)⟩
  tolerance := 256
  counters := .zero

/-! ## Crossing Tracker (R43) -/

/-- The acquisition modes (R43). -/
inductive AcquisitionMode where
  | fixed50
  | fixed60
  | autoSingle
  | autoThree
  deriving DecidableEq, Repr

/-- The five tracking settings (R64). -/
structure SyncSettings where
  mode : AcquisitionMode
  hysteresis : Nat
  halfWidth : Nat
  latency : Nat
  limit : Nat
  deriving DecidableEq, Repr

/-- A crossing position: the frame index before the sign change and a fraction of 0..15 sixteenths (3.1). -/
structure Position where
  frame : Index
  fraction : Nat
  deriving DecidableEq, Repr

/-- The direction of a crossing. -/
inductive CrossingDirection where
  | rising
  | falling
  deriving DecidableEq, Repr

/-- The polarity of a half-cycle (Conventions). -/
inductive Polarity where
  | pos
  | neg
  deriving DecidableEq, Repr

/-- A pending crossing candidate (R44). -/
structure Candidate where
  direction : CrossingDirection
  position : Position
  deriving DecidableEq, Repr

/-- A running angle counter: the whole count and, in parts of 1/P count, the part of the next count elapsed (R54). -/
structure AngleCounter where
  count : Nat
  part : Nat
  deriving DecidableEq, Repr

/-- The sync status of a branch (R63). -/
inductive SyncStatus where
  | inactive
  | waiting
  | inSync
  | outOfSync
  deriving DecidableEq, Repr

/-- What CT keeps for one branch and its voltage (R43). -/
structure Track where
  previous : Option Half
  candidate : Option Candidate
  counter : Option AngleCounter
  period : Option Nat
  polarity : Option Polarity
  lastAccepted : Option Position
  synthesisedRun : Nat
  sync : SyncStatus
  accepted : Nat
  rejected : Nat
  synthesised : Nat
  deriving DecidableEq, Repr

/-- R43, last column, for one branch. -/
def Track.reset : Track := ⟨none, none, none, none, none, none, 0, .inactive, 0, 0, 0⟩

/-- The acquisition progress (R43, R47): intervals oldest first, VBC and VCA positions newest first. -/
structure Progress where
  crossings : Nat
  elapsed : Nat
  intervals : List Int
  previousVab : Option Position
  vbc : List Position
  vca : List Position
  deriving DecidableEq, Repr

/-- Empty progress (R47). -/
def Progress.empty : Progress := ⟨0, 0, [], none, [], []⟩

/-- The Crossing Tracker (R43). N_nom and Q follow from the nominal frequency (R53) and are not stored beside it. -/
structure Tracker where
  settings : SyncSettings
  nominal : Option Nominal
  progress : Progress
  tracks : PerBranch Track
  deriving DecidableEq, Repr

/-- R43 and R64: the settings after every reset. -/
def SyncSettings.reset : SyncSettings := ⟨.autoThree, 512, 192, 40, 8⟩

/-- The last column of R43's table. -/
def Tracker.reset : Tracker := ⟨.reset, none, .empty, .fill .reset⟩

/-! ## Branch Demand Unit (R66) -/

/-- The branch states, in the order of their codes (R197). -/
inductive BranchState where
  | idle
  | track
  | hold
  | fallback
  | preset
  | blocked
  deriving DecidableEq, Repr

/-- The six settings of a branch (R91). -/
structure BranchSettings where
  gain : Nat
  trim : Int
  fallback : Nat
  step : Nat
  holdLimit : Nat
  floor : Nat
  deriving DecidableEq, Repr

/-- R66: a branch's settings after every reset. -/
def BranchSettings.reset : BranchSettings := ⟨0, 0, 0, 4095, 6, 1000000⟩

/-- The gap marks of a window (R70). -/
inductive GapMark where
  | resync
  | measGap
  deriving DecidableEq, Repr

/-- An open window (R69). -/
structure Window where
  energy : Nat
  product : Int
  frames : Nat
  held : Nat
  gapMark : Option GapMark
  filling : Bool
  first : Bool
  deriving DecidableEq, Repr

/-- A branch's decision for the half-cycle in progress (R89). -/
structure Decision where
  susceptance : Nat
  delay : Nat
  deriving DecidableEq, Repr

/-- A preset being applied to a branch: its remaining count and b_pre (R83). -/
structure PresetRun where
  remaining : Nat
  value : Nat
  deriving DecidableEq, Repr

/-- The branch counters (R96). -/
structure BranchCounters where
  judged : Nat
  codes : PerCode Nat
  saturatedHigh : Nat
  saturatedLow : Nat
  fallbackEntries : Nat
  deriving DecidableEq, Repr

/-- What BDU keeps for one branch (R66). -/
structure BranchDemand where
  settings : BranchSettings
  window : Option Window
  state : BranchState
  heldClosures : Nat
  validClosures : Nat
  preset : Option PresetRun
  previous : Option Nat
  decision : Option Decision
  lastCode : Option ValidityCode
  lastDemand : Option Int
  lastMeanSquare : Option Nat
  counters : BranchCounters
  deriving DecidableEq, Repr

/-- R66, last column, for one branch. -/
def BranchDemand.reset : BranchDemand :=
  ⟨.reset, none, .idle, 0, 0, none, none, none, none, none, none, ⟨0, .fill 0, 0, 0, 0⟩⟩

/-- One entry of the four delay lines, which are fed and flushed together (4.2): the three voltages and the frame index. -/
structure DelayEntry where
  voltages : PerBranch Half
  frame : Index
  deriving DecidableEq, Repr

/-- The Branch Demand Unit (R66); the delay lines oldest entry first. -/
structure DemandUnit where
  shares : PerBank (PerBranch Nat)
  lines : List DelayEntry
  branches : PerBranch BranchDemand
  deriving DecidableEq, Repr

/-- The last column of R66's table. -/
def DemandUnit.reset : DemandUnit := ⟨.fill (.fill 0), [], .fill .reset⟩

/-! ## Valve Link Controller (R114, R136, R141) -/

/-- The link state of a valve channel (R115). -/
inductive ChannelLink where
  | active
  | silent
  deriving DecidableEq, Repr

/-- What VLC keeps for one channel (R114). `sent` is the last frame the channel put on its outgoing fibre (assumption 5). -/
structure ChannelState where
  link : ChannelLink
  silence : Nat
  status : Option ValveStatus
  nextTag : BitVec 4
  frameErrors : Nat
  silences : Nat
  sent : Option (List Byte)
  deriving DecidableEq, Repr

/-- R114: a channel after every reset. -/
def ChannelState.reset : ChannelState := ⟨.active, 0, none, 0, 0, 0, none⟩

/-- The group counters (R140). -/
structure GroupCounters where
  orders : Nat
  retries : Nat
  fired : Nat
  misfires : Nat
  refusals : Nat
  notReady : Nat
  overtaken : Nat
  lateDecisions : Nat
  selfFired : Nat
  strays : Nat
  polarityMismatches : Nat
  deriving DecidableEq, Repr

/-- R140: the counters after every reset. -/
def GroupCounters.zero : GroupCounters := ⟨0, 0, 0, 0, 0, 0, 0, 0, 0, 0, 0⟩

/-- What VLC keeps for one group (R114). A group is FAILED exactly while it has a failure cause (R134, R149), so the one
field `failure` holds its state and its cause: `none` is AVAILABLE. -/
structure GroupState where
  failure : Option FailureCause
  ready : Bool
  credit : Bool
  misfireRun : Nat
  refusalRun : Nat
  lastRefusal : Option RefusalCause
  snapshot : Option ValveStatus
  changed : Bool
  counters : GroupCounters
  deriving DecidableEq, Repr

/-- R114: a group after every reset. -/
def GroupState.reset : GroupState := ⟨none, false, false, 0, 0, none, none, false, .zero⟩

/-- The outcomes of a half-cycle (R112), in the order of their codes (10.11, History record). -/
inductive Outcome where
  | fired
  | misfire
  | refused
  | notReady
  | overtaken
  | lateDecision
  | noOrder
  deriving DecidableEq, Repr

/-- A settled outcome with the attempts where it has them (R112, R168). -/
structure Settled where
  outcome : Outcome
  attempts : Option Nat
  deriving DecidableEq, Repr

/-- The phases of an open transaction (R121, R124). -/
inductive Phase where
  | waiting
  | retryGap
  deriving DecidableEq, Repr

/-- An open firing transaction (R121); phase `waiting` is the spec's GUARD. -/
structure Transaction where
  group : Group
  tag : BitVec 4
  attempts : Nat
  phase : Phase
  guardEnd : Nat
  guardTime : Nat
  retries : Nat
  lastRetry : Nat
  deriving DecidableEq, Repr

/-- What VLC keeps for one branch's half-cycle: armed delay, outcome, open transaction (5.4, R114). -/
structure Firing where
  armed : Option Nat
  outcome : Option Settled
  transaction : Option Transaction
  deriving DecidableEq, Repr

/-- No delay armed, outcome unset, no transaction (5.4). -/
def Firing.clear : Firing := ⟨none, none, none⟩

/-- The seven valve settings (R136). -/
structure ValveSettings where
  guardTime : Nat
  retries : Nat
  lastRetry : Nat
  refusalLimit : Nat
  misfireLimit : Nat
  redundancyLimit : Nat
  tripOnBlock : Bool
  deriving DecidableEq, Repr

/-- R136: the valve settings after every reset. -/
def ValveSettings.reset : ValveSettings := ⟨32, 2, 1920, 4, 3, 2, true⟩

/-- The reset map (R141). -/
def resetMap : PerGroup ValveChannel := ⟨.v0, .v1, .v2, .v3, .v4, .v5⟩

/-- The Valve Link Controller (R114, R136, R141). -/
structure ValveControl where
  map : PerGroup ValveChannel
  channels : PerValve ChannelState
  groups : PerGroup GroupState
  firing : PerBranch Firing
  settings : ValveSettings
  deriving DecidableEq, Repr

/-- The reset columns of R114, R136 and R141. -/
def ValveControl.reset : ValveControl := ⟨resetMap, .fill .reset, .fill .reset, .fill .clear, .reset⟩

/-! ## Block causes (R145) -/

/-- A branch's block cause set (R145). -/
structure CauseSet where
  supervisor : Bool
  valve : Bool
  sync : Bool
  plant : Bool
  deriving DecidableEq, Repr

/-- The block causes, in the order R145 lists them. -/
inductive BlockCause where
  | supervisor
  | valve
  | sync
  | plant
  deriving DecidableEq, Repr

/-- The empty set (R145). -/
def CauseSet.empty : CauseSet := ⟨false, false, false, false⟩

/-! ## Plant Line Interface (R154) -/

/-- What PLI keeps for one input (R154); `true` is the active level. -/
structure InputState where
  debounced : Bool
  stability : Nat
  changes : Nat
  deriving DecidableEq, Repr

/-- The preset values an ARMED latch holds (R159). -/
structure PresetValues where
  values : PerBranch Nat
  closures : Nat
  deriving DecidableEq, Repr

/-- The causes of a cancellation (R161). -/
inductive CancelCause where
  | cancelPreset
  | disable
  | block
  | unblock
  | mapGroup
  | setFilters
  | halted
  | breakerClose
  deriving DecidableEq, Repr

/-- The last application of a preset (R160). -/
structure Application where
  frameIndex : Index
  named : PerBranch Bool
  deriving DecidableEq, Repr

/-- The Plant Line Interface (R154). The latch is ARMED exactly while it holds values, so `latch` is both. -/
structure PlantInterface where
  inputs : PerInput InputState
  settling : Bool
  latch : Option PresetValues
  lastCancel : Option CancelCause
  lastApplication : Option Application
  applications : Nat
  cancellations : Nat
  deriving DecidableEq, Repr

/-- The last column of R154's table. -/
def PlantInterface.reset : PlantInterface := ⟨.fill ⟨false, 0, 0⟩, true, none, none, none, 0, 0⟩

/-! ## History Recorder (R166) -/

/-- The kinds of closure (R60). -/
inductive ClosureKind where
  | accepted
  | synthesized
  deriving DecidableEq, Repr

/-- A closure record (R167). -/
structure ClosureRecord where
  seq : Index
  branch : Branch
  frameIndex : Index
  ended : Polarity
  kind : ClosureKind
  frames : Nat
  held : Nat
  code : ValidityCode
  meanSquare : Option Nat
  demand : Option Int
  outcome : Outcome
  attempts : Option Nat
  state : BranchState
  susceptance : Nat
  delay : Nat
  breakerClosed : Bool
  presetActive : Bool
  deriving DecidableEq, Repr

/-- The capture states (9.4). -/
inductive CaptureState where
  | free
  | triggered
  | frozen
  deriving DecidableEq, Repr

/-- What may start a capture: the eight triggers of R171 in the order of their bits, and the request. -/
inductive TriggerCause where
  | misfire
  | groupFailed
  | selfFired
  | syncLost
  | linkLost
  | branchFallback
  | halted
  | breakerClose
  | request
  deriving DecidableEq, Repr

/-- The trigger record (R171). -/
structure TriggerRecord where
  cause : TriggerCause
  seq : Option Index
  frameIndex : Index
  deriving DecidableEq, Repr

/-- The History Recorder (R166); the ring oldest record first, bit n of `triggers` the n-th trigger of R171. -/
structure History where
  ring : List ClosureRecord
  nextSeq : Index
  capture : CaptureState
  triggers : Byte
  post : Nat
  remaining : Nat
  trigger : Option TriggerRecord
  ignored : Nat
  suppressed : Nat
  wraps : Nat
  deriving DecidableEq, Repr

/-- R166: the recorder after a power-on or a supply dip. -/
def History.reset : History := ⟨[], 0, .free, 0, 256, 0, none, 0, 0, 0⟩

/-! ## Supervisory Link Interface (R180) -/

/-- The receive states (R183). -/
inductive ReceiveState where
  | off
  | mute
  | listening
  | answering
  deriving DecidableEq, Repr

/-- The kinds of reset (R194), in the order of their codes. -/
inductive ResetKind where
  | powerOn
  | supplyDip
  | resetLine
  | restart
  deriving DecidableEq, Repr

/-- The status codes of a reply (R187), in the order of their codes. -/
inductive Status where
  | ok
  | refusedState
  | refusedRange
  | refusedConflict
  | unknownKind
  | badLength
  deriving DecidableEq, Repr

/-- A reply that has been built (R188); the CRC and the length follow from the rest. -/
structure Reply where
  address : Byte
  kind : Byte
  status : Status
  attention : Bool
  device : DeviceState
  payload : List Byte
  deriving DecidableEq, Repr

/-- One event kind's flag and count (R190). -/
structure EventCell where
  flag : Bool
  count : Nat
  deriving DecidableEq, Repr

/-- The line counters (R189). -/
structure LineCounters where
  accepted : Nat
  broadcastsExecuted : Nat
  broadcastsIgnored : Nat
  crcErrors : Nat
  gapAbandonments : Nat
  lengthAbandonments : Nat
  framingErrors : Nat
  interrupted : Nat
  ignoredAnswering : Nat
  deriving DecidableEq, Repr

/-- R189: the line counters after every reset. -/
def LineCounters.zero : LineCounters := ⟨0, 0, 0, 0, 0, 0, 0, 0, 0⟩

/-- The Supervisory Link Interface (R180). `reply` is the reply built and not yet wholly sent, `driving` whether the unit
drives the line (R188). `output` is the characters it drives the line with, none while it does not (assumption 5). -/
structure Supervisory where
  address : BitVec 7
  rate : BitVec 2
  receive : ReceiveState
  assembly : List Byte
  events : PerEvent EventCell
  mask : BitVec 32
  counters : LineCounters
  resetCause : ResetKind
  resetCount : Nat
  reply : Option Reply
  driving : Bool
  output : List LineChar
  deriving DecidableEq, Repr

/-- R191: after every reset the mask has bits 0 to 28 set. -/
def resetMask : BitVec 32 := 0x1FFFFFFF

/-- The event summary with every flag down and every count 0 (R180). -/
def noEvents : PerEvent EventCell := .fill ⟨false, 0⟩

/-- R180: the interface after a reset, given the straps read and the reset cause record. -/
def Supervisory.reset (address : BitVec 7) (rate : BitVec 2) (cause : ResetKind) (count : Nat) : Supervisory :=
  ⟨address, rate, .off, [], noEvents, resetMask, .zero, cause, count, none, false, []⟩

/-! ## Pins and clock -/

/-- The logic levels at the connectors that the spec reads: the nine straps (seven address, two rate), the raw levels of the
plant inputs (`true` active), the RESET input, and the supply monitor's verdict that the supply is below its working level
(Connections, 8.1, R180, R194). No reset changes them. -/
structure Pins where
  addressStraps : BitVec 7
  rateStraps : BitVec 2
  raw : PerInput Bool
  resetAsserted : Bool
  supplyLow : Bool
  deriving DecidableEq, Repr

/-- The MODEL's clock (assumption 1): the ticks elapsed of the frame interval in progress, the frame intervals since the last
reset up to 8 (R156, R183), and how many times the free value `Config.pick` has been used. -/
structure Clock where
  phase : Nat
  sinceReset : Nat
  picks : Nat
  deriving DecidableEq, Repr

/-- The whole state. `table` is the FDC's characteristic table (R97), `causes` the block cause sets (R145), `pending` the
commands that wait, first in first out. -/
structure State where
  pins : Pins
  clock : Clock
  oc : OperatingControl
  slr : SampleLink
  ct : Tracker
  bdu : DemandUnit
  table : Option (List Nat)
  vlc : ValveControl
  causes : PerBranch CauseSet
  pli : PlantInterface
  hr : History
  sli : Supervisory
  pending : List Instr
  deriving DecidableEq, Repr

/-- Why the machine would stop. The spec lets no command stop the FC340: it turns away, ignores or counts what it cannot use,
and goes on. There is no fault. -/
inductive Fault where
  deriving DecidableEq, Repr

/-- Why a command would be refused by the model. -/
inductive Refusal where
  /-- Raised by `exec` alone, for a row of the table that has no meaning yet; safe: nothing can be proved of the command. No
  arm raises it now. -/
  | notModelled (mnemonic : String)
  deriving DecidableEq, Repr

/-- The pins of State.reset: straps as Config names them, every plant input inactive, RESET released, supply good
(DESIGN CHOICE, assumption 4). -/
def Pins.initial : Pins := ⟨Config.resetAddress, Config.resetRate, .fill false, false, false⟩

/-- Right after a power-on reset, with nothing in the queue: every item at the value its block's table gives (R1, R20, R43,
R66, R97, R114, R136, R141, R145, R154, R166, R180, R195). -/
def State.reset : State where
  pins := Pins.initial
  clock := ⟨0, 0, 0⟩
  oc := .reset
  slr := .reset
  ct := .reset
  bdu := .reset
  table := none
  vlc := .reset
  causes := .fill .empty
  pli := .reset
  hr := .reset
  sli := .reset Pins.initial.addressStraps Pins.initial.rateStraps .powerOn 0
  pending := []

end Sys2Proof.Machine
end

