-- ==== Sys2Proof/Decode.lean ====
section
/-! DEFINITION. The command a word spells by the bits of spec/opcode_table.json. No row of the table gives bits, so no word spells
one. (The frames of the links have codes of their own: Machine/Codec.lean.) -/

namespace Sys2Proof

/-- None of the 65 rows has bits. -/
def decodeTableWord (_nbits _w : Nat) : Option Instr := none

end Sys2Proof
end

