-- ==== Sys2Proof/Machine/Codec.lean ====
section
/-! DEFINITION. The checks and codes of the frames on the FC340's links: sample word parity and header words (R21, R198), the
CRC of supervisory frames (R185), the frame check and codes of valve frames (10.11, R198), and the byte order of payloads
(R197). -/

namespace Sys2Proof.Machine

/-! ## Payload bytes (R197) -/

/-- An integer in `k` bytes, high byte first (R197). -/
def bigEndian : Nat → Nat → List Byte
  | 0, _ => []
  | k + 1, n => bigEndian k (n / 256) ++ [BitVec.ofNat 8 n]

/-- The integer that bytes carry, high byte first (R197). -/
def ofBytes (bytes : List Byte) : Nat := bytes.foldl (fun n b => 256 * n + b.toNat) 0

/-- A signed integer in `k` bytes, two's complement (R197). -/
def bigEndianInt (k : Nat) (z : Int) : List Byte := bigEndian k (BitVec.ofInt (8 * k) z).toNat

/-- One byte. -/
def byte (n : Nat) : List Byte := [BitVec.ofNat 8 n]

/-- A two-valued field: 1 for the first of the pair (R197). -/
def flag (b : Bool) : List Byte := if b then [1] else [0]

/-- An optional field: a presence byte, and the field's bytes only when it is present (R197). -/
def optional {α : Type} (enc : α → List Byte) : Option α → List Byte
  | none => [0]
  | some x => 1 :: enc x

/-- The number whose bit n is the n-th member of a set (R197). -/
def bitMask (members : List Bool) : Nat :=
  members.foldr (fun b n => (if b then 1 else 0) + 2 * n) 0

/-! ## Supervisory frames (R185) -/

/-- One shift of the CRC register: x^16 + x^12 + x^5 + 1 (R185). -/
def crc16Shift (c : Half) : Half := if c.msb then (c <<< 1) ^^^ 0x1021 else c <<< 1

/-- One byte taken into the CRC, most significant bit first (R185). -/
def crc16Byte (c : Half) (b : Byte) : Half :=
  crc16Shift <| crc16Shift <| crc16Shift <| crc16Shift <| crc16Shift <| crc16Shift <| crc16Shift <| crc16Shift <|
    c ^^^ (b.setWidth 16 <<< 8)

/-- The CRC of a supervisory frame: initial value all ones, no final inversion (R185). -/
def crc16 (bytes : List Byte) : Half := bytes.foldl crc16Byte 0xFFFF

/-- The two CRC characters, high byte first (R182). -/
def crcBytes (bytes : List Byte) : List Byte := bigEndian 2 (crc16 bytes).toNat

/-- A request frame: address, kind, length, payload, CRC (R182). -/
def requestBytes (address kind : Byte) (payload : List Byte) : List Byte :=
  let body := address :: kind :: BitVec.ofNat 8 payload.length :: payload
  body ++ crcBytes body

/-! ## Sample link words (R21, R198) -/

/-- R21: the sixteen data bits and the parity bit together hold an odd number of ones. -/
def parityGood (w : LinkWord) : Bool :=
  (List.range 16).foldl (fun acc i => acc ^^ w.data.getLsbD i) w.parity

/-- What a header word says. -/
inductive Header where
  | error
  | data (sequence : Byte)
  | check (index : BitVec 5)
  deriving DecidableEq, Repr

/-- R21 and R198: bad parity, an unknown kind, bits 11..8 not 0, or bits 7..5 of a check header not 0 make a header error. -/
def readHeader (w : LinkWord) : Header :=
  if !parityGood w then .error
  else if w.data.extractLsb' 8 4 ≠ 0#4 then .error
  else if w.data.extractLsb' 12 4 = 9#4 then .data (w.data.extractLsb' 0 8)
  else if w.data.extractLsb' 12 4 = 6#4 then
    if w.data.extractLsb' 5 3 = 0#3 then .check (w.data.extractLsb' 0 5) else .error
  else .error

/-! ## Valve link frames (10.11, R198) -/

/-- One shift of the frame check register: x^8 + x^2 + x + 1. -/
def crc8Shift (c : Byte) : Byte := if c.msb then (c <<< 1) ^^^ 0x07 else c <<< 1

/-- One byte taken into the frame check, most significant bit first. -/
def crc8Byte (c b : Byte) : Byte :=
  crc8Shift <| crc8Shift <| crc8Shift <| crc8Shift <| crc8Shift <| crc8Shift <| crc8Shift <| crc8Shift <| c ^^^ b

/-- The frame check of a valve frame: initial value 0, no final inversion. -/
def crc8 (bytes : List Byte) : Byte := bytes.foldl crc8Byte 0

/-- The FIRE frame with a tag: kind 0x1 in bits 7..4, the tag in bits 3..0, then the frame check (10.11, R121). -/
def fireFrame (tag : BitVec 4) : List Byte :=
  let first : Byte := 0x10 ||| tag.setWidth 8
  [first, crc8 [first]]

/-- The five indications a valve sends (6.1). -/
inductive Indication where
  | fv
  | fired (tag : BitVec 4)
  | refused (tag : BitVec 4) (cause : RefusalCause)
  | selfFired
  | status (fields : ValveStatus)
  deriving DecidableEq, Repr

/-- The cause a REFUSED second byte codes; none above 3 (R198). -/
def readRefusal (b : Byte) : Option RefusalCause :=
  if b = 0 then some .overtemperature
  else if b = 1 then some .gateSupply
  else if b = 2 then some .protectiveBlock
  else if b = 3 then some .noForwardVoltage
  else none

/-- The fields a STATUS second byte codes; none where bit 4 or bit 3 is set (R198). -/
def readStatus (b : Byte) : Option ValveStatus :=
  if b.extractLsb' 3 2 = 0#2 then
    some ⟨b.getLsbD 7, b.getLsbD 6, b.extractLsb' 0 3, b.getLsbD 5⟩
  else none

/-- The indication a valve frame carries, or none where it fails its frame check or its code checks (R113, R198). The low
half of the first byte of a kind without a tag is not judged (assumption 6). -/
def readIndication : List Byte → Option Indication
  | [first, check] =>
    if crc8 [first] ≠ check then none
    else if first.extractLsb' 4 4 = 2#4 then some .fv
    else if first.extractLsb' 4 4 = 3#4 then some (.fired (first.extractLsb' 0 4))
    else if first.extractLsb' 4 4 = 5#4 then some .selfFired
    else none
  | [first, second, check] =>
    if crc8 [first, second] ≠ check then none
    else if first.extractLsb' 4 4 = 4#4 then (readRefusal second).map (.refused (first.extractLsb' 0 4))
    else if first.extractLsb' 4 4 = 6#4 then (readStatus second).map .status
    else none
  | _ => none

end Sys2Proof.Machine
end

