-- ==== Sys2Proof/Machine/Ops.lean ====
section
/-! DEFINITION. The named operations every block shares: changing one block's item by name, taking what falls together
in any order (assumption 2), raising an event (R190) and
offering it to the capture (R171, R172), the output lines (R15, R16), cancelling the preset latch (R161), and leaving RUN for
HALTED (R8) or READY (R10). -/

namespace Sys2Proof.Machine

/-! ## One item changed -/

/-- Change the tracking items of one branch. -/
def modTrack (b : Branch) (f : Track → Track) (s : State) : State :=
  { s with ct := { s.ct with tracks := s.ct.tracks.set b (f (s.ct.tracks.get b)) } }

/-- Change the demand items of one branch. -/
def modDemand (b : Branch) (f : BranchDemand → BranchDemand) (s : State) : State :=
  { s with bdu := { s.bdu with branches := s.bdu.branches.set b (f (s.bdu.branches.get b)) } }

/-- Change the items of one valve channel. -/
def modChannel (c : ValveChannel) (f : ChannelState → ChannelState) (s : State) : State :=
  { s with vlc := { s.vlc with channels := s.vlc.channels.set c (f (s.vlc.channels.get c)) } }

/-- Change the items of one valve group. -/
def modGroup (g : Group) (f : GroupState → GroupState) (s : State) : State :=
  { s with vlc := { s.vlc with groups := s.vlc.groups.set g (f (s.vlc.groups.get g)) } }

/-- Change the counters of one valve group. -/
def modGroupCounters (g : Group) (f : GroupCounters → GroupCounters) (s : State) : State :=
  modGroup g (fun r => { r with counters := f r.counters }) s

/-- Change the firing items of one branch. -/
def modFiring (b : Branch) (f : Firing → Firing) (s : State) : State :=
  { s with vlc := { s.vlc with firing := s.vlc.firing.set b (f (s.vlc.firing.get b)) } }

/-- Change the items of one plant input. -/
def modInput (i : PlantInput) (f : InputState → InputState) (s : State) : State :=
  { s with pli := { s.pli with inputs := s.pli.inputs.set i (f (s.pli.inputs.get i)) } }

/-- Change the link counters. -/
def modLinkCounters (f : LinkCounters → LinkCounters) (s : State) : State :=
  { s with slr := { s.slr with counters := f s.slr.counters } }

/-- Change the line counters. -/
def modLineCounters (f : LineCounters → LineCounters) (s : State) : State :=
  { s with sli := { s.sli with counters := f s.sli.counters } }

/-- Change the gap mark and marks of one branch's window, where one is open. -/
def modWindow (b : Branch) (f : Window → Window) (s : State) : State :=
  modDemand b (fun d => { d with window := d.window.map f }) s

/-- Do the same for the three branches, in the order AB, BC, CA. -/
def forBranches (f : Branch → State → State) (s : State) : State := f .ca (f .bc (f .ab s))

/-! ## What the spec leaves in either order -/

/-- `n` uses of the free value are counted (assumption 2). -/
def takePicks (n : Nat) (s : State) : State := { s with clock := { s.clock with picks := s.clock.picks + n } }

/-- An order of things that fall together: any order may occur, so each next one is chosen by the free value (assumption 2). A
single one needs no choice. -/
def arrange {α : Type} : Nat → Nat → List α → List α
  | 0, _, l => l
  | _ + 1, _, [] => []
  | _ + 1, _, [x] => [x]
  | fuel + 1, n, l =>
    let i := Config.pick n % l.length
    (l[i]?).toList ++ arrange fuel (n + 1) (l.eraseIdx i)

/-- Things that fall together, in an order the free value gives. -/
def anyOrder {α : Type} (l : List α) (s : State) : List α := arrange l.length s.clock.picks l

/-- Do something for each of several things that fall together, one after another. -/
def inAnyOrder {α : Type} (f : α → State → State) (l : List α) (s : State) : State :=
  (anyOrder l s).foldl (fun s x => f x s) (takePicks l.length s)

/-! ## Counters -/

/-- A 16-bit and a 32-bit saturating counter. -/
def count16 (n : Nat) : Nat := bump 65535 n
def count32 (n : Nat) : Nat := bump 4294967295 n

/-! ## Events and triggers -/

/-- R190: put up the kind's flag and add one to its count, which stops at 255. -/
def noteEvent (k : EventKind) (s : State) : State :=
  let c := s.sli.events.get k
  { s with sli := { s.sli with events := s.sli.events.set k ⟨true, bump 255 c.count⟩ } }

/-- The trigger an event is, if any (R171). BREAKER_CLOSE is no event kind: PLI reports it. -/
def triggerOf : EventKind → Option TriggerCause
  | .misfire => some .misfire
  | .groupFailed => some .groupFailed
  | .selfFired => some .selfFired
  | .syncLost => some .syncLost
  | .linkLost => some .linkLost
  | .branchFallback => some .branchFallback
  | .halted => some .halted
  | _ => none

/-- The bit of a trigger in the trigger set, and its code in the trigger record (R171, R197). -/
def triggerNumber : TriggerCause → Nat
  | .misfire => 0
  | .groupFailed => 1
  | .selfFired => 2
  | .syncLost => 3
  | .linkLost => 4
  | .branchFallback => 5
  | .halted => 6
  | .breakerClose => 7
  | .request => 8

/-- R172: the capture enters FROZEN, the suppressed records are set to 0 and CAPTURE_FROZEN is raised. -/
def freeze (s : State) : State :=
  noteEvent .captureFrozen { s with hr := { s.hr with capture := .frozen, suppressed := 0 } }

/-- R171 and R172: a trigger taken in FREE enters TRIGGERED and fills the trigger record, and with post count 0 freezes at
once; taken otherwise it is counted as ignored. -/
def takeTrigger (c : TriggerCause) (s : State) : State :=
  match s.hr.capture with
  | .free =>
    let s' := { s with hr := { s.hr with
      capture := .triggered
      trigger := some ⟨c, s.hr.ring.getLast?.map (·.seq), s.slr.frameIndex⟩
      remaining := s.hr.post
      ignored := 0 } }
    if s.hr.post = 0 then freeze s' else s'
  | _ => { s with hr := { s.hr with ignored := count16 s.hr.ignored } }

/-- R171: an event of the trigger list is a trigger when it is in the trigger set at the moment it is raised. -/
def offerTrigger (c : TriggerCause) (s : State) : State :=
  if s.hr.triggers.getLsbD (triggerNumber c) then takeTrigger c s else s

/-- Raise an event: the event summary (R190), then the capture (R171). -/
def raise (k : EventKind) (s : State) : State :=
  match triggerOf k with
  | some c => offerTrigger c (noteEvent k s)
  | none => noteEvent k s

/-! ## Output lines (R15, R16) -/

/-- A branch state that releases FALLBACK_ACTIVE: TRACK or HOLD (R16). -/
def followsFurnace : BranchState → Bool
  | .track | .hold => true
  | _ => false

/-- The level R16 gives FALLBACK_ACTIVE: released in RUN while every branch is in TRACK or HOLD, asserted otherwise. -/
def fallbackLevel (s : State) : Bool :=
  !(s.oc.device == .run && (s.bdu.branches.toList.all fun d => followsFurnace d.state))

/-- R16, R87: OC re-evaluates FALLBACK_ACTIVE. -/
def refreshLines (s : State) : State :=
  { s with oc := { s.oc with fallbackActive := fallbackLevel s } }

/-! ## The preset latch (R161) -/

/-- R161: an ARMED latch is cancelled, its cause recorded and counted, and PRESET_CANCELLED raised; a NOT_ARMED latch is left
as it is, with no event. -/
def cancelLatch (c : CancelCause) (s : State) : State :=
  match s.pli.latch with
  | none => s
  | some _ =>
    raise .presetCancelled
      { s with pli := { s.pli with latch := none, lastCancel := some c, cancellations := count16 s.pli.cancellations } }

/-! ## Leaving RUN -/

/-- What a branch's demand items become when the device leaves RUN (R71, R78): the window is abandoned, the state reads IDLE,
and the decision, b_prev, counts and preset are cleared. The last code, demand and mean square are kept. -/
def leaveRunDemand (d : BranchDemand) : BranchDemand :=
  { d with window := none, state := .idle, heldClosures := 0, validClosures := 0, preset := none, previous := none,
           decision := none }

/-- R118: a group's ready mark and early credit cleared. -/
def clearReadiness (g : GroupState) : GroupState := { g with ready := false, credit := false }

/-- The last column of R114's table: marks and credits cleared, transactions abandoned with no outcome, armed delays and
outcomes cleared. A misfire or a refusal that another branch's transaction would have had in the same moment comes about no more
(R7, R8, R10; assumption 32). -/
def abandonFiring (s : State) : State :=
  { s with vlc := { s.vlc with groups := s.vlc.groups.mapKey (fun _ => clearReadiness), firing := .fill .clear } }

/-- R43: what entry into HALTED does to a branch's tracking items; polarity and consecutive-synthesised count are kept, and a
branch that lost sync stays OUT_OF_SYNC (R62). -/
def haltTrack (t : Track) : Track :=
  { t with previous := none, candidate := none, counter := none, period := none, lastAccepted := none,
           sync := if t.sync = .outOfSync then .outOfSync else .inactive }

/-- R43: what DISABLE does to a branch's tracking items; only the three counts of closures and crossings are kept. -/
def disableTrack (t : Track) : Track :=
  { Track.reset with accepted := t.accepted, rejected := t.rejected, synthesised := t.synthesised }

/-- R15: TRIP_REQUEST is asserted on entry into HALTED from RUN with cause SYNC_LOST or VALVE_FAILED. -/
def trips (from_ : DeviceState) (c : HaltCause) : Bool :=
  from_ == .run && (c == .syncLost || c == .valveFailed)

/-- R8: entry into HALTED, from ACQUIRE or from RUN; in another state a report changes nothing (R6, R7).
Every open transaction is abandoned at once, one whose group would have failed in the same moment too (assumption 32). -/
def enterHalted (c : HaltCause) (b : Option Branch) (g : Option Group) (f : Option FailureCause) (s : State) : State :=
  if s.oc.device = .acquire ∨ s.oc.device = .run then
    let stopped := abandonFiring
      { s with
        oc := { s.oc with
          device := .halted
          halt := ⟨c, b, g, f, some s.slr.frameIndex⟩
          tripRequest := trips s.oc.device c
          fallbackActive := true }
        ct := { s.ct with nominal := none, progress := .empty, tracks := s.ct.tracks.mapKey (fun _ => haltTrack) }
        bdu := { s.bdu with branches := s.bdu.branches.mapKey (fun _ => leaveRunDemand) } }
    cancelLatch .halted (raise .halted stopped)
  else s

/-- R68: the four delay lines are emptied at once. -/
def flushLines (s : State) : State := { s with bdu := { s.bdu with lines := [] } }

/-- R10: DISABLE in ACQUIRE, RUN or HALTED; R11: elsewhere it changes nothing. Every open transaction is abandoned (R10), so a
group whose failure would have been the close of one in the same moment does not fail in READY (R12; assumption 32). -/
def disableDevice (s : State) : State :=
  match s.oc.device with
  | .unset | .ready => s
  | _ =>
    let stopped := abandonFiring <| flushLines
      { s with
        oc := ⟨.ready, .clear, false, true, none⟩
        ct := { s.ct with nominal := none, progress := .empty, tracks := s.ct.tracks.mapKey (fun _ => disableTrack) }
        bdu := { s.bdu with branches := s.bdu.branches.mapKey (fun _ => leaveRunDemand) }
        causes := s.causes.mapKey (fun _ c => { c with sync := false }) }
    cancelLatch .disable stopped

/-! ## Reset (R194) -/

/-- The device is held in reset: RESET is asserted or the supply is below its working level (R194). -/
def inReset (s : State) : Bool := s.pins.resetAsserted || s.pins.supplyLow

/-- A block takes a command only while the device is not held in reset (R183, R194). -/
def running (f : State → State) (s : State) : State := if inReset s then s else f s

/-- R194: every block takes its reset values and the straps are read again; pins, queue and the model's own count of free
choices stand. The history and the reset cause record are the two items that differ between the kinds. -/
def resetBlocks (hr : History) (cause : ResetKind) (count : Nat) (s : State) : State :=
  { State.reset with
    pins := s.pins
    clock := ⟨0, 0, s.clock.picks⟩
    hr := hr
    sli := .reset s.pins.addressStraps s.pins.rateStraps cause count
    pending := s.pending }

/-- A reset of one kind begins (R179, R194, R195): a power-on and a supply dip empty the history; a power-on sets the reset
count to 0 and every other kind adds one to it. -/
def beginReset (k : ResetKind) (s : State) : State :=
  match k with
  | .powerOn => resetBlocks .reset .powerOn 0 s
  | .supplyDip => resetBlocks .reset .supplyDip (count16 s.sli.resetCount) s
  | .resetLine => resetBlocks s.hr .resetLine (count16 s.sli.resetCount) s
  | .restart => resetBlocks s.hr .restart (count16 s.sli.resetCount) s

/-- The end of a reset that held the device (R194): each block takes the values of its chapter again; the reset cause record
and what is kept of the history stand as the reset's beginning left them. -/
def endReset (s : State) : State := resetBlocks s.hr s.sli.resetCause s.sli.resetCount s

end Sys2Proof.Machine
end

