-- ==== Sys2Proof/Machine/Flags.lean ====
section
/-! DEFINITION. Conditions the spec derives from the state and never stores: the measurement condition (R38), the
forced-measurement condition (R73), the BLOCKED tests (R13, R142), the attention flag (R191), the figures of the nominal
frequency (R53), the due group (R107), and the configuration condition (R2). -/

namespace Sys2Proof.Machine

/-- The measurement conditions, in the order R38's table lists them. -/
inductive MeasurementCondition where
  | absent
  | degraded
  | normal
  deriving DecidableEq, Repr

/-- R38. -/
def measurementCondition (l : SampleLink) : MeasurementCondition :=
  match l.link with
  | .silent | .lost => .absent
  | .flowing | .late =>
    if (l.chains.get .a).status = .failed ∧ (l.chains.get .b).status = .failed then .degraded else .normal

/-- The DIVERGED flag of one of the three quantities a branch uses is set (R30, R73). -/
def branchDiverged (l : SampleLink) (b : Branch) : Bool :=
  (l.quantities.get b.voltage).diverged || (l.quantities.get b.currentFrom).diverged ||
    (l.quantities.get b.currentTo).diverged

/-- R73, order 2: a closure of the branch at this moment would be MEAS_FORCED by its order-2 test. -/
def forced (l : SampleLink) (b : Branch) : Bool := measurementCondition l != .normal || branchDiverged l b

/-- A block cause set that is empty (R145). -/
def noCauses (c : CauseSet) : Bool := !(c.supervisor || c.valve || c.sync || c.plant)

/-- The set with one cause added (R145). -/
def addToSet (c : CauseSet) : BlockCause → CauseSet
  | .supervisor => { c with supervisor := true }
  | .valve => { c with valve := true }
  | .sync => { c with sync := true }
  | .plant => { c with plant := true }

/-- R13, R142: a branch counts as BLOCKED in RUN when its state is BLOCKED, and elsewhere when its set is not empty. -/
def isBlocked (s : State) (b : Branch) : Bool :=
  if s.oc.device = .run then (s.bdu.branches.get b).state == .blocked else !noCauses (s.causes.get b)

/-- R142 check 3 and R149: MAP_GROUP and RESET_GROUP are open in UNSET, READY and HALTED, and in ACQUIRE and RUN for a branch
that is BLOCKED. -/
def groupRequestOpen (s : State) (b : Branch) : Bool :=
  match s.oc.device with
  | .unset | .ready | .halted => true
  | .acquire | .run => isBlocked s b

/-- The event flags as the mask's bits number them (R190, R191). -/
def eventFlags (e : PerEvent EventCell) : BitVec 32 := BitVec.ofNat 32 (bitMask (e.toList.map (·.flag)))

/-- R191: at least one event flag is up whose mask bit is set. -/
def attention (s : State) : Bool := eventFlags s.sli.events &&& s.sli.mask != 0#32

/-- The half-period of a nominal frequency in sixteenths (R53). -/
def halfPeriod : Nominal → Nat
  | .hz50 => 1536
  | .hz60 => 1280

/-- N_nom (R53). -/
def nominalFrames : Nominal → Nat
  | .hz50 => 96
  | .hz60 => 80

/-- Q (R53). -/
def quarterFrames : Nominal → Nat
  | .hz50 => 48
  | .hz60 => 40

/-- The frequency in force. In RUN it is held (R53); the 50 Hz here stands for no state a run reaches. -/
def nominalOf (s : State) : Nominal := s.ct.nominal.getD .hz50

/-- The direction that fires in a half-cycle of a polarity (Conventions, 6.4). -/
def dueDirection : Polarity → Direction
  | .pos => .forward
  | .neg => .reverse

/-- The other polarity. -/
def flipPolarity : Polarity → Polarity
  | .pos => .neg
  | .neg => .pos

/-- The polarity of the half-cycle that a crossing of a direction begins (R55, R57). -/
def crossingPolarity : CrossingDirection → Polarity
  | .rising => .pos
  | .falling => .neg

/-- The due group of a branch in a half-cycle of a polarity (R107). -/
def dueGroup (b : Branch) (p : Polarity) : Group := b.group (dueDirection p)

/-- R2: the table is present and every gain is non-zero. -/
def configured (s : State) : Bool :=
  s.table.isSome && s.bdu.branches.toList.all fun d => d.settings.gain != 0

/-- R2: the evaluation of the configuration condition, made in UNSET alone. -/
def evaluateConfiguration (s : State) : State :=
  if s.oc.device = .unset ∧ configured s = true then { s with oc := { s.oc with device := .ready } } else s

/-- R181, R183: an address of 1..126 makes the unit individually addressable. -/
def addressable (s : State) : Bool := s.sli.address != 0 && s.sli.address != 127

/-- R119: an order may go to a group: the device is in RUN, the branch's set is empty, and the group is AVAILABLE. -/
def orderable (s : State) (g : Group) : Bool :=
  s.oc.device == .run && noCauses (s.causes.get g.branch) && (s.vlc.groups.get g).failure.isNone

/-- The largest count of an angle counter: 2048 + W (R54). -/
def topCount (s : State) : Nat := Config.halfCycle + s.ct.settings.halfWidth

/-- The start of the acceptance window and of the early-credit zone: 2048 − W (R56, R117). -/
def acceptFrom (s : State) : Nat := Config.halfCycle - s.ct.settings.halfWidth

end Sys2Proof.Machine
end

