-- ==== Sys2Proof/Machine/Blocking.lean ====
section
/-! DEFINITION. Block causes and what they do to a branch (R145, R150, R151), the failure of a valve group (R134, R146) and the
halt a newly added VALVE cause brings (R7, R152). -/

namespace Sys2Proof.Machine

/-- R127, R150: an open transaction closes as OVERTAKEN; one overtaken is counted, no event is raised, and the consecutive
counts stand. -/
def closeOvertaken (b : Branch) (t : Transaction) (s : State) : State :=
  modGroupCounters t.group (fun c => { c with overtaken := count16 c.overtaken })
    (modFiring b (fun f => { f with transaction := none, outcome := some ⟨.overtaken, some t.attempts⟩ }) s)

/-- R86: a branch's demand items on entry into BLOCKED. -/
def blockDemand (d : BranchDemand) : BranchDemand :=
  { d with state := .blocked, decision := some ⟨0, Config.noOrder⟩, heldClosures := 0, validClosures := 0,
           previous := none, preset := none }

/-- R86, R151: a branch's demand items on leaving BLOCKED. The decision stays as it stands, none for a branch that was BLOCKED
from its entry into RUN (R78) and has had no closure; READ_BRANCH gives none before the first closure (R93; assumption 22). -/
def unblockDemand (d : BranchDemand) : BranchDemand :=
  { d with state := .fallback, heldClosures := 0, validClosures := 0, previous := none }

/-- R150: a branch enters BLOCKED in RUN. -/
def enterBlocked (b : Branch) (s : State) : State :=
  let s1 := modFiring b (fun f => { f with armed := none }) (modDemand b blockDemand s)
  refreshLines <|
    match (s1.vlc.firing.get b).transaction with
    | some t => closeOvertaken b t s1
    | none => s1

/-- R151: a branch leaves BLOCKED in RUN. -/
def leaveBlocked (b : Branch) (s : State) : State := refreshLines (modDemand b unblockDemand s)

/-- R145: a change of a branch's set. In RUN a set that becomes non-empty blocks the branch and one that becomes empty
unblocks it; outside RUN no branch state moves. -/
def changeCauses (b : Branch) (f : CauseSet → CauseSet) (s : State) : State :=
  let old := s.causes.get b
  let new := f old
  let s' := { s with causes := s.causes.set b new }
  if s.oc.device = .run then
    if noCauses old && !noCauses new then enterBlocked b s'
    else if !noCauses old && noCauses new then leaveBlocked b s'
    else s'
  else s'

/-- R145: add a cause to a branch's set. -/
def addCause (b : Branch) (c : BlockCause) (s : State) : State := changeCauses b (fun set => addToSet set c) s

/-- R134, R146, R152: an AVAILABLE group becomes FAILED: its cause is recorded, its mark and credit cleared, GROUP_FAILED
raised and VALVE added to its branch's set; where VALVE is newly added in RUN with trip_on_block yes, OC halts the device
(R7). A FAILED group keeps its first cause. -/
def failGroup (g : Group) (c : FailureCause) (s : State) : State :=
  match (s.vlc.groups.get g).failure with
  | some _ => s
  | none =>
    let had := (s.causes.get g.branch).valve
    let s1 := raise .groupFailed (modGroup g (fun r => { clearReadiness r with failure := some c }) s)
    let s2 := addCause g.branch .valve s1
    if !had && s2.oc.device == .run && s2.vlc.settings.tripOnBlock then
      enterHalted .valveFailed (some g.branch) (some g) (some c) s2
    else s2

end Sys2Proof.Machine
end

