-- ==== Sys2Proof/Machine/FiringDelay.lean ====
section
/-! DEFINITION. The Firing Delay Converter's conversion (R104, R105) and the validation of a characteristic table (R97, R99). -/

namespace Sys2Proof.Machine

/-- R105: interpolation between two neighbouring entries, for a susceptance of 1..4095. -/
def interpolate (table : List Nat) (b : Nat) : Nat :=
  let k := b / 64
  let r := b - 64 * k
  let here := table.getD k Config.noOrder
  let fall := here - table.getD (k + 1) Config.noOrder
  here - (fall * r + 32) / 64

/-- R104 and R105: a susceptance of 0 converts to 2048 whatever the table holds. In RUN the table is complete (R97); an
absent table, in no state a run reaches, gives no order. -/
def convert (table : Option (List Nat)) (b : Nat) : Nat :=
  match table with
  | none => Config.noOrder
  | some t => if b = 0 then Config.noOrder else interpolate t b

/-- The kinds of a table's fault (R99), in the order of their codes. -/
inductive TableFault where
  | outOfRange
  | increasing
  deriving DecidableEq, Repr

/-- R99: the first fault of the entries from index `k` on, where `above` is the entry before them; range before order. -/
def firstFaultFrom (k : Nat) (above : Option Nat) : List Nat → Option (Nat × TableFault)
  | [] => none
  | x :: rest =>
    if x < 1024 ∨ 2048 < x then some (k, .outOfRange)
    else if (above.any fun p => decide (p < x)) then some (k, .increasing)
    else firstFaultFrom (k + 1) (some x) rest

/-- R99: the table's first fault. -/
def firstFault (entries : List Nat) : Option (Nat × TableFault) := firstFaultFrom 0 none entries

end Sys2Proof.Machine
end

