-- ==== Sys2Proof/Machine/Valve.lean ====
section
/-! DEFINITION. The Valve Link Controller: channels and routing (R113, R115, R116), readiness (R117, R118), the firing
transaction (R119 to R130), group supervision (R131 to R135), and the hand-over of a delay (R107, R112). -/

namespace Sys2Proof.Machine

/-! ## Channels and routing -/

/-- The group a channel carries under the map; none for a spare (R141). -/
def groupOn (map : PerGroup ValveChannel) (c : ValveChannel) : Option Group :=
  Group.all.find? fun g => map.get g == c

/-- The current status of a group: the latest status of the channel it is mapped to (R114). -/
def currentStatus (s : State) (g : Group) : Option ValveStatus := (s.vlc.channels.get (s.vlc.map.get g)).status

/-- R113, R116: an indication that passes its frame check restarts the channel's silence timer and returns a SILENT channel
to ACTIVE, with no event. -/
def hearChannel (c : ValveChannel) (s : State) : State :=
  modChannel c (fun r => { r with link := .active, silence := 0 }) s

/-- R113: a frame that fails its check is discarded and counted, and does nothing else. -/
def countFrameError (c : ValveChannel) (s : State) : State :=
  modChannel c (fun r => { r with frameErrors := count16 r.frameErrors }) s

/-- R115: a channel in ACTIVE whose timer reaches 384 enters SILENT; its mapped group, if AVAILABLE, fails. -/
def enterSilent (c : ValveChannel) (s : State) : State :=
  if (s.vlc.channels.get c).link = .active then
    let s1 := raise .channelSilent
      (modChannel c (fun r => { r with link := .silent, silence := Config.silenceMark, silences := count16 r.silences }) s)
    match groupOn s.vlc.map c with
    | some g => failGroup g .channelSilent s1
    | none => s1
  else s

/-! ## Readiness -/

/-- R117: an FV from a group, by its place in the half-cycle and the counter; nothing while the counter is stopped. -/
def takeFv (g : Group) (s : State) : State :=
  let t := s.ct.tracks.get g.branch
  match t.counter, t.polarity with
  | some a, some p =>
    let available := (s.vlc.groups.get g).failure.isNone
    if g = dueGroup g.branch p then
      if available then modGroup g (fun r => { r with ready := true }) s else s
    else if acceptFrom s ≤ a.count then
      if available then modGroup g (fun r => { r with credit := true }) s else s
    else
      raise .polarityMismatch
        (modGroupCounters g (fun c => { c with polarityMismatches := count16 c.polarityMismatches }) s)
  | _, _ => s

/-- R118: at a closure the new due group's mark takes its early credit, the other group's mark is cleared, and both credits
are cleared. -/
def moveReadiness (b : Branch) (p : Polarity) (s : State) : State :=
  modGroup (dueGroup b (flipPolarity p)) clearReadiness
    (modGroup (dueGroup b p) (fun r => { r with ready := r.credit, credit := false }) s)

/-- R118: at a start crossing both groups' marks and credits are cleared. -/
def clearBranchReadiness (b : Branch) (s : State) : State :=
  modGroup (b.group .reverse) clearReadiness (modGroup (b.group .forward) clearReadiness s)

/-! ## The transaction -/

/-- Send FIRE with a tag on the channel mapped to a group (R113, R121). -/
def sendFire (g : Group) (tag : BitVec 4) (s : State) : State :=
  modChannel (s.vlc.map.get g) (fun r => { r with sent := some (fireFrame tag) }) s

/-- Settle a branch's outcome and leave no transaction open (R130). -/
def settle (b : Branch) (o : Outcome) (attempts : Option Nat) (s : State) : State :=
  modFiring b (fun f => { f with transaction := none, outcome := some ⟨o, attempts⟩ }) s

/-- R121: take the channel's next tag, send FIRE, count one order and record the transaction. -/
def openTransaction (b : Branch) (g : Group) (count : Nat) (s : State) : State :=
  let c := s.vlc.map.get g
  let tag := (s.vlc.channels.get c).nextTag
  let set := s.vlc.settings
  let s1 := modChannel c (fun r => { r with nextTag := tag + 1 }) (sendFire g tag s)
  modFiring b (fun f => { f with
      transaction := some ⟨g, tag, 1, .waiting, count + set.guardTime, set.guardTime, set.retries, set.lastRetry⟩ })
    (modGroupCounters g (fun k => { k with orders := count16 k.orders }) s1)

/-- R122: a matching FIRED closes the transaction and returns both consecutive counts to 0. -/
def closeFired (b : Branch) (t : Transaction) (s : State) : State :=
  modGroup t.group (fun r => { r with misfireRun := 0, refusalRun := 0,
                                      counters := { r.counters with fired := count16 r.counters.fired } })
    (settle b .fired (some t.attempts) s)

/-- R123: a matching REFUSED closes the transaction, and fails the group when its consecutive refusals reach the limit.
Where that halts the device, an answer of the same moment on another branch is taken later and is a stray (assumption 32). -/
def closeRefused (b : Branch) (t : Transaction) (c : RefusalCause) (s : State) : State :=
  let s1 := raise .refusal
    (modGroup t.group (fun r => { r with lastRefusal := some c, refusalRun := r.refusalRun + 1,
                                         counters := { r.counters with refusals := count16 r.counters.refusals } })
      (settle b .refused (some t.attempts) s))
  if s1.vlc.settings.refusalLimit ≤ (s1.vlc.groups.get t.group).refusalRun then failGroup t.group .refusals s1 else s1

/-- R126: a transaction closes as MISFIRE, and fails the group when its consecutive misfires reach the limit.
Where that halts the device, a misfire of the same moment on another branch finds its transaction abandoned (assumption 32). -/
def closeMisfire (b : Branch) (t : Transaction) (s : State) : State :=
  let s1 := raise .misfire
    (modGroup t.group (fun r => { r with misfireRun := r.misfireRun + 1,
                                         counters := { r.counters with misfires := count16 r.counters.misfires } })
      (settle b .misfire (some t.attempts) s))
  if s1.vlc.settings.misfireLimit ≤ (s1.vlc.groups.get t.group).misfireRun then failGroup t.group .misfires s1 else s1

/-- R128: a stray acknowledgement or refusal. -/
def countStray (g : Group) (s : State) : State :=
  raise .strayAck (modGroupCounters g (fun c => { c with strays := count16 c.strays }) s)

/-- The open transaction an answer from a group with a tag matches (R122, R123). -/
def matching (s : State) (g : Group) (tag : BitVec 4) : Option Transaction :=
  (s.vlc.firing.get g.branch).transaction.filter fun t => t.group == g && t.tag == tag

/-- R122, R128. -/
def takeFired (g : Group) (tag : BitVec 4) (s : State) : State :=
  match matching s g tag with
  | some t => closeFired g.branch t s
  | none => countStray g s

/-- R123, R128. -/
def takeRefused (g : Group) (tag : BitVec 4) (c : RefusalCause) (s : State) : State :=
  match matching s g tag with
  | some t => closeRefused g.branch t c s
  | none => countStray g s

/-- R133. -/
def takeSelfFired (g : Group) (s : State) : State :=
  raise .selfFired (modGroupCounters g (fun c => { c with selfFired := count16 c.selfFired }) s)

/-- R132: the check of a status against the limits, for an AVAILABLE group; COOLING before REDUNDANCY. -/
def checkLimits (g : Group) (st : ValveStatus) (s : State) : State :=
  if !st.coolingOk then failGroup g .cooling s
  else if s.vlc.settings.redundancyLimit < st.failedLevels.toNat then failGroup g .redundancy s
  else s

/-- R131: a status that differs from the group's snapshot sets a clear change latch and raises VALVE_STATUS_CHANGED. -/
def compareStatus (g : Group) (st : ValveStatus) (s : State) : State :=
  let r := s.vlc.groups.get g
  if r.snapshot ≠ some st ∧ r.changed = false then
    raise .valveStatusChanged (modGroup g (fun r => { r with changed := true }) s)
  else s

/-- R131, R132: a STATUS of a mapped channel, already stored: compared with the snapshot, then checked against the limits. -/
def takeStatus (g : Group) (st : ValveStatus) (s : State) : State := checkLimits g st (compareStatus g st s)

/-- R113: an indication on a channel restarts its timer and is routed through the map. On a spare a STATUS is stored and
anything else is discarded. -/
def takeIndication (c : ValveChannel) (i : Indication) (s : State) : State :=
  let s1 := hearChannel c s
  let s2 := match i with
    | .status st => modChannel c (fun r => { r with status := some st }) s1
    | _ => s1
  match groupOn s.vlc.map c with
  | none => s2
  | some g =>
    match i with
    | .fv => takeFv g s2
    | .fired tag => takeFired g tag s2
    | .refused tag cause => takeRefused g tag cause s2
    | .selfFired => takeSelfFired g s2
    | .status st => takeStatus g st s2

/-- R113 and R198: the bytes of a valve frame: an indication, or a frame error. -/
def takeValveFrame (c : ValveChannel) (bytes : List Byte) (s : State) : State :=
  match readIndication bytes with
  | some i => takeIndication c i s
  | none => countFrameError c s

/-! ## The marks of the angle counter -/

/-- The counter stands at a mark it has reached: a command that says so brings it there from below (assumption 3). -/
def reachCount (b : Branch) (mark : Nat) (s : State) : State :=
  modTrack b (fun t => { t with counter := t.counter.map fun a => if a.count < mark then ⟨mark, 0⟩ else a }) s

/-- The branch's counter is running in RUN (R54). -/
def counterRuns (s : State) (b : Branch) : Bool :=
  s.oc.device == .run && (s.ct.tracks.get b).counter.isSome

/-- R110, R119, R120, R121: the counter reaches the armed delay; the due group is ordered to fire, or the half-cycle settles
NOT_READY. -/
def reachDelay (b : Branch) (s : State) : State :=
  match (s.vlc.firing.get b).armed with
  | none => s
  | some delay =>
    if counterRuns s b then
      let s1 := modFiring b (fun f => { f with armed := none }) (reachCount b delay s)
      let g := dueGroup b ((s.ct.tracks.get b).polarity.getD .pos)
      if (s.vlc.groups.get g).ready && orderable s g then
        openTransaction b g ((s1.ct.tracks.get b).counter.elim delay (·.count)) s1
      else
        modGroupCounters g (fun c => { c with notReady := count16 c.notReady })
          (modFiring b (fun f => { f with outcome := some ⟨.notReady, none⟩ }) s1)
    else s

/-- R124: the counter reaches the guard end in phase GUARD. A guard end above 2048 + W is never reached: the closure comes
first (R54, R127). -/
def reachGuardEnd (b : Branch) (s : State) : State :=
  match (s.vlc.firing.get b).transaction with
  | some t =>
    if t.phase = .waiting ∧ t.guardEnd ≤ topCount s ∧ counterRuns s b = true then
      let s1 := reachCount b t.guardEnd s
      if t.attempts < 1 + t.retries then
        modFiring b (fun f => { f with transaction := some { t with phase := .retryGap } }) s1
      else closeMisfire b t s1
    else s
  | none => s

/-- R125: the counter reaches the count at which a retry falls due: FIRE again at or below C_last, MISFIRE above it. -/
def reachRetry (b : Branch) (s : State) : State :=
  match (s.vlc.firing.get b).transaction with
  | some t =>
    let due := t.guardEnd + Config.retryGap
    if t.phase = .retryGap ∧ due ≤ topCount s ∧ counterRuns s b = true ∧ orderable s t.group = true then
      let s1 := reachCount b due s
      let count := (s1.ct.tracks.get b).counter.elim due (·.count)
      let again := { t with attempts := t.attempts + 1, phase := .waiting, guardEnd := count + t.guardTime }
      if count ≤ t.lastRetry then
        modFiring b (fun f => { f with transaction := some again })
          (modGroupCounters t.group (fun c => { c with retries := count16 c.retries }) (sendFire t.group t.tag s1))
      else closeMisfire b t s1
    else s
  | none => s

/-- The lowest mark the branch's counter has still to reach in this half-cycle, and what happens there (R110, R124, R125). -/
def nextMark (s : State) (b : Branch) : Option (Nat × (Branch → State → State)) :=
  match (s.vlc.firing.get b).armed, (s.vlc.firing.get b).transaction with
  | some delay, _ => some (delay, reachDelay)
  | none, some t =>
    match t.phase with
    | .waiting => some (t.guardEnd, reachGuardEnd)
    | .retryGap => some (t.guardEnd + Config.retryGap, reachRetry)
  | none, none => none

/-- The marks below a count, passed in rising order: an armed delay is reached before any synthesised closure of its
half-cycle (R110), and so are the guard ends and retries that lie below it. A half-cycle has at most 8 of them. -/
def passMarks (limit : Nat) (b : Branch) : Nat → State → State
  | 0, s => s
  | fuel + 1, s =>
    match nextMark s b with
    | some (mark, act) => if mark < limit then passMarks limit b fuel (act b s) else s
    | none => s

/-! ## The closure's share -/

/-- R112, R127: the outcome of the half-cycle that ends is settled: an open transaction closes as MISFIRE once a guard has
expired and as OVERTAKEN otherwise; an outcome already settled stands; any other half-cycle is NO_ORDER. The armed delay is
cleared. -/
def settleHalfCycle (b : Branch) (s : State) : State :=
  let s1 := modFiring b (fun f => { f with armed := none }) s
  match (s.vlc.firing.get b).transaction, (s.vlc.firing.get b).outcome with
  | some t, _ =>
    if t.phase = .retryGap ∨ 1 < t.attempts then closeMisfire b t s1 else closeOvertaken b t s1
  | none, some _ => s1
  | none, none => settle b .noOrder none s1

/-- R107, R109: the new delay is taken: NO_ORDER at 2048, LATE_DECISION when the counter is at or beyond it, armed otherwise. -/
def handOver (b : Branch) (p : Polarity) (delay count : Nat) (s : State) : State :=
  if delay = Config.noOrder then
    modFiring b (fun _ => ⟨none, some ⟨.noOrder, none⟩, none⟩) s
  else if delay ≤ count then
    raise .lateDecision
      (modGroupCounters (dueGroup b p) (fun c => { c with lateDecisions := count16 c.lateDecisions })
        (modFiring b (fun _ => ⟨none, some ⟨.lateDecision, none⟩, none⟩) s))
  else modFiring b (fun _ => ⟨some delay, none, none⟩) s

end Sys2Proof.Machine
end

