-- ==== Sys2Proof/Machine/Demand.lean ====
section
/-! DEFINITION. The Branch Demand Unit: delay lines (R67, R68), windows (R69, R70), the judgement of a window (R73, R74), the
demand arithmetic (R75 to R77), and the moves of a branch at a closure (R79 to R86). -/

namespace Sys2Proof.Machine

/-! ## Windows and delay lines -/

/-- R69: an opening window; the one opened at the start crossing carries the first-window mark. -/
def newWindow (first : Bool) : Window := ⟨0, 0, 0, 0, none, false, first⟩

/-- R69: open a branch's window. -/
def openWindow (b : Branch) (first : Bool) (s : State) : State :=
  modDemand b (fun d => { d with window := some (newWindow first) }) s

/-- R70: RESYNC replaces any gap mark. -/
def markResync (w : Window) : Window := { w with gapMark := some .resync }

/-- R70: MEAS_GAP does not replace a RESYNC mark. -/
def markMeasGap (w : Window) : Window := { w with gapMark := some (w.gapMark.getD .measGap) }

/-- R36, R70: every branch's open window receives a mark. -/
def markWindows (f : Window → Window) (s : State) : State := forBranches (fun b => modWindow b f) s

/-- R69: one delivered frame added to a window: v and v_del of the branch voltage, j = I_x − I_y, the held words among the
three, and whether the lines were filling. -/
def addFrame (v vDel j : Int) (held : Nat) (filling : Bool) (w : Window) : Window :=
  { w with
    energy := w.energy + (v * v).toNat
    product := w.product + vDel * j
    frames := bump 255 w.frames
    held := bumpBy 255 held w.held
    filling := w.filling || filling }

/-- How many of a branch's three quantities are held words in a frame (R69). -/
def heldAmong (held : PerQuantity Bool) (b : Branch) : Nat :=
  (held.get b.voltage).toNat + (held.get b.currentFrom).toNat + (held.get b.currentTo).toNat

/-- R67 and R69: in RUN a delivered frame is fed to the delay lines and added to every open window. The delayed voltage is the
oldest entry where the lines hold Q entries, and 0 where they hold fewer. -/
def feedDemand (used : PerQuantity Half) (held : PerQuantity Bool) (s : State) : State :=
  if s.oc.device = .run then
    let full := decide (quarterFrames (nominalOf s) ≤ s.bdu.lines.length)
    let delayed (b : Branch) : Int :=
      if full then (s.bdu.lines.head?.map fun e => (e.voltages.get b).toInt).getD 0 else 0
    let entry : DelayEntry := ⟨⟨used.get .vab, used.get .vbc, used.get .vca⟩, s.slr.frameIndex⟩
    let s1 := forBranches (fun b =>
      modWindow b (addFrame (used.get b.voltage).toInt (delayed b)
        ((used.get b.currentFrom).toInt - (used.get b.currentTo).toInt) (heldAmong held b) (!full))) s
    { s1 with bdu := { s1.bdu with lines := (if full then s.bdu.lines.tail else s.bdu.lines) ++ [entry] } }
  else s

/-! ## Judging the window -/

/-- R74: the mean square of a window; absent when it has no frame. -/
def meanSquare (w : Window) : Option Nat := if w.frames = 0 then none else some (w.energy / w.frames)

/-- R73: the first code whose condition holds. -/
def judge (s : State) (b : Branch) (kind : ClosureKind) (w : Window) : ValidityCode :=
  let n := nominalFrames (nominalOf s)
  if w.first then .noWindow
  else if forced s.slr b then .measForced
  else if w.gapMark = some .resync then .resync
  else if w.gapMark = some .measGap then .measGap
  else if kind = .synthesized then .synth
  else if w.frames < n - 12 ∨ n + 12 < w.frames then .length
  else if 4 < w.held then .heldWords
  else if w.filling then .delayFilling
  else if w.energy = 0 ∨ (meanSquare w).getD 0 < (s.bdu.branches.get b).settings.floor then .lowVoltage
  else .valid

/-! ## The demand arithmetic -/

/-- A value taken to the nearer end of an interval (Conventions). -/
def clampInt (lo hi x : Int) : Int := if x < lo then lo else if hi < x then hi else x

/-- R75: the demand of a window, rounded to nearest with halves away from zero, and saturated. -/
def demandOf (gain : Nat) (w : Window) : Int :=
  let num := w.product * gain
  let den := w.energy * 256
  let size : Nat := (num.natAbs + den / 2) / den
  clampInt (-16384) 16383 (if num < 0 then -(size : Int) else size)

/-- R76: the shares of the banks in service, saturated to 8191. -/
def filterSusceptance (s : State) (b : Branch) : Nat :=
  let share (k : Bank) : Nat := if (s.pli.inputs.get k.input).debounced then (s.bdu.shares.get k).get b else 0
  min 8191 (share .bank0 + share .bank1 + share .bank2 + share .bank3)

/-- R77: the unsaturated sum F + S − d. -/
def rawTarget (s : State) (b : Branch) (d : Int) : Int :=
  (filterSusceptance s b : Int) + (s.bdu.branches.get b).settings.trim - d

/-- R77: the target b′, saturated to 0..4095. -/
def saturate (x : Int) : Nat := (clampInt 0 4095 x).toNat

/-- R79: a target clamped to an interval of `step` on either side of a susceptance. -/
def limitStep (from_ step target : Nat) : Nat := max (from_ - step) (min (from_ + step) target)

/-! ## The move at a closure -/

/-- What a closure makes of a branch: its state and counts, the susceptance decided, whether it entered FALLBACK, and whether
the decision takes b′. -/
structure Move where
  state : BranchState
  heldClosures : Nat
  validClosures : Nat
  preset : Option PresetRun
  susceptance : Nat
  entersFallback : Bool
  takesTarget : Bool
  deriving DecidableEq, Repr

/-- R81: a branch enters FALLBACK at a closure. -/
def moveToFallback (set : BranchSettings) : Move := ⟨.fallback, 0, 0, none, set.fallback, true, false⟩

/-- R79, R80, R82, R85: a branch enters or stays in TRACK, its step limited from a susceptance. -/
def moveToTrack (set : BranchSettings) (from_ target : Nat) : Move :=
  ⟨.track, 0, 0, none, limitStep from_ set.step target, false, true⟩

/-- R80, R81, R85: a branch holds a susceptance with a held-closure count, or enters FALLBACK at the hold limit. -/
def moveToHold (set : BranchSettings) (count b : Nat) : Move :=
  if set.holdLimit ≤ count then moveToFallback set else ⟨.hold, count, 0, none, b, false, false⟩

/-- The moves of 4.6 at a closure, from the state before it and the window's code, with the target b′ of a VALID window.
IDLE is not held in RUN. -/
def nextMove (d : BranchDemand) (code : ValidityCode) (target : Nat) : Move :=
  let set := d.settings
  let prev := d.previous.getD set.fallback
  match d.state with
  | .idle => ⟨.idle, d.heldClosures, d.validClosures, d.preset, 0, false, false⟩
  | .blocked => ⟨.blocked, d.heldClosures, d.validClosures, none, 0, false, false⟩
  | .track =>
    match code with
    | .valid => moveToTrack set prev target
    | .measForced => moveToFallback set
    | _ => moveToHold set 1 prev
  | .hold =>
    match code with
    | .valid => moveToTrack set prev target
    | .measForced => moveToFallback set
    | _ => moveToHold set (d.heldClosures + 1) prev
  | .fallback =>
    match code with
    | .valid =>
      if d.validClosures = 0 then ⟨.fallback, d.heldClosures, 1, none, set.fallback, false, false⟩
      else moveToTrack set set.fallback target
    | _ => ⟨.fallback, d.heldClosures, 0, none, set.fallback, false, false⟩
  | .preset =>
    let p := d.preset.getD ⟨0, set.fallback⟩
    match code with
    | .measForced => moveToFallback set
    | code =>
      if p.remaining = 0 then
        match code with
        | .valid => moveToTrack set p.value target
        | _ => moveToHold set 1 p.value
      else ⟨.preset, d.heldClosures, d.validClosures, some ⟨p.remaining - 1, p.value⟩, p.value, false, false⟩

/-- R89: the decision a move makes: α is 2048 for a BLOCKED branch and the FDC's conversion otherwise. -/
def decisionOf (table : Option (List Nat)) (m : Move) : Decision :=
  ⟨m.susceptance, if m.state = .blocked then Config.noOrder else convert table m.susceptance⟩

/-- R96: the counters of a closure. -/
def countClosure (code : ValidityCode) (m : Move) (raw : Option Int) (c : BranchCounters) : BranchCounters :=
  let high := m.takesTarget && raw.any (fun x => decide (4095 < x))
  let low := m.takesTarget && raw.any (fun x => decide (x < 0))
  { judged := count32 c.judged
    codes := c.codes.set code (count32 (c.codes.get code))
    saturatedHigh := if high then count32 c.saturatedHigh else c.saturatedHigh
    saturatedLow := if low then count32 c.saturatedLow else c.saturatedLow
    fallbackEntries := if m.entersFallback then count32 c.fallbackEntries else c.fallbackEntries }

/-- The ending window of a branch. One is open while its counter runs (R69). -/
def endingWindow (s : State) (b : Branch) : Window := (s.bdu.branches.get b).window.getD (newWindow false)

/-- R75: the demand of the ending window; present when its code is VALID. -/
def closureDemand (s : State) (b : Branch) (kind : ClosureKind) : Option Int :=
  let w := endingWindow s b
  if judge s b kind w = .valid then some (demandOf (s.bdu.branches.get b).settings.gain w) else none

/-- The move of a branch at a closure (R72, steps 1 to 3). -/
def closureMove (s : State) (b : Branch) (kind : ClosureKind) : Move :=
  let raw := (closureDemand s b kind).map (rawTarget s b)
  nextMove (s.bdu.branches.get b) (judge s b kind (endingWindow s b)) ((raw.map saturate).getD 0)

/-- A branch's demand items after steps 1 to 4 of R72, apart from its window. b_prev becomes the decided b, and stays absent
in BLOCKED (R89). -/
def closedDemand (s : State) (b : Branch) (kind : ClosureKind) : BranchDemand :=
  let d := s.bdu.branches.get b
  let w := endingWindow s b
  let code := judge s b kind w
  let demand := closureDemand s b kind
  let m := closureMove s b kind
  { d with
    state := m.state
    heldClosures := m.heldClosures
    validClosures := m.validClosures
    preset := m.preset
    previous := if m.state = .blocked then none else some m.susceptance
    decision := some (decisionOf s.table m)
    lastCode := some code
    lastDemand := demand
    lastMeanSquare := meanSquare w
    counters := countClosure code m (demand.map (rawTarget s b)) d.counters }

/-- R77: the decision takes a saturated b′. -/
def saturates (s : State) (b : Branch) (kind : ClosureKind) : Bool :=
  (closureMove s b kind).takesTarget &&
    ((closureDemand s b kind).map (rawTarget s b)).any (fun x => decide (x < 0 ∨ 4095 < x))

/-- R72, steps 1 to 4: the window is judged, the branch moves and decides, and FALLBACK_ACTIVE is re-evaluated (R87).
DEMAND_SATURATED (R77) and BRANCH_FALLBACK (R81) are raised where the move brings them. -/
def decideClosure (b : Branch) (kind : ClosureKind) (s : State) : State :=
  let s1 := refreshLines (modDemand b (fun _ => closedDemand s b kind) s)
  let s2 := if saturates s b kind then raise .demandSaturated s1 else s1
  if (closureMove s b kind).entersFallback then raise .branchFallback s2 else s2

end Sys2Proof.Machine
end

