-- ==== Sys2Proof/Machine/History.lean ====
section
/-! DEFINITION. The History Recorder: storing a closure record (R169, R170, R172, R173), releasing a capture (R176), and what
READ_HISTORY takes from the ring (R177). -/

namespace Sys2Proof.Machine

/-- R170: the next sequence number has come round from 4,294,967,295 to 0, so the ring is emptied before the storage. A ring
is empty with next number 0 only before the first storage. -/
def wrapsNow (h : History) : Bool := h.nextSeq == 0 && !h.ring.isEmpty

/-- The ring a record is stored in: empty at a sequence wrap, and without its oldest record when it is full (R169, R170). -/
def ringFor (h : History) : List ClosureRecord :=
  if wrapsNow h then [] else if h.ring.length < Config.ringSize then h.ring else h.ring.tail

/-- R169, R170: store a record with the next sequence number. -/
def appendRecord (r : ClosureRecord) (h : History) : History :=
  { h with
    ring := ringFor h ++ [{ r with seq := h.nextSeq }]
    nextSeq := h.nextSeq + 1
    wraps := if wrapsNow h then count16 h.wraps else h.wraps }

/-- A closure record is received: stored in FREE; stored in TRIGGERED, where it lowers the remaining count and freezes the
capture at 0 (R172); suppressed in FROZEN (R173). -/
def storeRecord (r : ClosureRecord) (s : State) : State :=
  match s.hr.capture with
  | .free => { s with hr := appendRecord r s.hr }
  | .triggered =>
    let s' := { s with hr := { appendRecord r s.hr with remaining := s.hr.remaining - 1 } }
    if s.hr.remaining - 1 = 0 then freeze s' else s'
  | .frozen => { s with hr := { s.hr with suppressed := count32 s.hr.suppressed } }

/-- The oldest and the newest sequence number of the ring; absent while it is empty (9.1). -/
def oldestSeq (h : History) : Option Index := h.ring.head?.map (·.seq)
def newestSeq (h : History) : Option Index := h.ring.getLast?.map (·.seq)

/-- R177: the records of the ring from a sequence number on. Below the oldest they are all of them; above the newest, none. -/
def recordsFrom (h : History) (fromSeq : Index) : List ClosureRecord :=
  h.ring.filter fun r => decide (fromSeq.toNat ≤ r.seq.toNat)

/-- R197: the length of a packed record: 18 bytes, 4 more with ms and 2 more with d. -/
def recordLength (r : ClosureRecord) : Nat :=
  18 + (if r.meanSquare.isSome then 4 else 0) + (if r.demand.isSome then 2 else 0)

/-- R177: at most `max` whole records that fit in `room` bytes. -/
def takeFitting : Nat → Nat → List ClosureRecord → List ClosureRecord
  | 0, _, _ => []
  | _, _, [] => []
  | max + 1, room, r :: rest =>
    if recordLength r ≤ room then r :: takeFitting max (room - recordLength r) rest else []

end Sys2Proof.Machine
end

