-- ==== Sys2Proof/Machine/Crossing.lean ====
section
/-! DEFINITION. The Crossing Tracker: candidates and their confirmation (R44, R45), acquisition (R47 to R53), the angle
counter, accepted and synthesised closures (R54 to R61), sync loss (R62), and the whole of a closure, in the order its
chapters give (R72, R107, R112, R118). -/

namespace Sys2Proof.Machine

/-! ## Positions -/

/-- 3.1: the distance in sixteenths between two positions, the later one second; the difference of the frame indices is taken
modulo 2^32. -/
def distance (p q : Position) : Int :=
  16 * ((q.frame - p.frame).toNat : Int) + ((q.fraction : Int) - (p.fraction : Int))

/-- R51: the distance from a position to one that may lie before it: the frame indices' difference is taken as the signed
number of 32 bits (assumption 7). -/
def signedDistance (p q : Position) : Int :=
  16 * (q.frame - p.frame).toInt + ((q.fraction : Int) - (p.fraction : Int))

/-- R57: E, the time in sixteenths from a crossing's position to the frame that confirms it. -/
def sinceCrossing (p : Position) (frame : Index) : Nat := (distance p ⟨frame, 0⟩).toNat

/-! ## Candidates -/

/-- R44: the sign change between two used values, if any. -/
def signChange (before now : Int) : Option CrossingDirection :=
  if before < 0 ∧ 0 ≤ now then some .rising
  else if 0 < before ∧ now ≤ 0 then some .falling
  else none

/-- R44: the interpolated fraction of a sign change, capped at 15. -/
def crossingFraction (before now : Int) : Nat :=
  min 15 (16 * before.natAbs / (before.natAbs + now.natAbs))

/-- R44: the candidate that stands after a frame: a sign change replaces any candidate still pending. The frame of the
position is the one before the frame just delivered. -/
def candidateAt (t : Track) (frame : Index) (now : Half) : Option Candidate :=
  match t.previous with
  | none => t.candidate
  | some p =>
    match signChange p.toInt now.toInt with
    | some d => some ⟨d, ⟨frame - 1, crossingFraction p.toInt now.toInt⟩⟩
    | none => t.candidate

/-- R45: a candidate is confirmed at a value that has reached the hysteresis threshold on the new side. -/
def confirms (h : Nat) (c : Candidate) (now : Int) : Bool :=
  match c.direction with
  | .rising => decide ((h : Int) ≤ now)
  | .falling => decide (now ≤ -(h : Int))

/-- R45: a candidate is dropped at a value on the old side. -/
def drops (c : Candidate) (now : Int) : Bool :=
  match c.direction with
  | .rising => decide (now < 0)
  | .falling => decide (0 < now)

/-! ## The closure -/

/-- The record of a closure of a branch (R90, R167, R163), from the state after its decision; `before` is the branch's demand
items before the closure moved its state. -/
def closureRecord (b : Branch) (kind : ClosureKind) (ended : Polarity) (before : BranchDemand) (s : State) : ClosureRecord :=
  let d := s.bdu.branches.get b
  let w := before.window.getD (newWindow false)
  let o := (s.vlc.firing.get b).outcome.getD ⟨.noOrder, none⟩
  let dec := d.decision.getD ⟨0, Config.noOrder⟩
  { seq := 0
    branch := b
    frameIndex := s.slr.frameIndex
    ended := ended
    kind := kind
    frames := w.frames
    held := w.held
    code := d.lastCode.getD .noWindow
    meanSquare := d.lastMeanSquare
    demand := d.lastDemand
    outcome := o.outcome
    attempts := o.attempts
    state := d.state
    susceptance := dec.susceptance
    delay := dec.delay
    breakerClosed := (s.pli.inputs.get .furnaceBreaker).debounced
    presetActive := before.state == .preset }

/-- R108: the hand-over and the counter's advance to the new delay fall at the same moment. That is at an accepted closure
alone, and for a delay one count above the start count: no higher count can be reached in the moment of the closure
(assumption 30). -/
def advanceMeets (kind : ClosureKind) (start delay : Nat) : Bool :=
  kind == .accepted && delay == start + 1 && decide (delay < Config.noOrder)

/-- R107, R108: the new delay is handed over at the start count; where the counter's advance to the delay falls at the same
moment, one use of the free value says which of the two is taken first, and an advance taken first leaves the counter at the
delay (assumptions 2, 30). -/
def handOverDelay (b : Branch) (kind : ClosureKind) (p : Polarity) (delay start : Nat) (s : State) : State :=
  if advanceMeets kind start delay then
    if Config.pick s.clock.picks % 2 = 0 then handOver b p delay start (takePicks 1 s)
    else handOver b p delay delay (reachCount b delay (takePicks 1 s))
  else handOver b p delay start s

/-- What follows the decision of a closure: the record (R72 step 5), the next window (step 6), the branch's readiness (R118)
and the hand-over of the new delay (R107, R108). -/
def finishClosure (b : Branch) (kind : ClosureKind) (ended polarity : Polarity) (start : Nat) (before : BranchDemand)
    (s : State) : State :=
  let s1 := openWindow b false (storeRecord (closureRecord b kind ended before s) s)
  let delay := ((s1.bdu.branches.get b).decision.map (·.delay)).getD Config.noOrder
  handOverDelay b kind polarity delay start (moveReadiness b polarity s1)

/-- R60: a closure is declared. VLC first settles the half-cycle that ends (R112); a misfire settled there may fail the group
and halt the device, and the closure then ends with no record (R8, R152; assumption 8). -/
def closeHalfCycle (b : Branch) (kind : ClosureKind) (ended polarity : Polarity) (start : Nat) (s : State) : State :=
  let before := s.bdu.branches.get b
  let s1 := settleHalfCycle b s
  if s1.oc.device = .run then
    finishClosure b kind ended polarity start before (decideClosure b kind s1)
  else s1

/-! ## Crossings in RUN -/

/-- R55, R57: the count a counter is set to from a crossing's position: L + floor(E·2048/P), capped at 2047. -/
def startCount (s : State) (p : Nat) (position : Position) : Nat :=
  min Config.startCap (s.ct.settings.latency + sinceCrossing position s.slr.frameIndex * Config.halfCycle / p)

/-- The period estimate in force; in RUN it is held (R53). -/
def periodOf (s : State) (b : Branch) : Nat := (s.ct.tracks.get b).period.getD (halfPeriod (nominalOf s))

/-- R58: the period moves one eighth of the way toward a measured interval, within the nominal half-period ± 128. -/
def updatePeriod (nominal p : Nat) (interval : Int) : Nat :=
  (clampInt ((nominal : Int) - 128) ((nominal : Int) + 128) ((p : Int) + (interval - (p : Int) + 4) / 8)).toNat

/-- R55: a branch's first confirmed crossing in RUN starts its counter, polarity, window and sync status; it is no closure. -/
def startCrossing (b : Branch) (c : Candidate) (s : State) : State :=
  let start := startCount s (periodOf s b) c.position
  clearBranchReadiness b <| openWindow b true <| modTrack b (fun t => { t with
    counter := some ⟨start, 0⟩
    polarity := some (crossingPolarity c.direction)
    lastAccepted := some c.position
    sync := .inSync }) s

/-- R56: a crossing confirmed below 2048 − W is rejected. -/
def rejectCrossing (b : Branch) (s : State) : State :=
  raise .crossingRejected (modTrack b (fun t => { t with rejected := count32 t.rejected }) s)

/-- R57, R58: a crossing confirmed inside the acceptance window: re-phase, period, polarity, counts, then the closure. -/
def acceptCrossing (b : Branch) (c : Candidate) (s : State) : State :=
  let t := s.ct.tracks.get b
  let p := periodOf s b
  let start := startCount s p c.position
  let period := match t.lastAccepted with
    | some last => updatePeriod (halfPeriod (nominalOf s)) p (distance last c.position)
    | none => p
  let polarity := crossingPolarity c.direction
  closeHalfCycle b .accepted (t.polarity.getD .pos) polarity start <| modTrack b (fun t => { t with
    counter := some ⟨start, 0⟩
    period := some period
    polarity := some polarity
    synthesisedRun := 0
    accepted := count32 t.accepted
    lastAccepted := some c.position }) s

/-! ## Synthesised closures and sync loss -/

/-- R62: a branch's sync is lost: OUT_OF_SYNC, SYNC_LOST raised, SYNC added, and the device halted (R6). -/
def loseSync (b : Branch) (s : State) : State :=
  let s1 := addCause b .sync (raise .syncLost (modTrack b (fun t => { t with sync := .outOfSync }) s))
  if s1.oc.device = .run then enterHalted .syncLost (some b) none none s1 else s1

/-- R61: what a synthesised closure does in CT: the counter as given, the polarity flipped, the last accepted position
forgotten, both counts grown, and CROSSING_SYNTHESIZED raised. -/
def noteSynthesised (b : Branch) (counter : Option AngleCounter) (s : State) : State :=
  raise .crossingSynthesized <| modTrack b (fun t => { t with
    counter := counter
    polarity := some (flipPolarity (t.polarity.getD .pos))
    lastAccepted := none
    synthesisedRun := t.synthesisedRun + 1
    synthesised := count32 t.synthesised }) s

/-- R61: a closure is synthesised at 2048 + W. -/
def synthesise (b : Branch) (s : State) : State :=
  let ended := (s.ct.tracks.get b).polarity.getD .pos
  let w := s.ct.settings.halfWidth
  closeHalfCycle b .synthesized ended (flipPolarity ended) w (noteSynthesised b (some ⟨w, 0⟩) s)

/-- R6: the counter of a started branch reached 2048 + W, with its count reaching S_max there, in the very moment in which
another report, taken first, halted the device. Outside RUN no counter runs (R13), so its report can only be one that fell
together with the halt (assumption 29). -/
def meetsHalt (s : State) (b : Branch) : Bool :=
  let t := s.ct.tracks.get b
  s.oc.device == .halted && (s.oc.halt.cause == .syncLost || s.oc.halt.cause == .valveFailed) && t.polarity.isSome &&
    t.sync != .outOfSync && decide (s.ct.settings.limit ≤ t.synthesisedRun + 1)

/-- The whole count of a branch's counter; 0 while it is stopped. -/
def countOf (s : State) (b : Branch) : Nat := ((s.ct.tracks.get b).counter.map (·.count)).getD 0

/-- A branch's counter reaches 2048 + W: where a command brings it there from below, the marks on the way come first (R110); a
counter that stands there has passed them. Then the closure is synthesised (R61). In a device that another report has just halted,
the half-cycle has been abandoned (R8), and CT's own items alone move (assumption 29). -/
def closeAtTop (b : Branch) (s : State) : State :=
  if counterRuns s b then
    let s1 := if countOf s b < topCount s then passMarks (topCount s) b 8 s else s
    if counterRuns s1 b then synthesise b s1 else s1
  else if meetsHalt s b then noteSynthesised b none s
  else s

/-- R6, R62: another branch reaches S_max together with `b`: its counter too stands at 2048 + W, and the closure it brings is
its S_max-th. -/
def losesWith (s : State) (b c : Branch) : Bool :=
  c != b && counterRuns s c && decide (topCount s ≤ countOf s c) &&
    decide (s.ct.settings.limit ≤ (s.ct.tracks.get c).synthesisedRun + 1)

/-- R62: the loss of sync of a branch whose consecutive-synthesised count stands at S_max. -/
def loseAtLimit (b : Branch) (s : State) : State :=
  if s.ct.settings.limit ≤ (s.ct.tracks.get b).synthesisedRun then loseSync b s else s

/-- R6, R62: the sync of `b` is lost, with that of every branch that reaches S_max together with it: each of their closures is
declared, decided and recorded before the halt; the report of `b` halts the device, and the others find it HALTED. Where two
others close with `b`, which of their records takes the lower number is left open ("in either order", R169), and the free value
gives it (assumptions 2, 29). -/
def loseTogether (b : Branch) (s : State) : State :=
  let others := Branch.all.filter (losesWith s b)
  (b :: anyOrder others s).foldl (fun s c => loseAtLimit c s) (inAnyOrder closeAtTop others s)

/-- The counter of a started branch reaches 2048 + W (R61, R62). -/
def reachTop (b : Branch) (s : State) : State :=
  if counterRuns s b || meetsHalt s b then
    let s1 := closeAtTop b s
    if s1.ct.settings.limit ≤ (s1.ct.tracks.get b).synthesisedRun then loseTogether b s1 else s1
  else s

/-- A confirmed crossing in RUN: the start crossing (R55), an accepted closure in the acceptance window (R57), and a rejection
below it (R56). A counter that stood at 2048 + W has had its closure before the delivery (R59, R69: `closeBeforeDelivery`) and
stands at W here. -/
def runCrossing (b : Branch) (c : Candidate) (s : State) : State :=
  match (s.ct.tracks.get b).counter with
  | none => startCrossing b c s
  | some a => if acceptFrom s ≤ a.count ∧ a.count < topCount s then acceptCrossing b c s else rejectCrossing b s

/-! ## Acquisition -/

/-- R52, R5: an acquisition failure: ACQUIRE_FAILED is raised and OC halts with the cause. -/
def failAcquisition (c : HaltCause) (s : State) : State :=
  enterHalted c none none none (raise .acquireFailed s)

/-- R53: lock fixes the nominal frequency for a branch's tracking items; candidates and previous samples are kept. -/
def lockTrack (n : Nominal) (t : Track) : Track :=
  { t with period := some (halfPeriod n), polarity := none, lastAccepted := none, synthesisedRun := 0, sync := .waiting,
           counter := none }

/-- R4, R78: a branch's demand items on entry into RUN. -/
def runDemand (blocked : Bool) (d : BranchDemand) : BranchDemand :=
  { d with state := if blocked then .blocked else .fallback, heldClosures := 0, validClosures := 0, previous := none,
           preset := none, decision := none }

/-- R53 and R4: lock at a nominal frequency: progress cleared, ACQUIRE_DONE raised, delay lines flushed, RUN entered with each
branch in FALLBACK or BLOCKED, the lock frequency recorded, marks, credits and outcomes cleared (R118, 5.4). -/
def lock (n : Nominal) (s : State) : State :=
  let locked := abandonFiring <| flushLines
    { s with
      oc := { s.oc with device := .run, lockFrequency := some n }
      ct := { s.ct with nominal := some n, progress := .empty, tracks := s.ct.tracks.mapKey (fun _ => lockTrack n) }
      bdu := { s.bdu with branches := s.bdu.branches.mapKey (fun b => runDemand (!noCauses (s.causes.get b))) } }
  refreshLines (raise .acquireDone locked)

/-- What an evaluation of lock finds (R49, R50, R51). -/
inductive LockFinding where
  | lock (n : Nominal)
  | phaseOrder
  | nothing
  deriving DecidableEq, Repr

/-- A value within `tolerance` of a target, both ends included. -/
def within (tolerance : Nat) (target x : Int) : Bool := decide ((x - target).natAbs ≤ tolerance)

/-- R49: a FIXED mode locks on its newest interval within ±64. -/
def fixedFinding (n : Nominal) (p : Progress) : LockFinding :=
  if p.intervals.getLast?.any (fun i => within 64 (halfPeriod n) i) then .lock n else .nothing

/-- R50: four intervals in the band of one frequency, each of the last three within 16 of the one before it. -/
def autoFinding (p : Progress) : Option Nominal :=
  match p.intervals with
  | [i1, i2, i3, i4] =>
    if within 16 i1 i2 && within 16 i2 i3 && within 16 i3 i4 then
      if [i1, i2, i3, i4].all (fun i => within 32 1536 i) then some .hz50
      else if [i1, i2, i3, i4].all (fun i => within 32 1280 i) then some .hz60
      else none
    else none
  | _ => none

/-- R51: the offset of a crossing from the most recent VAB crossing, modulo Pm. -/
def phaseOffset (vab : Position) (pm : Int) (q : Position) : Int := signedDistance vab q % pm

/-- R51: the two last offsets of a voltage both lie within ±48 of a target. -/
def bothNear (vab : Position) (pm target : Int) (positions : List Position) : Bool :=
  match positions with
  | [q1, q2] => within 48 target (phaseOffset vab pm q1) && within 48 target (phaseOffset vab pm q2)
  | _ => false

/-- R51: the phase check of AUTO_THREE, made when R50 names a frequency. -/
def phaseFinding (n : Nominal) (p : Progress) : LockFinding :=
  match p.previousVab with
  | none => .nothing
  | some vab =>
    let pm := p.intervals.sum / 4
    let t1 := pm / 3
    let t2 := 2 * pm / 3
    if bothNear vab pm t2 p.vbc && bothNear vab pm t1 p.vca then .lock n
    else if bothNear vab pm t1 p.vbc && bothNear vab pm t2 p.vca then .phaseOrder
    else .nothing

/-- The evaluation of lock by the mode in force (R48, step 4). -/
def lockFinding (mode : AcquisitionMode) (p : Progress) : LockFinding :=
  match mode with
  | .fixed50 => fixedFinding .hz50 p
  | .fixed60 => fixedFinding .hz60 p
  | .autoSingle => match autoFinding p with
    | some n => .lock n
    | none => .nothing
  | .autoThree => match autoFinding p with
    | some n => phaseFinding n p
    | none => .nothing

/-- R48, steps 1 to 3: the progress after a confirmed VAB crossing. -/
def countCrossing (position : Position) (p : Progress) : Progress :=
  { p with
    crossings := p.crossings + 1
    intervals := match p.previousVab with
      | none => p.intervals
      | some before =>
        (if p.intervals.length < 4 then p.intervals else p.intervals.tail) ++ [distance before position]
    previousVab := some position }

/-- R48 and R52: a confirmed VAB crossing in ACQUIRE. -/
def vabCrossing (position : Position) (s : State) : State :=
  let p := countCrossing position s.ct.progress
  let s1 := { s with ct := { s.ct with progress := p } }
  match lockFinding s.ct.settings.mode p with
  | .lock n => lock n s1
  | .phaseOrder => failAcquisition .phaseOrder s1
  | .nothing => if Config.crossingLimit ≤ p.crossings then failAcquisition .acquireFailed s1 else s1

/-- R47: the newest two positions of a voltage, newest first. -/
def keepTwo (position : Position) (l : List Position) : List Position := (position :: l).take 2

/-- A confirmed crossing in ACQUIRE (R47, R48). -/
def acquireCrossing (b : Branch) (position : Position) (s : State) : State :=
  let p := s.ct.progress
  match b with
  | .ab => vabCrossing position s
  | .bc => { s with ct := { s.ct with progress := { p with vbc := keepTwo position p.vbc } } }
  | .ca => { s with ct := { s.ct with progress := { p with vca := keepTwo position p.vca } } }

/-- R52: the time limit of acquisition. -/
def acquisitionTimeout (s : State) : State :=
  if s.oc.device = .acquire then
    failAcquisition .acquireTimeout
      { s with ct := { s.ct with progress := { s.ct.progress with elapsed := Config.acquireLimit } } }
  else s

/-- R3, R47: acquisition begins from empty progress. -/
def beginAcquisition (s : State) : State :=
  { s with
    oc := { s.oc with device := .acquire, lockFrequency := none }
    ct := { s.ct with progress := .empty, tracks := s.ct.tracks.mapKey fun _ t => { t with previous := none } } }

/-! ## A delivered frame -/

/-- A confirmed crossing of a branch's voltage: by the acquisition rules in ACQUIRE, by the counter rules in RUN (R45). -/
def confirmCrossing (b : Branch) (c : Candidate) (s : State) : State :=
  match s.oc.device with
  | .acquire => acquireCrossing b c.position s
  | .run => runCrossing b c s
  | _ => s

/-- R44, R45: one voltage's used value in a delivered frame, in ACQUIRE and in RUN alone. -/
def watchVoltage (b : Branch) (now : Half) (s : State) : State :=
  if s.oc.device = .acquire ∨ s.oc.device = .run then
    let candidate := candidateAt (s.ct.tracks.get b) s.slr.frameIndex now
    let keep (c : Option Candidate) : State := modTrack b (fun t => { t with previous := some now, candidate := c }) s
    match candidate with
    | none => keep none
    | some c =>
      if confirms s.ct.settings.hysteresis c now.toInt then confirmCrossing b c (keep none)
      else if drops c now.toInt then keep none
      else keep (some c)
  else s

/-- R44, R45: the next delivery, with this used value of the branch's voltage, confirms a crossing of it. -/
def willConfirm (s : State) (b : Branch) (now : Half) : Bool :=
  (candidateAt (s.ct.tracks.get b) (s.slr.frameIndex + 1) now).any fun c => confirms s.ct.settings.hysteresis c now.toInt

/-- R59, R69: the next delivery confirms a crossing of a branch whose counter stands at 2048 + W: the counter's advance has been
taken first, so that the closure comes before the delivery. -/
def closesBefore (used : PerQuantity Half) (s : State) (b : Branch) : Bool :=
  counterRuns s b && decide (topCount s ≤ countOf s b) && willConfirm s b (used.get b.voltage)

/-- R69: a synthesised closure falls between two deliveries. The closures that the crossings of a delivery would find due are
synthesised before it: each judges its window without the frame, and the frame goes to the new window. Where several are due, the
order of their records is left open (R169), and the free value gives it (assumptions 2, 9). -/
def closeBeforeDelivery (used : PerQuantity Half) (s : State) : State :=
  inAnyOrder reachTop (Branch.all.filter (closesBefore used s)) s

/-- R46: a break in the measurement. In ACQUIRE it clears the intervals and the positions; in RUN each branch forgets its
last accepted crossing position. -/
def breakTracking (s : State) : State :=
  let p := s.ct.progress
  { s with ct := { s.ct with
    tracks := s.ct.tracks.mapKey fun _ t => { t with previous := none, candidate := none, lastAccepted := none }
    progress := { p with intervals := [], previousVab := none, vbc := [], vca := [] } } }

end Sys2Proof.Machine
end

