-- ==== Sys2Proof/Machine/SampleLinkReceiver.lean ====
section
/-! DEFINITION. The Sample Link Receiver: taking a frame (R21 to R26), word selection and the compare check (R28 to R30), the
block check (R31 to R35), delivery (R27), and the marks of the gap counter (R36, R37). -/

namespace Sys2Proof.Machine

/-- Change the receiver's items. -/
def modLink (f : SampleLink → SampleLink) (s : State) : State := { s with slr := f s.slr }

/-! ## The current block -/

/-- The block a sequence number belongs to: the number divided by 8 (R31). -/
def blockOf (seq : Byte) : BitVec 5 := seq.extractLsb' 3 5

/-- R31: a new current block. -/
def newBlock (seq : Byte) : CurrentBlock := ⟨some (blockOf seq), 0, false, .fill (.fill 0)⟩

/-- R31: start a new current block from a frame, as a new start and a resync do (R23, R25). -/
def startBlock (seq : Byte) (l : SampleLink) : SampleLink := { l with block := newBlock seq }

/-- R34: the frame is the first of its block and the current block it leaves has not been judged. -/
def leavesUnjudged (seq : Byte) (l : SampleLink) : Bool :=
  seq.extractLsb' 0 3 == 0#3 && l.block.index.isSome && !l.block.judged

/-- R31, R34: a delivered frame of another block starts a new current block, and counts a check missing where it leaves one
unjudged at a block boundary. -/
def trackBlock (seq : Byte) (l : SampleLink) : SampleLink :=
  if l.block.index = some (blockOf seq) then l
  else startBlock seq
    (if leavesUnjudged seq l then
      { l with counters := { l.counters with checkMissing := count32 l.counters.checkMissing } }
    else l)

/-- R31: a received frame's raw words enter the accumulators of the current block and its received count grows by one. The
count of a block is at most 8 (R20). -/
def accumulate (words : PerQuantity (PerLink LinkWord)) (l : SampleLink) : SampleLink :=
  { l with block := { l.block with
    received := bump 8 l.block.received
    sums := l.block.sums.mapKey fun q sum => sum.mapKey fun c x => x ^^^ ((words.get q).get c).data } }

/-! ## Word selection and the compare check -/

/-- R28: the secondary word may stand in for a damaged primary word. -/
def secondaryUsable (l : SampleLink) (pair : PerLink LinkWord) : Bool :=
  (l.chains.get l.primary.other).status != .failed && parityGood (pair.get l.primary.other)

/-- R28: the used value of a quantity in a received frame. -/
def usedValue (l : SampleLink) (q : Quantity) (pair : PerLink LinkWord) : Half :=
  if parityGood (pair.get l.primary) then (pair.get l.primary).data
  else if secondaryUsable l pair then (pair.get l.primary.other).data
  else (l.quantities.get q).lastUsed

/-- R28, case 3: the value is a held word. -/
def isHeld (l : SampleLink) (pair : PerLink LinkWord) : Bool :=
  !parityGood (pair.get l.primary) && !secondaryUsable l pair

/-- R28, case 2: the value is a substitution. -/
def isSubstitution (l : SampleLink) (pair : PerLink LinkWord) : Bool :=
  !parityGood (pair.get l.primary) && secondaryUsable l pair

/-- R29: the two words of a quantity are compared. -/
def compared (l : SampleLink) (pair : PerLink LinkWord) : Bool :=
  parityGood (pair.get .a) && parityGood (pair.get .b) && (l.chains.get .a).status != .failed &&
    (l.chains.get .b).status != .failed && l.tolerance != 0

/-- R29: the comparison is a mismatch. -/
def mismatches (l : SampleLink) (pair : PerLink LinkWord) : Bool :=
  decide (l.tolerance < ((pair.get .a).data.toInt - (pair.get .b).data.toInt).natAbs)

/-- R29: a quantity's runs after a comparison; each stops at 64. -/
def runsAfter (mismatch : Bool) (r : QuantityState) : QuantityState :=
  if mismatch then { r with mismatchRun := bump Config.divergeRun r.mismatchRun, agreementRun := 0 }
  else { r with mismatchRun := 0, agreementRun := bump Config.divergeRun r.agreementRun }

/-- R28: the counts of a selection: parity errors by channel, and the substitution or the held word. -/
def countSelection (l : SampleLink) (q : Quantity) (pair : PerLink LinkWord) (c : LinkCounters) : LinkCounters :=
  { c with
    parityErrors := c.parityErrors.mapKey fun k n => if parityGood (pair.get k) then n else count32 n
    substitutions :=
      if isSubstitution l pair then c.substitutions.set q (count32 (c.substitutions.get q)) else c.substitutions
    heldWords := if isHeld l pair then c.heldWords.set q (count32 (c.heldWords.get q)) else c.heldWords }

/-- R28 to R30: one quantity of a received frame: its used value becomes the last used value, the words are compared, and a
run that reaches 64 sets or clears DIVERGED. -/
def selectQuantity (words : PerQuantity (PerLink LinkWord)) (q : Quantity) (s : State) : State :=
  let l := s.slr
  let pair := words.get q
  let r1 := { l.quantities.get q with lastUsed := usedValue l q pair }
  let r2 := if compared l pair then runsAfter (mismatches l pair) r1 else r1
  let diverges := r2.mismatchRun = Config.divergeRun ∧ r2.diverged = false
  let agrees := r2.agreementRun = Config.divergeRun ∧ r2.diverged = true
  let r3 := if diverges then { r2 with diverged := true } else if agrees then { r2 with diverged := false } else r2
  let c := countSelection l q pair l.counters
  let c' := if diverges then { c with divergences := c.divergences.set q (count32 (c.divergences.get q)) } else c
  let s' := { s with slr := { l with quantities := l.quantities.set q r3, counters := c' } }
  if diverges then raise .quantityDiverged s' else s'

/-- The six quantities of a received frame, in order. -/
def selectWords (words : PerQuantity (PerLink LinkWord)) (s : State) : State :=
  Quantity.all.foldl (fun s q => selectQuantity words q s) s

/-! ## Delivery -/

/-- R27, R37: a delivery advances the frame index, restarts the gap counter and returns LATE to FLOWING. -/
def advanceFrame (l : SampleLink) : SampleLink :=
  { l with frameIndex := l.frameIndex + 1, gap := 0, gapRunning := true,
           link := if l.link = .late then .flowing else l.link }

/-- R27: one delivery to BDU and CT. BDU adds the frame to the open windows first, so a window takes the frame whose
confirmation ends it (R69); CT then watches VAB, VBC and VCA in that order (assumption 9). -/
def deliver (used : PerQuantity Half) (held : PerQuantity Bool) (s : State) : State :=
  forBranches (fun b => watchVoltage b (used.get b.voltage)) (feedDemand used held (modLink advanceFrame s))

/-- The last used values of the six quantities. -/
def lastUsedValues (l : SampleLink) : PerQuantity Half :=
  ⟨(l.quantities.get .vab).lastUsed, (l.quantities.get .vbc).lastUsed, (l.quantities.get .vca).lastUsed,
   (l.quantities.get .ia).lastUsed, (l.quantities.get .ib).lastUsed, (l.quantities.get .ic).lastUsed⟩

/-- R24: one patched frame: six held words, no accumulator, no compare. A closure due before it comes first (R69). -/
def deliverPatched (seq : Byte) (s : State) : State :=
  let s0 := closeBeforeDelivery (lastUsedValues s.slr) s
  let s1 := modLink (fun l => trackBlock seq { l with counters := { l.counters with
    patched := count32 l.counters.patched
    heldWords := l.counters.heldWords.mapKey fun _ => count32 } }) s0
  deliver (lastUsedValues s1.slr) (.fill true) s1

/-- R24: `n` patched frames, in sequence order from a number on. -/
def deliverPatches : Nat → Byte → State → State
  | 0, _, s => s
  | n + 1, seq, s => deliverPatches n (seq + 1) (deliverPatched seq s)

/-- R28: the six used values of a received frame. -/
def usedValues (l : SampleLink) (words : PerQuantity (PerLink LinkWord)) : PerQuantity Half :=
  words.mapKey fun q pair => usedValue l q pair

/-- R27, R28, R31: a received frame is delivered, and the next one is expected. A closure due before it comes first (R69). -/
def deliverReceived (seq : Byte) (words : PerQuantity (PerLink LinkWord)) (s : State) : State :=
  let held : PerQuantity Bool := words.mapKey fun _ pair => isHeld s.slr pair
  let s0 := closeBeforeDelivery (usedValues s.slr words) s
  let s1 := selectWords words (modLink (fun l => accumulate words (trackBlock seq { l with
    expected := some (seq + 1)
    counters := { l.counters with received := count32 l.counters.received } })) s0)
  deliver (lastUsedValues s1.slr) held s1

/-! ## Sequence -/

/-- R23, R25: a break: the delay lines are flushed (R68), open windows marked RESYNC (R70), CT's half-seen crossings voided
(R46), LINK_RESYNC raised and one resync counted. -/
def measurementBreak (s : State) : State :=
  raise .linkResync (breakTracking (markWindows markResync (flushLines
    (modLinkCounters (fun c => { c with resyncs := count32 c.resyncs }) s))))

/-- R23: a new start, from SILENT or from LOST. -/
def newStart (seq : Byte) (words : PerQuantity (PerLink LinkWord)) (s : State) : State :=
  let s1 := if s.slr.link = .lost then measurementBreak s else s
  deliverReceived seq words (modLink (fun l => startBlock seq { l with
    link := .flowing
    counters := { l.counters with newStarts := count32 l.counters.newStarts } }) s1)

/-- R25: a resync at a jump of 4 to 127. -/
def resync (seq : Byte) (words : PerQuantity (PerLink LinkWord)) (s : State) : State :=
  deliverReceived seq words (modLink (startBlock seq) (measurementBreak s))

/-- R22 to R26: a data frame with good header parity, by its sequence number. -/
def takeData (seq : Byte) (words : PerQuantity (PerLink LinkWord)) (s : State) : State :=
  match s.slr.link with
  | .silent | .lost => newStart seq words s
  | .flowing | .late =>
    let expected := s.slr.expected.getD seq
    let d := (seq - expected).toNat
    if d ≤ 3 then deliverReceived seq words (deliverPatches d expected s)
    else if d ≤ 127 then resync seq words s
    else modLinkCounters (fun c => { c with discarded := count32 c.discarded }) s

/-! ## Check frames -/

/-- R33: a channel's six accumulators all equal the longitudinal words. -/
def passesBlock (l : SampleLink) (words : PerQuantity (PerLink LinkWord)) (c : LinkChannel) : Bool :=
  Quantity.all.all fun q => (l.block.sums.get q).get c == ((words.get q).get c).data

/-- R33: the status that follows from a consecutive failed-block count. -/
def statusOf (run : Nat) : ChannelStatus :=
  if run = 0 then .good else if run < Config.failedBlocksLimit then .suspect else .failed

/-- R33: a verified block judges one channel that is not FAILED. -/
def judgeChannel (words : PerQuantity (PerLink LinkWord)) (c : LinkChannel) (s : State) : State :=
  let r := s.slr.chains.get c
  if r.status = .failed then s
  else if passesBlock s.slr words c then modLink (fun l => { l with chains := l.chains.set c ⟨.good, 0⟩ }) s
  else
    let run := r.failedRun + 1
    let s1 := raise .blockCheckError (modLink (fun l => { l with
      chains := l.chains.set c ⟨statusOf run, run⟩
      counters := { l.counters with failedBlocks := l.counters.failedBlocks.set c (count32 (l.counters.failedBlocks.get c)) } }) s)
    if Config.failedBlocksLimit ≤ run then
      raise .channelFailed (modLinkCounters (fun k => { k with channelFailures := count32 k.channelFailures }) s1)
    else s1

/-- R35: a FAILED primary with a secondary that is not FAILED is switched. -/
def switchPrimary (s : State) : State :=
  let l := s.slr
  if (l.chains.get l.primary).status = .failed ∧ (l.chains.get l.primary.other).status ≠ .failed then
    raise .primarySwitched (modLink (fun l => { l with
      primary := l.primary.other
      counters := { l.counters with primarySwitches := count32 l.counters.primarySwitches } }) s)
  else s

/-- R32: a check frame that judges nothing is discarded and counted. -/
def discardsCheck (l : SampleLink) (index : BitVec 5) (words : PerQuantity (PerLink LinkWord)) : Bool :=
  l.block.index != some index || l.block.judged ||
    !(Quantity.all.all fun q => parityGood ((words.get q).get .a) && parityGood ((words.get q).get .b))

/-- R32, R33, R35: a check frame with good header parity. -/
def takeCheck (index : BitVec 5) (words : PerQuantity (PerLink LinkWord)) (s : State) : State :=
  if discardsCheck s.slr index words then
    modLinkCounters (fun c => { c with checkDiscarded := count32 c.checkDiscarded }) s
  else
    let s1 := modLink (fun l => { l with block := { l.block with judged := true } }) s
    if s.slr.block.received = 8 then
      switchPrimary (judgeChannel words .b (judgeChannel words .a
        (modLinkCounters (fun c => { c with verified := count32 c.verified }) s1)))
    else modLinkCounters (fun c => { c with unverified := count32 c.unverified }) s1

/-- R21, R198: a frame of the sample link, by its header word. -/
def takeLinkFrame (header : LinkWord) (words : PerQuantity (PerLink LinkWord)) (s : State) : State :=
  match readHeader header with
  | .error => modLinkCounters (fun c => { c with headerErrors := count32 c.headerErrors }) s
  | .data seq => takeData seq words s
  | .check index => takeCheck index words s

/-! ## The gap counter's marks -/

/-- R36, R37: count 3: FLOWING becomes LATE. -/
def markLate (s : State) : State :=
  if s.slr.link = .flowing then
    raise .linkLate (modLink (fun l => { l with
      link := .late
      counters := { l.counters with lateEntries := count32 l.counters.lateEntries } }) s)
  else s

/-- R36: count 12: every open window is marked MEAS_GAP. -/
def markGap (s : State) : State := markWindows markMeasGap s

/-- R36, R37: count 48: LATE becomes LOST and the delay lines are flushed. -/
def markLost (s : State) : State :=
  if s.slr.link = .late then
    raise .linkLost (flushLines (modLink (fun l => { l with
      link := .lost
      counters := { l.counters with losses := count32 l.counters.losses } }) s))
  else s

/-- The gap counter is brought to a mark it has not reached (assumption 3). -/
def setGap (n : Nat) (s : State) : State := modLink (fun l => { l with gap := n }) s

/-- The gap counter runs and stands below a mark. -/
def gapBelow (s : State) (mark : Nat) : Bool := s.slr.gapRunning && decide (s.slr.gap < mark)

/-- The gap counter reaches 3. -/
def reachLate (s : State) : State :=
  if gapBelow s Config.lateMark then markLate (setGap Config.lateMark s) else s

/-- The gap counter reaches 12, by way of 3. -/
def reachGapMark (s : State) : State :=
  if gapBelow s Config.gapMark then markGap (setGap Config.gapMark (reachLate s)) else s

/-- The gap counter reaches 48, by way of 12. -/
def reachLost (s : State) : State :=
  if gapBelow s Config.lostMark then markLost (setGap Config.lostMark (reachGapMark s)) else s

end Sys2Proof.Machine
end

