-- ==== Sys2Proof/Machine/Plant.lean ====
section
/-! DEFINITION. The Plant Line Interface: raw levels, debounce and initial settling (R155, R156), what each level change does
(R157, R158), and the consumption of the preset latch (R83, R160). -/

namespace Sys2Proof.Machine

/-- R160: a branch is named when its state is not BLOCKED and it is not in a forced-measurement condition. -/
def namedForPreset (s : State) (b : Branch) : Bool :=
  (s.bdu.branches.get b).state != .blocked && !forced s.slr b

/-- R83: a named branch enters PRESET; the decision already held and the open window stand. -/
def presetDemand (v : PresetValues) (b : Branch) (d : BranchDemand) : BranchDemand :=
  { d with state := .preset, preset := some ⟨v.closures, v.values.get b⟩, heldClosures := 0, validClosures := 0 }

/-- R160: the latch is consumed, whether or not any branch is named. -/
def consumeLatch (v : PresetValues) (s : State) : State :=
  let named : PerBranch Bool := ⟨namedForPreset s .ab, namedForPreset s .bc, namedForPreset s .ca⟩
  let branches := s.bdu.branches.mapKey fun b d => if named.get b then presetDemand v b d else d
  let s1 := refreshLines { s with bdu := { s.bdu with branches := branches } }
  raise .presetApplied { s1 with pli := { s1.pli with
    latch := none
    lastApplication := some ⟨s.slr.frameIndex, named⟩
    applications := count16 s1.pli.applications } }

/-- R157: a breaker close: reported as a capture trigger; an ARMED latch is consumed in RUN and cancelled elsewhere. -/
def breakerClose (s : State) : State :=
  let s1 := offerTrigger .breakerClose s
  match s1.pli.latch with
  | none => s1
  | some v => if s1.oc.device = .run then consumeLatch v s1 else cancelLatch .breakerClose s1

/-- R158: PLANT is added to, or removed from, all three block cause sets. -/
def setPlantCause (asserted : Bool) (s : State) : State :=
  forBranches (fun b => changeCauses b fun c => { c with plant := asserted }) s

/-- R157, R158: what a change of an input's debounced level does. -/
def actOnLevel (i : PlantInput) (level : Bool) (s : State) : State :=
  match i with
  | .furnaceBreaker => if level then breakerClose s else s
  | .extBlock => setPlantCause level s
  | _ => s

/-- R155: an input whose stability timer reaches 8 with a raw level that differs from the debounced one: the debounced level
takes the raw level, the change is counted and raised, and it acts. During the initial settling nothing changes (R156). -/
def changeLevel (i : PlantInput) (s : State) : State :=
  let level := s.pins.raw.get i
  if s.pli.settling = false ∧ (s.pli.inputs.get i).debounced ≠ level then
    actOnLevel i level (raise .plantLineChanged (modInput i (fun r =>
      { debounced := level, stability := Config.stableMark, changes := count16 r.changes }) s))
  else s

/-- R155: a change of an input's raw level restarts its stability timer. The pin moves whether or not the device is held in
reset, and the timer of a device held in reset stays at 0. -/
def moveRawLevel (i : PlantInput) (level : Bool) (s : State) : State :=
  if s.pins.raw.get i = level then s
  else
    modInput i (fun r => { r with stability := 0 }) { s with pins := { s.pins with raw := s.pins.raw.set i level } }

/-- R156: the initial settling ends: each debounced level takes its raw level, with no event and no count; an EXT_BLOCK found
asserted adds PLANT to all three sets. -/
def endSettling (s : State) : State :=
  if s.pli.settling = true then
    let s1 := { s with
      clock := { s.clock with sinceReset := Config.stableMark }
      pli := { s.pli with
        settling := false
        inputs := s.pli.inputs.mapKey fun i r => { r with debounced := s.pins.raw.get i } } }
    if s.pins.raw.get .extBlock then setPlantCause true s1 else s1
  else s

end Sys2Proof.Machine
end

