-- ==== Sys2Proof/Machine/Reports.lean ====
section
/-! DEFINITION. The payloads of replies, field by field in the order of the rules' tables and coded by R197 (assumption 10
names the choices the layout leaves): READ_STATE (R17), SET_SYNC (R64), the branch record (R93, R65, R96), the filter table
(R92), the characteristic table (R101), READ_VALVES (R137), the valve map (R142), the block cause sets (R147), the plant report
(R165), the capture report (9.5), READ_HISTORY (R177), the counters (R42, R139, R189), READ_EVENTS (R192) and IDENTIFY (R193). -/

namespace Sys2Proof.Machine

/-! ## Codes of the named values (R197: the place in the list of the rule that defines them) -/

def codeDevice : DeviceState → Nat
  | .unset => 0 | .ready => 1 | .acquire => 2 | .run => 3 | .halted => 4

def codeHalt : HaltCause → Nat
  | .none => 0 | .acquireFailed => 1 | .acquireTimeout => 2 | .phaseOrder => 3 | .syncLost => 4 | .valveFailed => 5

def codeFailure : FailureCause → Nat
  | .channelSilent => 0 | .refusals => 1 | .misfires => 2 | .redundancy => 3 | .cooling => 4

def codeNominal : Nominal → Nat
  | .hz50 => 0 | .hz60 => 1

def codeLink : LinkState → Nat
  | .silent => 0 | .flowing => 1 | .late => 2 | .lost => 3

def codeCondition : MeasurementCondition → Nat
  | .absent => 0 | .degraded => 1 | .normal => 2

def codeChain : ChannelStatus → Nat
  | .good => 0 | .suspect => 1 | .failed => 2

def codeMode : AcquisitionMode → Nat
  | .fixed50 => 0 | .fixed60 => 1 | .autoSingle => 2 | .autoThree => 3

def codePolarity : Polarity → Nat
  | .pos => 0 | .neg => 1

def codeSync : SyncStatus → Nat
  | .inactive => 0 | .waiting => 1 | .inSync => 2 | .outOfSync => 3

def codeBranchState : BranchState → Nat
  | .idle => 0 | .track => 1 | .hold => 2 | .fallback => 3 | .preset => 4 | .blocked => 5

def codeGapMark : GapMark → Nat
  | .resync => 0 | .measGap => 1

def codeChannelLink : ChannelLink → Nat
  | .active => 0 | .silent => 1

def codeRefusal : RefusalCause → Nat
  | .overtemperature => 0 | .gateSupply => 1 | .protectiveBlock => 2 | .noForwardVoltage => 3

def codeOutcome : Outcome → Nat
  | .fired => 0 | .misfire => 1 | .refused => 2 | .notReady => 3 | .overtaken => 4 | .lateDecision => 5 | .noOrder => 6

def codePhase : Phase → Nat
  | .waiting => 0 | .retryGap => 1

def codeCancel : CancelCause → Nat
  | .cancelPreset => 0 | .disable => 1 | .block => 2 | .unblock => 3 | .mapGroup => 4 | .setFilters => 5 | .halted => 6
  | .breakerClose => 7

def codeCapture : CaptureState → Nat
  | .free => 0 | .triggered => 1 | .frozen => 2

def codeReset : ResetKind → Nat
  | .powerOn => 0 | .supplyDip => 1 | .resetLine => 2 | .restart => 3

def codeStatus : Status → Nat
  | .ok => 0 | .refusedState => 1 | .refusedRange => 2 | .refusedConflict => 3 | .unknownKind => 4 | .badLength => 5

def codeTableFault : TableFault → Nat
  | .outOfRange => 0 | .increasing => 1

/-! ## Small pieces -/

/-- Two bytes and four bytes (R197). -/
def two (n : Nat) : List Byte := bigEndian 2 n
def four (n : Nat) : List Byte := bigEndian 4 n

/-- A block cause set as a bit mask: SUPERVISOR, VALVE, SYNC, PLANT (R145, R197). -/
def causeBytes (c : CauseSet) : List Byte := byte (bitMask [c.supervisor, c.valve, c.sync, c.plant])

/-- The four STATUS fields in the order of R114's indication (6.1). -/
def statusBytes (st : ValveStatus) : List Byte :=
  flag st.coolingOk ++ flag st.temperatureWarning ++ byte st.failedLevels.toNat ++ flag st.gateSupplyOk

/-- The tracking settings: mode, H, W, L, S_max (R64). -/
def syncBytes (x : SyncSettings) : List Byte :=
  byte (codeMode x.mode) ++ two x.hysteresis ++ two x.halfWidth ++ byte x.latency ++ byte x.limit

/-! ## READ_STATE (R17) -/

/-- The halt record with its optional fields (R9). -/
def haltBytes (h : HaltRecord) : List Byte :=
  byte (codeHalt h.cause) ++ optional (fun b => byte b.number) h.branch ++ optional (fun g => byte g.number) h.group ++
    optional (fun f => byte (codeFailure f)) h.failure ++ optional (fun i : Index => four i.toNat) h.frameIndex

/-- R17. -/
def stateReport (s : State) : List Byte :=
  byte (codeDevice s.oc.device) ++ haltBytes s.oc.halt ++ flag s.oc.tripRequest ++ flag s.oc.fallbackActive ++
    optional (fun n => byte (codeNominal n)) s.oc.lockFrequency ++ byte (codeLink s.slr.link) ++
    byte (codeCondition (measurementCondition s.slr)) ++
    (s.bdu.branches.toList.map fun d => byte (codeBranchState d.state)).flatten ++
    (s.causes.toList.map causeBytes).flatten ++ byte (if s.pli.latch.isSome then 0 else 1) ++
    flag (s.pli.inputs.get .furnaceBreaker).debounced ++ byte (codeCapture s.hr.capture)

/-! ## The branch record (R93) -/

/-- The window in progress (R93). -/
def windowBytes (w : Window) : List Byte :=
  byte w.frames ++ byte w.held ++ optional (fun m => byte (codeGapMark m)) w.gapMark ++ flag w.filling ++ flag w.first

/-- The branch counters (R96). -/
def branchCounterBytes (c : BranchCounters) : List Byte :=
  four c.judged ++ (c.codes.toList.map four).flatten ++ four c.saturatedHigh ++ four c.saturatedLow ++
    four c.fallbackEntries

/-- The tracking items of a branch (R65). -/
def trackingBytes (s : State) (b : Branch) : List Byte :=
  let t := s.ct.tracks.get b
  byte (codeSync t.sync) ++ optional (fun a => two a.count) t.counter ++ optional (fun p => byte (codePolarity p)) t.polarity ++
    optional two t.period ++ byte t.synthesisedRun ++ four t.accepted ++ four t.rejected ++ four t.synthesised ++
    optional (fun n => byte (codeNominal n)) s.ct.nominal ++ syncBytes s.ct.settings

/-- The branch has had a closure in this RUN: its open window was opened by a closure, and so carries no first-window mark
(R69). -/
def hasClosed (d : BranchDemand) : Bool := d.window.any fun w => !w.first

/-- R93: the decision reported: while BLOCKED the one held, and b = 0, α = 2048 where none is held yet (R78; assumption 22);
otherwise the one held, from the branch's first closure in RUN on, and none before it. -/
def reportedDecision (d : BranchDemand) : Option Decision :=
  if d.state = .blocked then some (d.decision.getD ⟨0, Config.noOrder⟩)
  else if hasClosed d then d.decision
  else none

/-- R93. -/
def branchReport (s : State) (b : Branch) : List Byte :=
  let d := s.bdu.branches.get b
  let x := d.settings
  bigEndian 3 x.gain ++ bigEndianInt 2 x.trim ++ two x.fallback ++ two x.step ++ byte x.holdLimit ++ four x.floor ++
    byte (codeBranchState d.state) ++ causeBytes (s.causes.get b) ++
    optional (fun v => two v.susceptance ++ two v.delay) (reportedDecision d) ++ optional two d.previous ++
    byte d.heldClosures ++ byte d.validClosures ++ optional (fun p => byte p.remaining ++ two p.value) d.preset ++
    optional (fun c => byte c.number) d.lastCode ++ optional (bigEndianInt 2) d.lastDemand ++ optional four d.lastMeanSquare ++
    optional windowBytes d.window ++ byte s.bdu.lines.length ++
    optional (fun e => four e.frame.toNat) s.bdu.lines.head? ++ branchCounterBytes d.counters ++ trackingBytes s b

/-! ## Tables -/

/-- R92: the filter share table, bank by bank. -/
def filterBytes (s : State) : List Byte := (s.bdu.shares.toList.map fun r => (r.toList.map two).flatten).flatten

/-- R101: one presence byte, then the 65 entries when present. -/
def tableBytes (s : State) : List Byte := optional (fun t => (t.map two).flatten) s.table

/-- R98 to R100: the reply to LOAD_TABLE: the presence byte, then the fault report where there is one. -/
def loadReply (s : State) (fault : Option (Nat × TableFault)) : List Byte :=
  flag s.table.isSome ++
    match fault with
    | some (k, f) => byte k ++ byte (codeTableFault f)
    | none => []

/-! ## Valves -/

/-- The seven valve settings (R136). -/
def valveSettingBytes (x : ValveSettings) : List Byte :=
  byte x.guardTime ++ byte x.retries ++ two x.lastRetry ++ byte x.refusalLimit ++ byte x.misfireLimit ++
    byte x.redundancyLimit ++ flag x.tripOnBlock

/-- R137: the channel report. -/
def channelReport (s : State) : List Byte :=
  valveSettingBytes s.vlc.settings ++
    (ValveChannel.all.map fun c =>
      let r := s.vlc.channels.get c
      optional (fun g => byte g.number) (groupOn s.vlc.map c) ++ byte (codeChannelLink r.link) ++ two r.silence ++
        optional statusBytes r.status ++ byte r.nextTag.toNat).flatten

/-- An open transaction as R137 reports it. -/
def transactionBytes (t : Transaction) : List Byte :=
  byte t.tag.toNat ++ byte t.attempts ++ byte (codePhase t.phase) ++ two t.guardEnd ++ byte t.guardTime ++ byte t.retries ++
    two t.lastRetry

/-- R137: one group's items. -/
def groupBytes (s : State) (g : Group) : List Byte :=
  let r := s.vlc.groups.get g
  byte (s.vlc.map.get g).number ++ byte (if r.failure.isSome then 1 else 0) ++
    optional (fun f => byte (codeFailure f)) r.failure ++ flag r.ready ++ flag r.credit ++ byte r.misfireRun ++
    byte r.refusalRun ++ optional (fun c => byte (codeRefusal c)) r.lastRefusal ++ optional statusBytes (currentStatus s g) ++
    optional statusBytes r.snapshot ++ flag r.changed ++
    optional transactionBytes ((s.vlc.firing.get g.branch).transaction.filter fun t => t.group == g)

/-- R137: the group report. -/
def groupReport (s : State) : List Byte := (Group.all.map (groupBytes s)).flatten

/-- R142: the whole map, group by group. -/
def mapBytes (s : State) : List Byte := (s.vlc.map.toList.map fun c => byte c.number).flatten

/-- R147: the three block cause sets. -/
def causesBytes (s : State) : List Byte := (s.causes.toList.map causeBytes).flatten

/-- R149: a group's state and failure cause. -/
def groupStateBytes (s : State) (g : Group) : List Byte :=
  let r := s.vlc.groups.get g
  byte (if r.failure.isSome then 1 else 0) ++ optional (fun f => byte (codeFailure f)) r.failure

/-! ## Plant and capture -/

/-- R165. -/
def plantReport (s : State) : List Byte :=
  (s.pli.inputs.toList.map fun r => flag r.debounced).flatten ++ (s.pins.raw.toList.map flag).flatten ++
    byte (if s.pli.settling then 0 else 1) ++ (s.pli.inputs.toList.map fun r => two r.changes).flatten ++
    byte (if s.pli.latch.isSome then 0 else 1) ++
    optional (fun v => (v.values.toList.map two).flatten ++ byte v.closures) s.pli.latch ++
    optional (fun c => byte (codeCancel c)) s.pli.lastCancel ++
    optional (fun a => four a.frameIndex.toNat ++ byte (bitMask a.named.toList)) s.pli.lastApplication ++
    two s.pli.applications ++ two s.pli.cancellations

/-- The trigger record (R171). -/
def triggerBytes (t : TriggerRecord) : List Byte :=
  byte (triggerNumber t.cause) ++ optional (fun q : Index => four q.toNat) t.seq ++ four t.frameIndex.toNat

/-- The capture report (9.5). The row of the ring has a presence byte for the oldest seq and another for the newest
(assumption 10). -/
def captureReport (s : State) : List Byte :=
  let h := s.hr
  byte (codeCapture h.capture) ++ [h.triggers] ++ two h.post ++ two h.remaining ++ optional triggerBytes h.trigger ++
    two h.ignored ++ four h.suppressed ++ two h.wraps ++ two h.ring.length ++
    optional (fun q : Index => four q.toNat) (oldestSeq h) ++ optional (fun q : Index => four q.toNat) (newestSeq h) ++
    four h.nextSeq.toNat

/-- The packed history record (10.11). -/
def recordBytes (r : ClosureRecord) : List Byte :=
  four r.seq.toNat ++ four r.frameIndex.toNat ++
    byte (r.branch.number + 4 * codePolarity r.ended + 8 * (if r.kind = .synthesized then 1 else 0) +
      16 * r.breakerClosed.toNat + 32 * r.presetActive.toNat + 64 * r.meanSquare.isSome.toNat + 128 * r.demand.isSome.toNat) ++
    byte r.frames ++ byte r.held ++ byte r.code.number ++ byte (codeOutcome r.outcome + 16 * r.attempts.getD 0) ++
    byte (codeBranchState r.state) ++ two r.susceptance ++ two r.delay ++ (r.meanSquare.map four).getD [] ++
    (r.demand.map (bigEndianInt 2)).getD []

/-- The room for records in a READ_HISTORY reply: 197 − 14 bytes (10.11). -/
def historyRoom : Nat := 183

/-- R177: the records of a reply. -/
def historyRecords (h : History) (fromSeq : Index) (max : Nat) : List ClosureRecord :=
  takeFitting max historyRoom (recordsFrom h fromSeq)

/-- R177: the seq that continues the reading: after the last record given; the newest plus one where none is given; 0 while
the ring is empty. After 4,294,967,295, where the sum does not fit the four bytes, it is 0 (assumption 10). -/
def continuingSeq (h : History) (records : List ClosureRecord) : Index :=
  match records.getLast? with
  | some r => r.seq + 1
  | none => ((newestSeq h).map (· + 1)).getD 0

/-- R177: the GAP mark: the starting number lies below the oldest seq. -/
def hasGap (h : History) (fromSeq : Index) : Bool := (oldestSeq h).any fun q => decide (fromSeq.toNat < q.toNat)

/-- R177, R197: a seq that is absent is sent as 0, and the reply flags say so. -/
def historyReply (h : History) (fromSeq : Index) (max : Nat) : List Byte :=
  let records := historyRecords h fromSeq max
  byte (bitMask [hasGap h fromSeq, h.ring.isEmpty]) ++ byte records.length ++ four (((oldestSeq h).getD 0).toNat) ++
    four (((newestSeq h).getD 0).toNat) ++ four (continuingSeq h records).toNat ++ (records.map recordBytes).flatten

/-! ## Counters, events, identity -/

/-- R42: the link report. A row of R42's table with several items kept per channel or per quantity is sent channel by channel
or quantity by quantity, the items of one of them together: R197 does not say (assumption 10). -/
def linkReport (l : SampleLink) : List Byte :=
  let c := l.counters
  byte (codeLink l.link) ++ byte (codeCondition (measurementCondition l)) ++
    optional (fun n : Byte => [n]) l.expected ++ four l.frameIndex.toNat ++ byte l.primary.number ++
    (l.chains.toList.map fun r => byte (codeChain r.status) ++ byte r.failedRun).flatten ++
    (l.quantities.toList.map fun r => flag r.diverged ++ byte r.mismatchRun ++ byte r.agreementRun).flatten ++
    two l.tolerance ++ four c.received ++ four c.patched ++ four c.discarded ++ four c.headerErrors ++ four c.resyncs ++
    four c.newStarts ++ four c.lateEntries ++ four c.losses ++
    (LinkChannel.all.map fun k => four (c.parityErrors.get k) ++ four (c.failedBlocks.get k)).flatten ++
    four c.verified ++ four c.unverified ++ four c.checkDiscarded ++ four c.checkMissing ++ four c.channelFailures ++
    four c.primarySwitches ++
    (Quantity.all.map fun q =>
      four (c.substitutions.get q) ++ four (c.heldWords.get q) ++ four (c.divergences.get q)).flatten

/-- One group's counters (R140). -/
def groupCounterBytes (c : GroupCounters) : List Byte :=
  two c.orders ++ two c.retries ++ two c.fired ++ two c.misfires ++ two c.refusals ++ two c.notReady ++ two c.overtaken ++
    two c.lateDecisions ++ two c.selfFired ++ two c.strays ++ two c.polarityMismatches

/-- R139: the valve report. -/
def valveReport (v : ValveControl) : List Byte :=
  (v.groups.toList.map fun g => groupCounterBytes g.counters).flatten ++
    (v.channels.toList.map fun c => two c.frameErrors ++ two c.silences).flatten

/-- R189: the line counters. -/
def lineReport (c : LineCounters) : List Byte :=
  two c.accepted ++ two c.broadcastsExecuted ++ two c.broadcastsIgnored ++ two c.crcErrors ++ two c.gapAbandonments ++
    two c.lengthAbandonments ++ two c.framingErrors ++ two c.interrupted ++ two c.ignoredAnswering

/-- R192, R197: the flags as a four-byte mask, then the 29 counts. -/
def eventReport (e : PerEvent EventCell) : List Byte :=
  four (eventFlags e).toNat ++ (e.toList.map fun c => byte c.count).flatten

/-- R193. -/
def identity (x : Supervisory) : List Byte :=
  two 0x3A71 ++ two 0x0340 ++ byte 0x01 ++ byte x.address.toNat ++ byte x.rate.toNat ++ byte (codeReset x.resetCause) ++
    two x.resetCount

/-! ## The reply frame (R188) -/

/-- The characters of a reply: address, kind, L = 3 + payload length, status, header flags, device state, payload, CRC. -/
def replyBytes (r : Reply) : List Byte :=
  let body := r.address :: r.kind :: BitVec.ofNat 8 (3 + r.payload.length) :: BitVec.ofNat 8 (codeStatus r.status) ::
    (if r.attention then 1 else 0) :: BitVec.ofNat 8 (codeDevice r.device) :: r.payload
  body ++ crcBytes body

end Sys2Proof.Machine
end

