-- ==== Sys2Proof/Machine/Operands.lean ====
section
/-! DEFINITION. Reading the fields a request carries (R197): the named values a byte codes, the ranges of settings, and the
fields of a payload of known length. -/

namespace Sys2Proof.Machine

/-- The branch a byte names (R197). -/
def readBranchByte (b : Byte) : Option Branch := Branch.all[b.toNat]?

/-- The branches a BLOCK or UNBLOCK byte names: one, or the three for 3, ALL (R147, R197). -/
def readBranchSet (b : Byte) : Option (List Branch) :=
  if b = 3 then some Branch.all else (readBranchByte b).map fun x => [x]

/-- The group a byte names. -/
def readGroupByte (b : Byte) : Option Group := Group.all[b.toNat]?

/-- The valve channel a byte names. -/
def readChannelByte (b : Byte) : Option ValveChannel := ValveChannel.all[b.toNat]?

/-- The converter chain a byte names. -/
def readChainByte (b : Byte) : Option LinkChannel := LinkChannel.all[b.toNat]?

/-- The acquisition mode a byte names. -/
def readMode (b : Byte) : Option AcquisitionMode :=
  if b = 0 then some .fixed50 else if b = 1 then some .fixed60 else if b = 2 then some .autoSingle
  else if b = 3 then some .autoThree else none

/-- A yes/no field: 1 for yes (R197). -/
def readYesNo (b : Byte) : Option Bool := if b = 1 then some true else if b = 0 then some false else none

/-- A value lies in lo..hi, both ends included (Conventions). -/
def inRange (lo hi n : Nat) : Bool := decide (lo ≤ n ∧ n ≤ hi)

/-- R64: the settings a SET_SYNC payload carries, where every field lies in its range. -/
def readSync (mode : Byte) (h w : Half) (l limit : Byte) : Option SyncSettings :=
  match readMode mode with
  | some m =>
    if inRange 0 16383 h.toNat && inRange 64 512 w.toNat && inRange 2 16 limit.toNat then
      some ⟨m, h.toNat, w.toNat, l.toNat, limit.toNat⟩
    else none
  | none => none

/-- R91: the six settings of a SET_BRANCH payload, where every field lies in its range. -/
def readBranchSettings (gain : BitVec 24) (trim fallback step : Half) (hold : Byte) (floor : BitVec 32) :
    Option BranchSettings :=
  if inRange 1 16777215 gain.toNat && decide (-2048 ≤ trim.toInt ∧ trim.toInt ≤ 2047) && inRange 0 4095 fallback.toNat &&
      inRange 1 4095 step.toNat && inRange 1 32 hold.toNat && inRange 0 1073741824 floor.toNat then
    some ⟨gain.toNat, trim.toInt, fallback.toNat, step.toNat, hold.toNat, floor.toNat⟩
  else none

/-- R92: the filter share table of twelve values, where each lies in 0..4095. -/
def readShares : List Half → Option (PerBank (PerBranch Nat))
  | [a0, b0, c0, a1, b1, c1, a2, b2, c2, a3, b3, c3] =>
    if [a0, b0, c0, a1, b1, c1, a2, b2, c2, a3, b3, c3].all (fun x => inRange 0 4095 x.toNat) then
      some ⟨⟨a0.toNat, b0.toNat, c0.toNat⟩, ⟨a1.toNat, b1.toNat, c1.toNat⟩, ⟨a2.toNat, b2.toNat, c2.toNat⟩,
        ⟨a3.toNat, b3.toNat, c3.toNat⟩⟩
    else none
  | _ => none

/-- R136: the seven valve settings, where every field lies in its range. -/
def readValveSettings (g retries : Byte) (last : Half) (refusals misfires redundancy trip : Byte) : Option ValveSettings :=
  match readYesNo trip with
  | some t =>
    if inRange 8 128 g.toNat && inRange 0 3 retries.toNat && inRange 1536 2040 last.toNat && inRange 1 16 refusals.toNat &&
        inRange 1 8 misfires.toNat && inRange 0 7 redundancy.toNat then
      some ⟨g.toNat, retries.toNat, last.toNat, refusals.toNat, misfires.toNat, redundancy.toNat, t⟩
    else none
  | none => none

/-- R159: the preset values and K_pre, where each lies in its range. -/
def readPreset (ab bc ca : Half) (closures : Byte) : Option PresetValues :=
  if inRange 0 4095 ab.toNat && inRange 0 4095 bc.toNat && inRange 0 4095 ca.toNat && inRange 1 255 closures.toNat then
    some ⟨⟨ab.toNat, bc.toNat, ca.toNat⟩, closures.toNat⟩
  else none

/-! ## Fields of a payload by offset, high byte first (R197) -/

/-- `k` bytes from an offset on. -/
def fieldNat (p : List Byte) (at_ k : Nat) : Nat := ofBytes ((p.drop at_).take k)

def field8 (p : List Byte) (at_ : Nat) : Byte := BitVec.ofNat 8 (fieldNat p at_ 1)
def field16 (p : List Byte) (at_ : Nat) : Half := BitVec.ofNat 16 (fieldNat p at_ 2)
def field24 (p : List Byte) (at_ : Nat) : BitVec 24 := BitVec.ofNat 24 (fieldNat p at_ 3)
def field32 (p : List Byte) (at_ : Nat) : BitVec 32 := BitVec.ofNat 32 (fieldNat p at_ 4)

/-- A payload as a run of 16-bit fields. -/
def halves : List Byte → List Half
  | hi :: lo :: rest => BitVec.ofNat 16 (256 * hi.toNat + lo.toNat) :: halves rest
  | _ => []

end Sys2Proof.Machine
end

