-- ==== Sys2Proof/Machine/Requests.lean ====
section
/-! DEFINITION. What each request does in the block that owns its kind, and the status and payload it is answered with
(R187). One definition for each request kind of 10.10. -/

namespace Sys2Proof.Machine

/-- What a request's execution gives: the state after it, the status, the payload. -/
structure Response where
  state : State
  status : Status
  payload : List Byte

/-- Answered OK. -/
def okay (s : State) (payload : List Byte) : Response := ⟨s, .ok, payload⟩

/-- Answered with another status, changing nothing. -/
def turnAway (s : State) (status : Status) (payload : List Byte) : Response := ⟨s, status, payload⟩

/-! ## Supervisory Link -/

/-- R193. -/
def doIdentify (s : State) : Response := okay s (identity s.sli)

/-- R192: the summary is reported and cleared in one step. -/
def doReadEvents (s : State) : Response :=
  okay { s with sli := { s.sli with events := noEvents } } (eventReport s.sli.events)

/-- R191. -/
def doSetAttentionMask (mask : BitVec 32) (s : State) : Response :=
  if mask.extractLsb' 29 3 = 0#3 then okay { s with sli := { s.sli with mask := mask } } (four mask.toNat)
  else turnAway s .refusedRange (four s.sli.mask.toNat)

/-- R196: answered OK; the reset begins when the reply ends. -/
def doRestart (s : State) : Response := okay s []

/-- A READ_COUNTERS report: refused for a clear byte other than 0 or 1; its counters cleared after it is built (R189). -/
def doReadCounters (clear : Byte) (report : List Byte) (cleared : State) (s : State) : Response :=
  match readYesNo clear with
  | none => turnAway s .refusedRange []
  | some yes => okay (if yes then cleared else s) report

/-- R42. -/
def doReadCountersLink (clear : Byte) (s : State) : Response :=
  doReadCounters clear (linkReport s.slr) (modLinkCounters (fun _ => .zero) s) s

/-- R139: with clear-after-read the group counters and the channels' frame errors and silences are set to 0. -/
def clearValveCounters (s : State) : State :=
  { s with vlc := { s.vlc with
    groups := s.vlc.groups.mapKey fun _ g => { g with counters := .zero }
    channels := s.vlc.channels.mapKey fun _ c => { c with frameErrors := 0, silences := 0 } } }

/-- R139. -/
def doReadCountersValve (clear : Byte) (s : State) : Response :=
  doReadCounters clear (valveReport s.vlc) (clearValveCounters s) s

/-- R189. -/
def doReadCountersSupervisory (clear : Byte) (s : State) : Response :=
  doReadCounters clear (lineReport s.sli.counters) (modLineCounters (fun _ => .zero) s) s

/-! ## Operating States -/

/-- R17. -/
def doReadState (s : State) : Response := okay s (stateReport s)

/-- R3. -/
def doEnable (s : State) : Response :=
  if s.oc.device = .ready then okay (beginAcquisition s) [] else turnAway s .refusedState []

/-- R10, R11. -/
def doDisable (s : State) : Response := okay (disableDevice s) []

/-! ## Crossing Tracking -/

/-- R64: the state is checked before the ranges; the reply carries the settings in force either way. -/
def doSetSync (mode : Byte) (h w : Half) (l limit : Byte) (s : State) : Response :=
  if s.oc.device = .unset ∨ s.oc.device = .ready then
    match readSync mode h w l limit with
    | some x => okay { s with ct := { s.ct with settings := x } } (syncBytes x)
    | none => turnAway s .refusedRange (syncBytes s.ct.settings)
  else turnAway s .refusedState (syncBytes s.ct.settings)

/-! ## Sample Link -/

/-- R39. -/
def doSetLink (tolerance : Half) (s : State) : Response :=
  if inRange 0 32767 tolerance.toNat then
    okay (modLink (fun l => { l with tolerance := tolerance.toNat }) s) (two tolerance.toNat)
  else turnAway s .refusedRange []

/-- R40. -/
def doSelectPrimary (channel : Byte) (s : State) : Response :=
  match readChainByte channel with
  | none => turnAway s .refusedRange (byte s.slr.primary.number)
  | some c =>
    if (s.slr.chains.get c).status = .failed then turnAway s .refusedState (byte s.slr.primary.number)
    else okay (modLink (fun l => { l with primary := c }) s) (byte c.number)

/-- R41. -/
def doResetChannels (s : State) : Response :=
  okay (modLink (fun l => { l with
    chains := .fill ⟨.good, 0⟩
    quantities := l.quantities.mapKey fun _ r => { r with mismatchRun := 0, agreementRun := 0, diverged := false } }) s) []

/-! ## Branch Demand -/

/-- R91. -/
def doSetBranch (branch : Byte) (gain : BitVec 24) (trim fallback step : Half) (hold : Byte) (floor : BitVec 32) (s : State) :
    Response :=
  match readBranchByte branch with
  | none => turnAway s .refusedRange []
  | some b =>
    match readBranchSettings gain trim fallback step hold floor with
    | none => turnAway s .refusedRange (branchReport s b)
    | some x =>
      let s1 := modDemand b (fun d => { d with settings := x }) s
      okay s1 (branchReport s1 b)

/-- R92: an accepted table also cancels an armed preset latch. -/
def doSetFilters (shares : List Half) (s : State) : Response :=
  match readShares shares with
  | none => turnAway s .refusedRange (filterBytes s)
  | some x =>
    let s1 := cancelLatch .setFilters { s with bdu := { s.bdu with shares := x } }
    okay s1 (filterBytes s1)

/-- R93. -/
def doReadBranch (branch : Byte) (s : State) : Response :=
  match readBranchByte branch with
  | none => turnAway s .refusedRange []
  | some b => okay s (branchReport s b)

/-! ## Characteristic Table -/

/-- R98 to R100: state before validation; the first fault is reported and the old table stands. -/
def doLoadTable (entries : List Half) (s : State) : Response :=
  if s.oc.device = .unset ∨ s.oc.device = .ready then
    let values := entries.map (·.toNat)
    match firstFault values with
    | some f => turnAway s .refusedRange (loadReply s (some f))
    | none =>
      let s1 := { s with table := some values }
      okay s1 (loadReply s1 none)
  else turnAway s .refusedState (loadReply s none)

/-- R101. -/
def doReadTable (s : State) : Response := okay s (tableBytes s)

/-! ## Valve Link, map and blocking -/

/-- R136. -/
def doSetValve (g retries : Byte) (last : Half) (refusals misfires redundancy trip : Byte) (s : State) : Response :=
  match readValveSettings g retries last refusals misfires redundancy trip with
  | some x => okay { s with vlc := { s.vlc with settings := x } } (valveSettingBytes x)
  | none => turnAway s .refusedRange (valveSettingBytes s.vlc.settings)

/-- R137, selection 0. -/
def doReadChannels (s : State) : Response := okay s (channelReport s)

/-- R137: after a group report each group's current status is copied into its snapshot, where there is one, and its change
latch is cleared. -/
def takeSnapshots (s : State) : State :=
  { s with vlc := { s.vlc with groups := s.vlc.groups.mapKey fun g r =>
      { r with snapshot := currentStatus s g, changed := false } } }

/-- R137, selection 1. -/
def doReadGroups (s : State) : Response := okay (takeSnapshots s) (groupReport s)

/-- R143: what a group's own items become when it is moved: state and failure cause are kept. -/
def movedGroup (r : GroupState) : GroupState := { GroupState.reset with failure := r.failure }

/-- R142 check 2: the channel is mapped to another group. -/
def heldByOther (s : State) (g : Group) (c : ValveChannel) : Bool :=
  Group.all.any fun k => k != g && s.vlc.map.get k == c

/-- R143: a group is moved to a channel. -/
def moveGroup (g : Group) (c : ValveChannel) (s : State) : State :=
  cancelLatch .mapGroup (modGroup g movedGroup { s with vlc := { s.vlc with map := s.vlc.map.set g c } })

/-- R142, R143: the four checks in order; the reply carries the whole map either way. -/
def doMapGroup (group channel : Byte) (s : State) : Response :=
  match readGroupByte group, readChannelByte channel with
  | some g, some c =>
    if heldByOther s g c then turnAway s .refusedConflict (mapBytes s)
    else if !groupRequestOpen s g.branch then turnAway s .refusedState (mapBytes s)
    else if s.vlc.map.get g = c then okay s (mapBytes s)
    else if (s.vlc.channels.get c).link = .silent then turnAway s .refusedState (mapBytes s)
    else
      let s1 := moveGroup g c s
      okay s1 (mapBytes s1)
  | _, _ => turnAway s .refusedRange (mapBytes s)

/-- R149: a group's consecutive counts are cleared, a FAILED group returns to AVAILABLE, and its current status and its
channel are checked again at once. The status is checked before the channel, so the cause of a group that both would fail is COOLING
or REDUNDANCY (assumption 31). -/
def resetGroup (g : Group) (s : State) : State :=
  let s1 := modGroup g (fun r => { r with failure := none, misfireRun := 0, refusalRun := 0 }) s
  let s2 := match currentStatus s g with
    | some st => checkLimits g st s1
    | none => s1
  if (s.vlc.channels.get (s.vlc.map.get g)).link = .silent then failGroup g .channelSilent s2 else s2

/-- R149. -/
def doResetGroup (group : Byte) (s : State) : Response :=
  match readGroupByte group with
  | none => turnAway s .refusedRange []
  | some g =>
    if groupRequestOpen s g.branch then
      let s1 := resetGroup g s
      okay s1 (groupStateBytes s1 g)
    else turnAway s .refusedState (groupStateBytes s g)

/-- R147. -/
def doBlock (branch : Byte) (s : State) : Response :=
  match readBranchSet branch with
  | none => turnAway s .refusedRange (causesBytes s)
  | some l =>
    let s1 := cancelLatch .block (l.foldl (fun s b => addCause b .supervisor s) s)
    okay s1 (causesBytes s1)

/-- R148: a group of the branch is FAILED. -/
def branchHasFailed (s : State) (b : Branch) : Bool :=
  (s.vlc.groups.get (b.group .forward)).failure.isSome || (s.vlc.groups.get (b.group .reverse)).failure.isSome

/-- R148: SUPERVISOR and VALVE are removed. -/
def unblockSet (c : CauseSet) : CauseSet := { c with supervisor := false, valve := false }

/-- R148. -/
def doUnblock (branch : Byte) (s : State) : Response :=
  match readBranchSet branch with
  | none => turnAway s .refusedRange (causesBytes s)
  | some l =>
    if l.any (branchHasFailed s) then turnAway s .refusedState (causesBytes s)
    else
      let s1 := cancelLatch .unblock (l.foldl (fun s b => changeCauses b unblockSet s) s)
      okay s1 (causesBytes s1)

/-! ## Plant Lines -/

/-- R159: state and breaker before the ranges; the reply carries the plant report either way. -/
def doArmPreset (ab bc ca : Half) (closures : Byte) (s : State) : Response :=
  if (s.oc.device = .acquire ∨ s.oc.device = .run) ∧ (s.pli.inputs.get .furnaceBreaker).debounced = false then
    match readPreset ab bc ca closures with
    | some v =>
      let s1 := { s with pli := { s.pli with latch := some v } }
      okay s1 (plantReport s1)
    | none => turnAway s .refusedRange (plantReport s)
  else turnAway s .refusedState (plantReport s)

/-- R162. -/
def doCancelPreset (s : State) : Response :=
  let s1 := cancelLatch .cancelPreset s
  okay s1 (plantReport s1)

/-! ## History -/

/-- R177. -/
def doReadHistory (fromSeq : Index) (max : Byte) (s : State) : Response :=
  if inRange 1 16 max.toNat then okay s (historyReply s.hr fromSeq max.toNat) else turnAway s .refusedRange []

/-- R174: the capture state before the ranges. -/
def doSetCapture (triggers post : Half) (s : State) : Response :=
  if s.hr.capture = .free then
    if triggers.extractLsb' 8 8 = 0#8 ∧ post.toNat ≤ 511 then
      let s1 := { s with hr := { s.hr with triggers := triggers.setWidth 8, post := post.toNat } }
      okay s1 (captureReport s1)
    else turnAway s .refusedRange (captureReport s)
  else turnAway s .refusedState (captureReport s)

/-- R175. -/
def doTriggerCapture (s : State) : Response :=
  let s1 := takeTrigger .request s
  okay s1 (captureReport s1)

/-- R176. -/
def doReleaseCapture (s : State) : Response :=
  match s.hr.capture with
  | .free => okay s (captureReport s)
  | .triggered => turnAway s .refusedState (captureReport s)
  | .frozen =>
    let s1 := { s with hr := { s.hr with capture := .free, remaining := 0 } }
    okay s1 (captureReport s1)

/-- A list of fields of a length the table of 10.10 does not give (R187). -/
def badLength (s : State) : Response := turnAway s .badLength []

end Sys2Proof.Machine
end

