-- ==== Sys2Proof/Machine/SupervisoryLink.lean ====
section
/-! DEFINITION. The Supervisory Link Interface: the request kinds and their lengths (10.10), dispatch and the reply (R187,
R188), broadcasts (R186), and the reception of a frame character by character (R183 to R185). -/

namespace Sys2Proof.Machine

/-! ## Request kinds (10.10) -/

/-- The request kinds, in the table's order. -/
inductive RequestKind where
  | identify
  | readState
  | readEvents
  | setAttentionMask
  | setSync
  | setLink
  | selectPrimary
  | resetChannels
  | setBranch
  | setFilters
  | readBranch
  | loadTable
  | readTable
  | setValve
  | mapGroup
  | readValves
  | resetGroup
  | enable
  | disable
  | block
  | unblock
  | armPreset
  | cancelPreset
  | readHistory
  | setCapture
  | triggerCapture
  | releaseCapture
  | readCounters
  | restart
  deriving DecidableEq, Repr

/-- A kind's code (10.10). -/
def kindCode : RequestKind → Byte
  | .identify => 0x01
  | .readState => 0x02
  | .readEvents => 0x03
  | .setAttentionMask => 0x04
  | .setSync => 0x10
  | .setLink => 0x11
  | .selectPrimary => 0x12
  | .resetChannels => 0x13
  | .setBranch => 0x20
  | .setFilters => 0x21
  | .readBranch => 0x22
  | .loadTable => 0x23
  | .readTable => 0x24
  | .setValve => 0x30
  | .mapGroup => 0x31
  | .readValves => 0x32
  | .resetGroup => 0x33
  | .enable => 0x40
  | .disable => 0x41
  | .block => 0x42
  | .unblock => 0x43
  | .armPreset => 0x44
  | .cancelPreset => 0x45
  | .readHistory => 0x50
  | .setCapture => 0x51
  | .triggerCapture => 0x52
  | .releaseCapture => 0x53
  | .readCounters => 0x60
  | .restart => 0x7F

/-- Every kind. -/
def allKinds : List RequestKind :=
  [.identify, .readState, .readEvents, .setAttentionMask, .setSync, .setLink, .selectPrimary, .resetChannels, .setBranch,
   .setFilters, .readBranch, .loadTable, .readTable, .setValve, .mapGroup, .readValves, .resetGroup, .enable, .disable, .block,
   .unblock, .armPreset, .cancelPreset, .readHistory, .setCapture, .triggerCapture, .releaseCapture, .readCounters, .restart]

/-- The kind a code names, if any. -/
def kindOf (code : Byte) : Option RequestKind := allKinds.find? fun k => kindCode k == code

/-- The payload lengths the table of 10.10 gives a kind. -/
def lengthFits (k : RequestKind) (n : Nat) : Bool :=
  match k with
  | .setBranch => decide (15 ≤ n ∧ n ≤ 200)
  | .setAttentionMask => n == 4
  | .setSync => n == 7
  | .setLink => n == 2
  | .selectPrimary | .readBranch | .readValves | .resetGroup | .block | .unblock => n == 1
  | .setFilters => n == 24
  | .loadTable => n == 130
  | .setValve => n == 8
  | .mapGroup | .readCounters => n == 2
  | .armPreset => n == 7
  | .readHistory => n == 5
  | .setCapture => n == 4
  | .identify | .readState | .readEvents | .resetChannels | .readTable | .enable | .disable | .cancelPreset
  | .triggerCapture | .releaseCapture | .restart => n == 0

/-- A request that only reads, after which OC evaluates nothing (R2). -/
def readsOnly : RequestKind → Bool
  | .identify | .readState | .readEvents | .readBranch | .readTable | .readValves | .readHistory | .readCounters => true
  | _ => false

/-- What the owner of a kind does with a payload of the kind's length (R187). -/
def ownerOf (k : RequestKind) (p : List Byte) : State → Response :=
  match k with
  | .identify => doIdentify
  | .readState => doReadState
  | .readEvents => doReadEvents
  | .setAttentionMask => doSetAttentionMask (field32 p 0)
  | .setSync => doSetSync (field8 p 0) (field16 p 1) (field16 p 3) (field8 p 5) (field8 p 6)
  | .setLink => doSetLink (field16 p 0)
  | .selectPrimary => doSelectPrimary (field8 p 0)
  | .resetChannels => doResetChannels
  | .setBranch =>
    doSetBranch (field8 p 0) (field24 p 1) (field16 p 4) (field16 p 6) (field16 p 8) (field8 p 10) (field32 p 11)
  | .setFilters => doSetFilters (halves p)
  | .readBranch => doReadBranch (field8 p 0)
  | .loadTable => doLoadTable (halves p)
  | .readTable => doReadTable
  | .setValve =>
    doSetValve (field8 p 0) (field8 p 1) (field16 p 2) (field8 p 4) (field8 p 5) (field8 p 6) (field8 p 7)
  | .mapGroup => doMapGroup (field8 p 0) (field8 p 1)
  | .readValves =>
    if field8 p 0 = 0 then doReadChannels
    else if field8 p 0 = 1 then doReadGroups
    else fun s => turnAway s .refusedRange []
  | .resetGroup => doResetGroup (field8 p 0)
  | .enable => doEnable
  | .disable => doDisable
  | .block => doBlock (field8 p 0)
  | .unblock => doUnblock (field8 p 0)
  | .armPreset => doArmPreset (field16 p 0) (field16 p 2) (field16 p 4) (field8 p 6)
  | .cancelPreset => doCancelPreset
  | .readHistory => doReadHistory (field32 p 0) (field8 p 4)
  | .setCapture => doSetCapture (field16 p 0) (field16 p 2)
  | .triggerCapture => doTriggerCapture
  | .releaseCapture => doReleaseCapture
  | .readCounters =>
    if field8 p 0 = 0 then doReadCountersLink (field8 p 1)
    else if field8 p 0 = 1 then doReadCountersValve (field8 p 1)
    else if field8 p 0 = 2 then doReadCountersSupervisory (field8 p 1)
    else fun s => turnAway s .refusedRange []
  | .restart => doRestart

/-! ## Dispatch and reply (R187, R188) -/

/-- R187: a frame is accepted: one accepted frame is counted and the receive state becomes ANSWERING. -/
def acceptFrame (s : State) : State :=
  { s with sli := { s.sli with
    receive := .answering
    assembly := []
    counters := { s.sli.counters with accepted := count16 s.sli.counters.accepted } } }

/-- The request's kind with its most significant bit set (R188). -/
def replyKind (code : Byte) : Byte := code ||| 0x80

/-- R188: the reply is built from the state after the execution. -/
def buildReply (code : Byte) (status : Status) (payload : List Byte) (s : State) : State :=
  { s with sli := { s.sli with
    reply := some ⟨s.sli.address.setWidth 8, replyKind code, status, attention s, s.oc.device, payload⟩ } }

/-- R2, R187, R188: an accepted frame whose request has passed the SLI's checks is executed by its owner; in UNSET, after a
request that is accepted and does not only read, the configuration is evaluated; then the reply is built. -/
def serve (k : RequestKind) (body : State → Response) (s : State) : State :=
  let r := body (acceptFrame s)
  let s1 := if r.status = .ok ∧ readsOnly k = false then evaluateConfiguration r.state else r.state
  buildReply (kindCode k) r.status r.payload s1

/-- R187: a frame that fails the SLI's own checks is answered with an empty payload and changes nothing. -/
def answerOnly (code : Byte) (status : Status) (s : State) : State := buildReply code status [] (acceptFrame s)

/-- R187: an error-free frame addressed to this unit. -/
def takeAddressed (code : Byte) (payload : List Byte) (s : State) : State :=
  match kindOf code with
  | none => answerOnly code .unknownKind s
  | some k =>
    if lengthFits k payload.length then serve k (ownerOf k payload) s else answerOnly code .badLength s

/-- R183: the receiver becomes MUTE, with no frame in assembly. -/
def becomeMute (s : State) : State := { s with sli := { s.sli with receive := .mute, assembly := [] } }

/-- R186: an error-free broadcast: DISABLE and TRIGGER_CAPTURE of length 0 are executed, any other is ignored; it is never
answered. -/
def takeBroadcast (code : Byte) (payload : List Byte) (s : State) : State :=
  let executed (body : State → Response) : State :=
    evaluateConfiguration (body (modLineCounters (fun c => { c with broadcastsExecuted := count16 c.broadcastsExecuted })
      (becomeMute s))).state
  if payload = [] ∧ code = kindCode .disable then executed doDisable
  else if payload = [] ∧ code = kindCode .triggerCapture then executed doTriggerCapture
  else modLineCounters (fun c => { c with broadcastsIgnored := count16 c.broadcastsIgnored }) (becomeMute s)

/-! ## Reception (R183 to R185) -/

/-- R184: the frame in assembly is abandoned: one count, HOST_FRAME_ERROR, and MUTE. -/
def abandon (f : LineCounters → LineCounters) (s : State) : State :=
  raise .hostFrameError (modLineCounters f (becomeMute s))

/-- R183: the addresses with which a frame begins for this unit: its own, 1..126, and 127. -/
def takesAddress (s : State) (data : Byte) : Bool :=
  data == 127 || (addressable s && data == s.sli.address.setWidth 8)

/-- R183: a character with the mark set, in MUTE or after an interruption. -/
def beginFrame (data : Byte) (s : State) : State :=
  if takesAddress s data then { s with sli := { s.sli with receive := .listening, assembly := [data] } }
  else becomeMute s

/-- R185: a frame of 5 + L characters is complete: its CRC is checked, and it is handled as a broadcast or as addressed. -/
def completeFrame (frame : List Byte) (s : State) : State :=
  let body := frame.take (frame.length - 2)
  if crcBytes body = frame.drop (frame.length - 2) then
    let code := frame.getD 1 0
    let payload := body.drop 3
    if frame.getD 0 0 = 127 then takeBroadcast code payload s else takeAddressed code payload s
  else abandon (fun c => { c with crcErrors := count16 c.crcErrors }) s

/-- R183, R184: a character with the mark clear in LISTENING. The third character is the length. -/
def appendChar (data : Byte) (s : State) : State :=
  let frame := s.sli.assembly ++ [data]
  if frame.length = 3 ∧ 200 < data.toNat then
    abandon (fun c => { c with lengthAbandonments := count16 c.lengthAbandonments }) s
  else if frame.length = 5 + (frame.getD 2 0).toNat ∧ 5 ≤ frame.length then completeFrame frame s
  else { s with sli := { s.sli with assembly := frame } }

/-- R183, R184, R189: one character on the line. A framing error is judged before the mark (assumption 11). -/
def takeChar (c : LineChar) (s : State) : State :=
  match s.sli.receive with
  | .off => s
  | .answering => modLineCounters (fun k => { k with ignoredAnswering := count16 k.ignoredAnswering }) s
  | .mute =>
    if !c.stopOk then modLineCounters (fun k => { k with framingErrors := count16 k.framingErrors }) s
    else if c.mark then beginFrame c.data s
    else s
  | .listening =>
    if !c.stopOk then abandon (fun k => { k with framingErrors := count16 k.framingErrors }) s
    else if c.mark then beginFrame c.data (abandon (fun k => { k with interrupted := count16 k.interrupted }) s)
    else appendChar c.data s

/-- A run of characters. -/
def takeChars (chars : List LineChar) (s : State) : State := chars.foldl (fun s c => takeChar c s) s

/-- The characters of a frame: the address with its mark set, every other with its mark clear (R182). -/
def frameChars : List Byte → List LineChar
  | [] => []
  | address :: rest => ⟨address, true, true⟩ :: rest.map fun b => ⟨b, false, true⟩

/-- R184: the time between two characters of a frame in assembly exceeds 4 character times. -/
def takeGap (s : State) : State :=
  if s.sli.receive = .listening then abandon (fun c => { c with gapAbandonments := count16 c.gapAbandonments }) s else s

/-- One request as its row names it: an error-free frame of its kind, with `n` payload bytes, sent to this unit alone. In OFF
it is not received; in ANSWERING its 5 + n characters are ignored and counted; in LISTENING its address interrupts the frame
in assembly; and a unit strapped to 0 or 127 cannot be sent one (R181, R183, R184, R188; assumption 12). -/
def takeRequest (k : RequestKind) (n : Nat) (body : State → Response) (s : State) : State :=
  if addressable s then
    match s.sli.receive with
    | .off => s
    | .answering => modLineCounters (fun c => { c with ignoredAnswering := bumpBy 65535 (5 + n) c.ignoredAnswering }) s
    | .mute => serve k body s
    | .listening => serve k body (abandon (fun c => { c with interrupted := count16 c.interrupted }) s)
  else s

/-! ## The line's own events -/

/-- R156, R183: the 8th frame interval after a reset: the initial settling ends, where it has not ended yet, and OFF becomes
MUTE, so that no request is taken during the settling (assumption 28). -/
def receiverOn (s : State) : State :=
  if s.sli.receive = .off then
    let s1 := endSettling s
    { s1 with clock := { s1.clock with sinceReset := Config.stableMark }, sli := { s1.sli with receive := .mute } }
  else s

/-- R182, R188: the characters of a reply on the line: its address with the mark set, every other with the mark clear. -/
def replyChars (r : Reply) : List LineChar := frameChars (replyBytes r)

/-- R188: the unit drives the line and begins to send the reply it has built. -/
def startReply (s : State) : State :=
  match s.sli.receive, s.sli.reply with
  | .answering, some r => { s with sli := { s.sli with driving := true, output := replyChars r } }
  | _, _ => s

/-- R196: the reply is that of an executed RESTART. -/
def answersRestart (r : Reply) : Bool := r.kind == replyKind (kindCode .restart) && r.status == .ok

/-- R188, R196: the last stop bit of the reply is sent: the driver is released and the receiver becomes MUTE; a RESTART reply
begins the reset. -/
def endReply (s : State) : State :=
  match s.sli.receive, s.sli.reply with
  | .answering, some r =>
    if answersRestart r then beginReset .restart s
    else { s with sli := { s.sli with receive := .mute, assembly := [], reply := none, driving := false, output := [] } }
  | _, _ => s

end Sys2Proof.Machine
end

