-- ==== Sys2Proof/Machine/Clock.lean ====
section
/-! DEFINITION. The model's clock (assumption 1): what one tick, 1/32 of a frame interval, does to the device's own timers and
to the three angle counters (R36, R47, R54, R115, R155, R156, R183), and the marks it brings about. -/

namespace Sys2Proof.Machine

/-- A mark that a timer of the device reaches by itself. -/
inductive Due where
  | settling
  | receiver
  | late
  | gap
  | lost
  | timeout
  | silent (c : ValveChannel)
  | line (i : PlantInput)
  | delay (b : Branch)
  | guardEnd (b : Branch)
  | retry (b : Branch)
  | top (b : Branch)
  deriving DecidableEq, Repr

/-- What comes about at a mark: what the table's row of that name does. -/
def runDue : Due → State → State
  | .settling, s => endSettling s
  | .receiver, s => receiverOn s
  | .late, s => markLate s
  | .gap, s => markGap s
  | .lost, s => markLost s
  | .timeout, s => acquisitionTimeout s
  | .silent c, s => enterSilent c s
  | .line i, s => changeLevel i s
  | .delay b, s => reachDelay b s
  | .guardEnd b, s => reachGuardEnd b s
  | .retry b, s => reachRetry b s
  | .top b, s => reachTop b s

/-- A condition's mark, or none. -/
def dueIf (c : Bool) (d : Due) : List Due := if c then [d] else []

/-! ## A frame interval ends -/

/-- The timers that count frame intervals, one interval later: the intervals since the reset, the gap counter (R36), the
elapsed time of acquisition (R47), the silence timers (R115) and the stability timers (R155). -/
def advanceInterval (s : State) : State :=
  { s with
    clock := { s.clock with sinceReset := bump Config.stableMark s.clock.sinceReset }
    slr := { s.slr with gap := if s.slr.gapRunning then bump Config.lostMark s.slr.gap else s.slr.gap }
    ct := { s.ct with progress := { s.ct.progress with
      elapsed := if s.oc.device = .acquire then bump Config.acquireLimit s.ct.progress.elapsed else s.ct.progress.elapsed } }
    vlc := { s.vlc with channels := s.vlc.channels.mapKey fun _ c => { c with silence := bump Config.silenceMark c.silence } }
    pli := { s.pli with inputs := s.pli.inputs.mapKey fun _ i => { i with stability := bump Config.stableMark i.stability } } }

/-- A timer that counts up to a mark has just reached it. -/
def justReached (mark before now : Nat) : Bool := decide (before < mark ∧ mark ≤ now)

/-- The marks an interval's end brings about, from the states before and after the tick: at that end the phase is 0. Where the
settling was ended early by a command, the receiver is due at the next interval's end; no other interval shows that end (assumption 28). -/
def intervalDue (old s : State) : List Due :=
  dueIf (s.clock.phase == 0 && decide (Config.stableMark ≤ s.clock.sinceReset) && s.pli.settling) .settling ++
  dueIf (s.clock.phase == 0 && decide (Config.stableMark ≤ s.clock.sinceReset) && s.sli.receive == .off) .receiver ++
  dueIf (justReached Config.lateMark old.slr.gap s.slr.gap) .late ++
  dueIf (justReached Config.gapMark old.slr.gap s.slr.gap) .gap ++
  dueIf (justReached Config.lostMark old.slr.gap s.slr.gap) .lost ++
  dueIf (justReached Config.acquireLimit old.ct.progress.elapsed s.ct.progress.elapsed) .timeout ++
  (ValveChannel.all.map fun c =>
    dueIf (justReached Config.silenceMark (old.vlc.channels.get c).silence (s.vlc.channels.get c).silence &&
      (s.vlc.channels.get c).link == .active) (.silent c)).flatten ++
  (PlantInput.all.map fun i =>
    dueIf (justReached Config.stableMark (old.pli.inputs.get i).stability (s.pli.inputs.get i).stability &&
      (s.pli.inputs.get i).debounced != s.pins.raw.get i) (.line i)).flatten

/-! ## The angle counters -/

/-- R54: a counter advances by 2048 counts in P sixteenths, that is by 1024 parts of 1/P count in each tick. It never exceeds
`top`: a counter that a command has brought there is taken back to W in the next tick (R61). -/
def advanceCounter (top p : Nat) (a : AngleCounter) : AngleCounter :=
  if top ≤ a.count then a
  else if a.part + 1024 < p then { a with part := a.part + 1024 } else ⟨a.count + 1, a.part + 1024 - p⟩

/-- R54: a branch's counter runs in RUN, at the rate of the period estimate in force. -/
def advanceAngle (b : Branch) (s : State) : State :=
  if counterRuns s b then
    modTrack b (fun t => { t with counter := t.counter.map (advanceCounter (topCount s) (periodOf s b)) }) s
  else s

/-- The marks a counter's advance brings about on one branch. -/
def angleDue (old s : State) (b : Branch) : List Due :=
  let f := s.vlc.firing.get b
  let reached (mark : Nat) : Bool := justReached mark (countOf old b) (countOf s b)
  dueIf (f.armed.any reached) (.delay b) ++
  dueIf (f.transaction.any fun t => t.phase == .waiting && reached t.guardEnd) (.guardEnd b) ++
  dueIf (f.transaction.any fun t => t.phase == .retryGap && reached (t.guardEnd + Config.retryGap)) (.retry b) ++
  dueIf ((s.ct.tracks.get b).counter.any fun a => decide (topCount s ≤ a.count)) (.top b)

/-! ## One tick -/

/-- The time of one tick: the phase of the frame interval, at its end the interval's timers, and the three angle counters. -/
def advanceTime (s : State) : State :=
  let s1 := forBranches advanceAngle s
  if s.clock.phase + 1 < Config.ticksPerInterval then { s1 with clock := { s1.clock with phase := s.clock.phase + 1 } }
  else advanceInterval { s1 with clock := { s1.clock with phase := 0 } }

/-- All marks a tick brings about. -/
def dueAt (old s : State) : List Due :=
  intervalDue old s ++ angleDue old s .ab ++ angleDue old s .bc ++ angleDue old s .ca

/-- One tick of a device that is not held in reset: the marks it brings about are taken one after another, in an order the free
value gives (assumption 2). -/
def tickRunning (s : State) : State :=
  let s1 := advanceTime s
  inAnyOrder runDue (dueAt s s1) s1

/-- One tick: what `step` does on an empty queue. -/
def tick (s : State) : State := running tickRunning s

end Sys2Proof.Machine
end

