-- ==== Sys2Proof/Machine/LineCommands.lean ====
section
/-! DEFINITION. The meanings of what happens on the supervisory line itself: the receiver coming on, frames and characters, the
gap, and the sending of the reply (R183 to R188). Requests named by their kind are in RequestCommands. -/

namespace Sys2Proof.Machine

/-- RECEIVER_ON (R183). -/
def execReceiverOn (s : State) : Host.Outcome State Fault Refusal := .next (running receiverOn s)

/-- REQUEST_FRAME (R183 to R187): the characters of the frame, its address with the mark set, arrive one after another. -/
def execRequestFrame (frame : List Byte) (s : State) : Host.Outcome State Fault Refusal :=
  .next (running (takeChars (frameChars frame)) s)

/-- FRAME_ABANDONED (R184): the characters arrive one after another. -/
def execFrameAbandoned (chars : List LineChar) (s : State) : Host.Outcome State Fault Refusal :=
  .next (running (takeChars chars) s)

/-- GAP_ABANDONMENT (R184): the characters arrive, then nothing for over 4 character times. -/
def execGapAbandonment (chars : List LineChar) (s : State) : Host.Outcome State Fault Refusal :=
  .next (running (fun s => takeGap (takeChars chars s)) s)

/-- CHARACTER_WHILE_ANSWERING (R183): one character on the line; ignored and counted in ANSWERING. -/
def execCharacterWhileAnswering (char : LineChar) (s : State) : Host.Outcome State Fault Refusal :=
  .next (running (takeChar char) s)

/-- REPLY_START (R188). -/
def execReplyStart (s : State) : Host.Outcome State Fault Refusal := .next (running startReply s)

/-- REPLY_SENT (R188, R196). -/
def execReplySent (s : State) : Host.Outcome State Fault Refusal := .next (running endReply s)

/-- FRAMING_ERROR (R184): one character whose stop bit reads 0. -/
def execFramingError (data : Byte) (mark : Bool) (s : State) : Host.Outcome State Fault Refusal :=
  .next (running (takeChar ⟨data, mark, false⟩) s)

end Sys2Proof.Machine
end

