-- ==== Sys2Proof/Machine/LinkCommands.lean ====
section
/-! DEFINITION. The meanings of the sample link's commands: its two kinds of frame (R21 to R35) and the marks of the gap counter
(R36); and of the two marks of the Crossing Tracker (R52, R61). -/

namespace Sys2Proof.Machine

/-- DATA_FRAME (R21 to R31): a frame of the sample link, taken by what its header word says (R198). -/
def execDataFrame (header : LinkWord) (words : PerQuantity (PerLink LinkWord)) (s : State) :
    Host.Outcome State Fault Refusal := .next (running (takeLinkFrame header words) s)

/-- CHECK_FRAME (R21, R32 to R35): a frame of the sample link, taken by what its header word says (R198). -/
def execCheckFrame (header : LinkWord) (words : PerQuantity (PerLink LinkWord)) (s : State) :
    Host.Outcome State Fault Refusal := .next (running (takeLinkFrame header words) s)

/-- LINK_LATE (R36). -/
def execLinkLate (s : State) : Host.Outcome State Fault Refusal := .next (running reachLate s)

/-- MEAS_GAP (R36). -/
def execMeasGap (s : State) : Host.Outcome State Fault Refusal := .next (running reachGapMark s)

/-- LINK_LOST (R36). -/
def execLinkLost (s : State) : Host.Outcome State Fault Refusal := .next (running reachLost s)

/-- ACQUIRE_TIMEOUT (R52). -/
def execAcquireTimeout (s : State) : Host.Outcome State Fault Refusal := .next (running acquisitionTimeout s)

/-- CROSSING_SYNTHESIZED (R61). -/
def execCrossingSynthesized (b : Branch) (s : State) : Host.Outcome State Fault Refusal := .next (running (reachTop b) s)

end Sys2Proof.Machine
end

