-- ==== Sys2Proof/Machine/PlantCommands.lean ====
section
/-! DEFINITION. The meanings of the plant lines' commands: raw levels, level changes and the end of the initial settling (R155 to
R158). -/

namespace Sys2Proof.Machine

/-- RAW_LEVEL_CHANGE (R155): the level at the connector, which moves in a reset too. -/
def execRawLevelChange (i : PlantInput) (level : Bool) (s : State) : Host.Outcome State Fault Refusal :=
  .next (moveRawLevel i level s)

/-- PLANT_LINE_CHANGED (R155, R157, R158). -/
def execPlantLineChanged (i : PlantInput) (s : State) : Host.Outcome State Fault Refusal :=
  .next (running (changeLevel i) s)

/-- INITIAL_SETTLING_END (R156). -/
def execInitialSettlingEnd (s : State) : Host.Outcome State Fault Refusal := .next (running endSettling s)

end Sys2Proof.Machine
end

