-- ==== Sys2Proof/Machine/RequestCommands.lean ====
section
/-! DEFINITION. The meanings of the requests named by their kind: each is an error-free frame of the kind sent to this unit alone
(assumption 12), with the payload length its table gives, executed by the block that owns the kind (R187) and answered (R188). -/

namespace Sys2Proof.Machine

/-- RESTART (R196). -/
def execRestart (s : State) : Host.Outcome State Fault Refusal :=
  .next (running (takeRequest .restart 0 doRestart) s)

/-- IDENTIFY (R193). -/
def execIdentify (s : State) : Host.Outcome State Fault Refusal :=
  .next (running (takeRequest .identify 0 doIdentify) s)

/-- READ_STATE (R17). -/
def execReadState (s : State) : Host.Outcome State Fault Refusal :=
  .next (running (takeRequest .readState 0 doReadState) s)

/-- READ_EVENTS (R192). -/
def execReadEvents (s : State) : Host.Outcome State Fault Refusal :=
  .next (running (takeRequest .readEvents 0 doReadEvents) s)

/-- SET_ATTENTION_MASK (R191). -/
def execSetAttentionMask (mask : BitVec 32) (s : State) : Host.Outcome State Fault Refusal :=
  .next (running (takeRequest .setAttentionMask 4 (doSetAttentionMask mask)) s)

/-- SET_SYNC (R64). -/
def execSetSync (mode : Byte) (hysteresis halfWidth : Half) (latency limit : Byte) (s : State) : Host.Outcome State Fault Refusal :=
  .next (running (takeRequest .setSync 7 (doSetSync mode hysteresis halfWidth latency limit)) s)

/-- SET_LINK (R39). -/
def execSetLink (tolerance : Half) (s : State) : Host.Outcome State Fault Refusal :=
  .next (running (takeRequest .setLink 2 (doSetLink tolerance)) s)

/-- SELECT_PRIMARY (R40). -/
def execSelectPrimary (channel : Byte) (s : State) : Host.Outcome State Fault Refusal :=
  .next (running (takeRequest .selectPrimary 1 (doSelectPrimary channel)) s)

/-- RESET_CHANNELS (R41). -/
def execResetChannels (s : State) : Host.Outcome State Fault Refusal :=
  .next (running (takeRequest .resetChannels 0 doResetChannels) s)

/-- SET_BRANCH (R91): 15 bytes and the rest of the record, which is ignored; a payload above 200 bytes is not of the
table's length (R187). -/
def execSetBranch (branch : Byte) (gain : BitVec 24) (trim fallback step : Half) (hold : Byte) (floor : BitVec 32)
    (rest : List Byte) (s : State) : Host.Outcome State Fault Refusal :=
  .next (running (takeRequest .setBranch (15 + rest.length) (fun s =>
    if 185 < rest.length then badLength s else doSetBranch branch gain trim fallback step hold floor s)) s)

/-- SET_FILTERS (R92): twelve shares; another number of them is not of the table's length (R187). -/
def execSetFilters (shares : List Half) (s : State) : Host.Outcome State Fault Refusal :=
  .next (running (takeRequest .setFilters (2 * shares.length) (fun s =>
    if shares.length = 12 then doSetFilters shares s else badLength s)) s)

/-- READ_BRANCH (R93, R65). -/
def execReadBranch (branch : Byte) (s : State) : Host.Outcome State Fault Refusal :=
  .next (running (takeRequest .readBranch 1 (doReadBranch branch)) s)

/-- LOAD_TABLE (R98 to R100): 65 entries; another number of them is not of the table's length (5.2, R187). -/
def execLoadTable (entries : List Half) (s : State) : Host.Outcome State Fault Refusal :=
  .next (running (takeRequest .loadTable (2 * entries.length) (fun s =>
    if entries.length = 65 then doLoadTable entries s else badLength s)) s)

/-- READ_TABLE (R101). -/
def execReadTable (s : State) : Host.Outcome State Fault Refusal :=
  .next (running (takeRequest .readTable 0 doReadTable) s)

/-- SET_VALVE (R136). -/
def execSetValve (guardTime retries : Byte) (lastRetry : Half) (refusals misfires redundancy trip : Byte) (s : State) : Host.Outcome State Fault Refusal :=
  .next (running (takeRequest .setValve 8 (doSetValve guardTime retries lastRetry refusals misfires redundancy trip)) s)

/-- MAP_GROUP (R142, R143). -/
def execMapGroup (group channel : Byte) (s : State) : Host.Outcome State Fault Refusal :=
  .next (running (takeRequest .mapGroup 2 (doMapGroup group channel)) s)

/-- READ_VALVES, selection 0 (R137). -/
def execReadValvesChannelReport (s : State) : Host.Outcome State Fault Refusal :=
  .next (running (takeRequest .readValves 1 doReadChannels) s)

/-- READ_VALVES, selection 1 (R137). -/
def execReadValvesGroupReport (s : State) : Host.Outcome State Fault Refusal :=
  .next (running (takeRequest .readValves 1 doReadGroups) s)

/-- RESET_GROUP (R149). -/
def execResetGroup (group : Byte) (s : State) : Host.Outcome State Fault Refusal :=
  .next (running (takeRequest .resetGroup 1 (doResetGroup group)) s)

/-- ENABLE (R3). -/
def execEnable (s : State) : Host.Outcome State Fault Refusal :=
  .next (running (takeRequest .enable 0 doEnable) s)

/-- DISABLE (R10, R11). -/
def execDisable (s : State) : Host.Outcome State Fault Refusal :=
  .next (running (takeRequest .disable 0 doDisable) s)

/-- BLOCK (R147). -/
def execBlock (branch : Byte) (s : State) : Host.Outcome State Fault Refusal :=
  .next (running (takeRequest .block 1 (doBlock branch)) s)

/-- UNBLOCK (R148). -/
def execUnblock (branch : Byte) (s : State) : Host.Outcome State Fault Refusal :=
  .next (running (takeRequest .unblock 1 (doUnblock branch)) s)

/-- ARM_PRESET (R159). -/
def execArmPreset (ab bc ca : Half) (closures : Byte) (s : State) : Host.Outcome State Fault Refusal :=
  .next (running (takeRequest .armPreset 7 (doArmPreset ab bc ca closures)) s)

/-- CANCEL_PRESET (R162). -/
def execCancelPreset (s : State) : Host.Outcome State Fault Refusal :=
  .next (running (takeRequest .cancelPreset 0 doCancelPreset) s)

/-- READ_HISTORY (R177). -/
def execReadHistory (fromSeq : Index) (max : Byte) (s : State) : Host.Outcome State Fault Refusal :=
  .next (running (takeRequest .readHistory 5 (doReadHistory fromSeq max)) s)

/-- SET_CAPTURE (R174). -/
def execSetCapture (triggers post : Half) (s : State) : Host.Outcome State Fault Refusal :=
  .next (running (takeRequest .setCapture 4 (doSetCapture triggers post)) s)

/-- TRIGGER_CAPTURE (R175). -/
def execTriggerCapture (s : State) : Host.Outcome State Fault Refusal :=
  .next (running (takeRequest .triggerCapture 0 doTriggerCapture) s)

/-- RELEASE_CAPTURE (R176). -/
def execReleaseCapture (s : State) : Host.Outcome State Fault Refusal :=
  .next (running (takeRequest .releaseCapture 0 doReleaseCapture) s)

/-- READ_COUNTERS, selection 0 (R42). -/
def execReadCountersLink (clear : Byte) (s : State) : Host.Outcome State Fault Refusal :=
  .next (running (takeRequest .readCounters 2 (doReadCountersLink clear)) s)

/-- READ_COUNTERS, selection 1 (R139). -/
def execReadCountersValve (clear : Byte) (s : State) : Host.Outcome State Fault Refusal :=
  .next (running (takeRequest .readCounters 2 (doReadCountersValve clear)) s)

/-- READ_COUNTERS, selection 2 (R189). -/
def execReadCountersSupervisory (clear : Byte) (s : State) : Host.Outcome State Fault Refusal :=
  .next (running (takeRequest .readCounters 2 (doReadCountersSupervisory clear)) s)

end Sys2Proof.Machine
end

