-- ==== Sys2Proof/Machine/ResetCommands.lean ====
section
/-! DEFINITION. The meanings of the reset commands: power-on, supply dip and its recovery, the RESET input and its release
(R194, R195). RESTART is a request; its reset begins when its reply ends (R196). -/

namespace Sys2Proof.Machine

/-- A pin's new level: the supply monitor's verdict. -/
def setSupplyLow (low : Bool) (s : State) : State := { s with pins := { s.pins with supplyLow := low } }

/-- A pin's new level: the RESET input. -/
def setResetLine (asserted : Bool) (s : State) : State := { s with pins := { s.pins with resetAsserted := asserted } }

/-- POWER_ON (R194): a reset of kind POWER_ON, with the supply good. A RESET input that is asserted goes on holding the device. -/
def execPowerOn (s : State) : Host.Outcome State Fault Refusal := .next (beginReset .powerOn (setSupplyLow false s))

/-- SUPPLY_DIP (R194): a reset of kind SUPPLY_DIP begins, and the device is held until the supply recovers. A supply already
below its working level does not fall below it again. -/
def execSupplyDip (s : State) : Host.Outcome State Fault Refusal :=
  .next (if s.pins.supplyLow then s else beginReset .supplyDip (setSupplyLow true s))

/-- RESET_LINE (R194): a reset of kind RESET_LINE begins, and the device is held while the input stays asserted. -/
def execResetLine (s : State) : Host.Outcome State Fault Refusal :=
  .next (if s.pins.resetAsserted then s else beginReset .resetLine (setResetLine true s))

/-- RESET_LINE_RELEASE (R194): the input is released, and each block takes its reset values. -/
def execResetLineRelease (s : State) : Host.Outcome State Fault Refusal :=
  .next (if s.pins.resetAsserted then endReset (setResetLine false s) else s)

/-- SUPPLY_RECOVERY (R194): the supply is back, and each block takes its reset values. -/
def execSupplyRecovery (s : State) : Host.Outcome State Fault Refusal :=
  .next (if s.pins.supplyLow then endReset (setSupplyLow false s) else s)

end Sys2Proof.Machine
end

