-- ==== Sys2Proof/Machine/ValveCommands.lean ====
section
/-! DEFINITION. The meanings of the valve link's commands: the marks of the angle counter (R110, R124, R125), the frames that
arrive on a valve channel (R113, R117, R122, R123, R131, R133) and a channel's silence (R115). -/

namespace Sys2Proof.Machine

/-- DELAY_REACHED (R110, R120, R121). -/
def execDelayReached (b : Branch) (s : State) : Host.Outcome State Fault Refusal := .next (running (reachDelay b) s)

/-- GUARD_EXPIRY (R124). -/
def execGuardExpiry (b : Branch) (s : State) : Host.Outcome State Fault Refusal := .next (running (reachGuardEnd b) s)

/-- RETRY (R125). -/
def execRetry (b : Branch) (s : State) : Host.Outcome State Fault Refusal := .next (running (reachRetry b) s)

/-- VALVE_FRAME_ERROR (R113, R198): the bytes of a frame on a valve channel. -/
def execValveFrameError (c : ValveChannel) (bytes : List Byte) (s : State) : Host.Outcome State Fault Refusal :=
  .next (running (takeValveFrame c bytes) s)

/-- FV (R113, R117). -/
def execFv (c : ValveChannel) (s : State) : Host.Outcome State Fault Refusal := .next (running (takeIndication c .fv) s)

/-- FIRED (R113, R122, R128). -/
def execFired (c : ValveChannel) (tag : BitVec 4) (s : State) : Host.Outcome State Fault Refusal :=
  .next (running (takeIndication c (.fired tag)) s)

/-- REFUSED (R113, R123, R128). -/
def execRefused (c : ValveChannel) (tag : BitVec 4) (cause : RefusalCause) (s : State) : Host.Outcome State Fault Refusal :=
  .next (running (takeIndication c (.refused tag cause)) s)

/-- SELF_FIRED (R113, R133). -/
def execSelfFired (c : ValveChannel) (s : State) : Host.Outcome State Fault Refusal :=
  .next (running (takeIndication c .selfFired) s)

/-- STATUS (R113, R131, R132). -/
def execStatus (c : ValveChannel) (fields : ValveStatus) (s : State) : Host.Outcome State Fault Refusal :=
  .next (running (takeIndication c (.status fields)) s)

/-- CHANNEL_SILENT (R115). -/
def execChannelSilent (c : ValveChannel) (s : State) : Host.Outcome State Fault Refusal := .next (running (enterSilent c) s)

end Sys2Proof.Machine
end

