-- ==== Sys2Proof/Machine/Dispatch.lean ====
section
/-! DEFINITION. The meaning of each command, one arm for each row of spec/opcode_table.json. -/

namespace Sys2Proof.Machine

def exec (i : Instr) (s : State) : Host.Outcome State Fault Refusal :=
  match i with
  | .powerOn => Sys2Proof.Machine.execPowerOn s
  | .supplyDip => Sys2Proof.Machine.execSupplyDip s
  | .resetLine => Sys2Proof.Machine.execResetLine s
  | .restart => Sys2Proof.Machine.execRestart s
  | .receiverOn => Sys2Proof.Machine.execReceiverOn s
  | .requestFrame frame => Sys2Proof.Machine.execRequestFrame frame s
  | .frameAbandoned chars => Sys2Proof.Machine.execFrameAbandoned chars s
  | .gapAbandonment chars => Sys2Proof.Machine.execGapAbandonment chars s
  | .characterWhileAnswering char => Sys2Proof.Machine.execCharacterWhileAnswering char s
  | .replyStart => Sys2Proof.Machine.execReplyStart s
  | .replySent => Sys2Proof.Machine.execReplySent s
  | .identify => Sys2Proof.Machine.execIdentify s
  | .readState => Sys2Proof.Machine.execReadState s
  | .readEvents => Sys2Proof.Machine.execReadEvents s
  | .setAttentionMask mask => Sys2Proof.Machine.execSetAttentionMask mask s
  | .setSync mode hysteresis halfWidth latency limit => Sys2Proof.Machine.execSetSync mode hysteresis halfWidth latency limit s
  | .setLink tolerance => Sys2Proof.Machine.execSetLink tolerance s
  | .selectPrimary channel => Sys2Proof.Machine.execSelectPrimary channel s
  | .resetChannels => Sys2Proof.Machine.execResetChannels s
  | .setBranch branch gain trim fallback step hold floor rest => Sys2Proof.Machine.execSetBranch branch gain trim fallback step hold floor rest s
  | .setFilters shares => Sys2Proof.Machine.execSetFilters shares s
  | .readBranch branch => Sys2Proof.Machine.execReadBranch branch s
  | .loadTable entries => Sys2Proof.Machine.execLoadTable entries s
  | .readTable => Sys2Proof.Machine.execReadTable s
  | .setValve guardTime retries lastRetry refusals misfires redundancy trip => Sys2Proof.Machine.execSetValve guardTime retries lastRetry refusals misfires redundancy trip s
  | .mapGroup group channel => Sys2Proof.Machine.execMapGroup group channel s
  | .readValvesChannelReport => Sys2Proof.Machine.execReadValvesChannelReport s
  | .readValvesGroupReport => Sys2Proof.Machine.execReadValvesGroupReport s
  | .resetGroup group => Sys2Proof.Machine.execResetGroup group s
  | .enable => Sys2Proof.Machine.execEnable s
  | .disable => Sys2Proof.Machine.execDisable s
  | .block branch => Sys2Proof.Machine.execBlock branch s
  | .unblock branch => Sys2Proof.Machine.execUnblock branch s
  | .armPreset ab bc ca closures => Sys2Proof.Machine.execArmPreset ab bc ca closures s
  | .cancelPreset => Sys2Proof.Machine.execCancelPreset s
  | .readHistory fromSeq max => Sys2Proof.Machine.execReadHistory fromSeq max s
  | .setCapture triggers post => Sys2Proof.Machine.execSetCapture triggers post s
  | .triggerCapture => Sys2Proof.Machine.execTriggerCapture s
  | .releaseCapture => Sys2Proof.Machine.execReleaseCapture s
  | .readCountersLink clear => Sys2Proof.Machine.execReadCountersLink clear s
  | .readCountersValve clear => Sys2Proof.Machine.execReadCountersValve clear s
  | .readCountersSupervisory clear => Sys2Proof.Machine.execReadCountersSupervisory clear s
  | .dataFrame header words => Sys2Proof.Machine.execDataFrame header words s
  | .checkFrame header words => Sys2Proof.Machine.execCheckFrame header words s
  | .linkLate => Sys2Proof.Machine.execLinkLate s
  | .measGap => Sys2Proof.Machine.execMeasGap s
  | .linkLost => Sys2Proof.Machine.execLinkLost s
  | .acquireTimeout => Sys2Proof.Machine.execAcquireTimeout s
  | .crossingSynthesized branch => Sys2Proof.Machine.execCrossingSynthesized branch s
  | .delayReached branch => Sys2Proof.Machine.execDelayReached branch s
  | .guardExpiry branch => Sys2Proof.Machine.execGuardExpiry branch s
  | .retry branch => Sys2Proof.Machine.execRetry branch s
  | .valveFrameError channel bytes => Sys2Proof.Machine.execValveFrameError channel bytes s
  | .fv channel => Sys2Proof.Machine.execFv channel s
  | .fired channel tag => Sys2Proof.Machine.execFired channel tag s
  | .refused channel tag cause => Sys2Proof.Machine.execRefused channel tag cause s
  | .selfFired channel => Sys2Proof.Machine.execSelfFired channel s
  | .status channel fields => Sys2Proof.Machine.execStatus channel fields s
  | .channelSilent channel => Sys2Proof.Machine.execChannelSilent channel s
  | .rawLevelChange input level => Sys2Proof.Machine.execRawLevelChange input level s
  | .plantLineChanged input => Sys2Proof.Machine.execPlantLineChanged input s
  | .initialSettlingEnd => Sys2Proof.Machine.execInitialSettlingEnd s
  | .framingError data mark => Sys2Proof.Machine.execFramingError data mark s
  | .resetLineRelease => Sys2Proof.Machine.execResetLineRelease s
  | .supplyRecovery => Sys2Proof.Machine.execSupplyRecovery s

end Sys2Proof.Machine
end

