-- ==== Sys2Proof/Machine/RequestFrames.lean ====
section
/-! DEFINITION. The frame each request row stands for: its kind and its payload, field by field (10.10, 10.11, R197). -/

namespace Sys2Proof.Machine

/-- A run of 16-bit fields, each high byte first. -/
def halfBytes (l : List Half) : List Byte := (l.map fun x => bigEndian 2 x.toNat).flatten

/-- The kind and the payload of the frame a request row stands for; none for a row that is no request. -/
def requestOf (i : Instr) : Option (RequestKind × List Byte) :=
  match i with
  | .restart => some (.restart, [])
  | .identify => some (.identify, [])
  | .readState => some (.readState, [])
  | .readEvents => some (.readEvents, [])
  | .setAttentionMask mask => some (.setAttentionMask, bigEndian 4 mask.toNat)
  | .setSync mode h w latency limit =>
    some (.setSync, [mode] ++ bigEndian 2 h.toNat ++ bigEndian 2 w.toNat ++ [latency, limit])
  | .setLink tolerance => some (.setLink, bigEndian 2 tolerance.toNat)
  | .selectPrimary channel => some (.selectPrimary, [channel])
  | .resetChannels => some (.resetChannels, [])
  | .setBranch branch gain trim fallback step hold floor rest =>
    some (.setBranch, [branch] ++ bigEndian 3 gain.toNat ++ halfBytes [trim, fallback, step] ++ [hold] ++
      bigEndian 4 floor.toNat ++ rest)
  | .setFilters shares => some (.setFilters, halfBytes shares)
  | .readBranch branch => some (.readBranch, [branch])
  | .loadTable entries => some (.loadTable, halfBytes entries)
  | .readTable => some (.readTable, [])
  | .setValve guardTime retries lastRetry refusals misfires redundancy trip =>
    some (.setValve, [guardTime, retries] ++ bigEndian 2 lastRetry.toNat ++ [refusals, misfires, redundancy, trip])
  | .mapGroup group channel => some (.mapGroup, [group, channel])
  | .readValvesChannelReport => some (.readValves, [0])
  | .readValvesGroupReport => some (.readValves, [1])
  | .resetGroup group => some (.resetGroup, [group])
  | .enable => some (.enable, [])
  | .disable => some (.disable, [])
  | .block branch => some (.block, [branch])
  | .unblock branch => some (.unblock, [branch])
  | .armPreset ab bc ca closures => some (.armPreset, halfBytes [ab, bc, ca] ++ [closures])
  | .cancelPreset => some (.cancelPreset, [])
  | .readHistory fromSeq max => some (.readHistory, bigEndian 4 fromSeq.toNat ++ [max])
  | .setCapture triggers post => some (.setCapture, halfBytes [triggers, post])
  | .triggerCapture => some (.triggerCapture, [])
  | .releaseCapture => some (.releaseCapture, [])
  | .readCountersLink clear => some (.readCounters, [0, clear])
  | .readCountersValve clear => some (.readCounters, [1, clear])
  | .readCountersSupervisory clear => some (.readCounters, [2, clear])
  | .powerOn | .supplyDip | .resetLine | .receiverOn | .requestFrame _ | .frameAbandoned _ | .gapAbandonment _
  | .characterWhileAnswering _ | .replyStart | .replySent | .dataFrame _ _ | .checkFrame _ _ | .linkLate | .measGap
  | .linkLost | .acquireTimeout | .crossingSynthesized _ | .delayReached _ | .guardExpiry _ | .retry _
  | .valveFrameError _ _ | .fv _ | .fired _ _ | .refused _ _ _ | .selfFired _ | .status _ _ | .channelSilent _
  | .rawLevelChange _ _ | .plantLineChanged _ | .initialSettlingEnd | .framingError _ _ | .resetLineRelease
  | .supplyRecovery => none

end Sys2Proof.Machine
end

