-- ==== Sys2Proof/WellFormed.lean ====
section
/-! DEFINITION. What a command must satisfy to be the thing its row names: the lengths the table of 10.10 gives, the shape of a
whole, an abandoned and a broken-off frame, and the header or check of a frame that a row speaks of. `exec` answers on every term,
well-formed or not. -/

namespace Sys2Proof

open Machine

/-- R182: the bytes of a whole frame: 5 + L of them, with L, the third, at most 200. -/
def wholeFrame (frame : List Byte) : Bool :=
  match frame with
  | _ :: _ :: len :: rest => decide (len.toNat ≤ 200) && rest.length == len.toNat + 2
  | _ => false

/-- R184: a character that ends a frame in assembly, where `n` characters stand before it: a framing error, a mark, or a length
above 200. -/
def endsFrame (n : Nat) (c : LineChar) : Bool := !c.stopOk || c.mark || (n == 2 && decide (200 < c.data.toNat))

/-- A frame is still in assembly after characters whose data are these (R183). -/
def stillOpen (data : List Byte) : Bool :=
  decide (data.length < 3) || decide (data.length < 5 + (data.getD 2 0).toNat)

/-- The characters after an address, none of which ends the frame in assembly (R183, R184). -/
def openChars (taken : List Byte) : List LineChar → Bool
  | [] => true
  | c :: rest => !endsFrame taken.length c && stillOpen (taken ++ [c.data]) && openChars (taken ++ [c.data]) rest

/-- R184: the characters of a frame from its address on, of which the last, and no earlier one, ends it. -/
def abandonedFrame (chars : List LineChar) : Bool :=
  match chars with
  | address :: rest =>
    address.mark && address.stopOk && openChars [address.data] rest.dropLast &&
      rest.getLast?.any (endsFrame rest.length)
  | [] => false

/-- R184: the characters of a frame, from its address on, that a gap breaks off; none where the frame is in assembly already. -/
def brokenFrame (chars : List LineChar) : Bool :=
  match chars with
  | address :: rest => address.mark && address.stopOk && openChars [address.data] rest
  | [] => true

/-- The header word is no check header (R21, R198). -/
def isDataHeader (w : LinkWord) : Bool :=
  match readHeader w with
  | .check _ => false
  | .data _ | .error => true

/-- The header word is no data header (R21, R198). -/
def isCheckHeader (w : LinkWord) : Bool :=
  match readHeader w with
  | .data _ => false
  | .check _ | .error => true

/-- A command is what its row names. -/
def wellFormed (i : Instr) : Bool :=
  match i with
  | .requestFrame frame => wholeFrame frame
  | .frameAbandoned chars => abandonedFrame chars
  | .gapAbandonment chars => brokenFrame chars
  | .setBranch _ _ _ _ _ _ _ rest => decide (rest.length ≤ 185)
  | .setFilters shares => shares.length == 12
  | .loadTable entries => entries.length == 65
  | .dataFrame header _ => isDataHeader header
  | .checkFrame header _ => isCheckHeader header
  | .valveFrameError _ bytes => (readIndication bytes).isNone
  | .powerOn | .supplyDip | .resetLine | .restart | .receiverOn | .characterWhileAnswering _ | .replyStart | .replySent
  | .identify | .readState | .readEvents | .setAttentionMask _ | .setSync _ _ _ _ _ | .setLink _ | .selectPrimary _
  | .resetChannels | .readBranch _ | .readTable | .setValve _ _ _ _ _ _ _ | .mapGroup _ _ | .readValvesChannelReport
  | .readValvesGroupReport | .resetGroup _ | .enable | .disable | .block _ | .unblock _ | .armPreset _ _ _ _ | .cancelPreset
  | .readHistory _ _ | .setCapture _ _ | .triggerCapture | .releaseCapture | .readCountersLink _ | .readCountersValve _
  | .readCountersSupervisory _ | .linkLate | .measGap | .linkLost | .acquireTimeout | .crossingSynthesized _
  | .delayReached _ | .guardExpiry _ | .retry _ | .fv _ | .fired _ _ | .refused _ _ _ | .selfFired _ | .status _ _
  | .channelSilent _ | .rawLevelChange _ _ | .plantLineChanged _ | .initialSettlingEnd | .framingError _ _
  | .resetLineRelease | .supplyRecovery => true

end Sys2Proof
end

