-- ==== Sys2Proof/Safety.lean ====
section
/-! DEFINITION. What counts as a safe run, in the terms the claims use: the invariants of the device (each a predicate that every
step keeps, from every state), the conditions in which a request is taken and the state its reply leaves, and the moves of the
device state. -/

namespace Sys2Proof.Safety

open Machine

/-! ## Requests -/

/-- A request sent to this unit alone is taken at once: the device is not held in reset, its address is 1..126 and its receiver is
MUTE (R181, R183). -/
def Receptive (s : State) : Prop := inReset s = false ∧ addressable s = true ∧ s.sli.receive = .mute

/-- What a request row that is taken leaves in the interface (a row stands for the arrival of its whole frame, assumption 12): ANSWERING, nothing in assembly, one accepted frame
counted, and the reply with the attention flag and the device state of the state given (R187, R188). -/
def answered (k : RequestKind) (status : Status) (payload : List Byte) (s : State) : State :=
  { s with sli := { s.sli with
    receive := .answering
    assembly := []
    counters := { s.sli.counters with accepted := count16 s.sli.counters.accepted }
    reply := some ⟨s.sli.address.setWidth 8, replyKind (kindCode k), status, attention s, s.oc.device, payload⟩ } }

/-- The reply that stands built says this (R188). -/
def Replies (s : State) (k : RequestKind) (status : Status) (payload : List Byte) : Prop :=
  ∃ r, s.sli.reply = some r ∧ r.kind = replyKind (kindCode k) ∧ r.status = status ∧ r.payload = payload ∧
    r.device = s.oc.device ∧ r.attention = attention s

/-! ## Frames of the sample link -/

/-- A data frame arrives with the number the receiver expects (R22). -/
def Expected (s : State) (header : LinkWord) : Prop :=
  inReset s = false ∧ (s.slr.link = .flowing ∨ s.slr.link = .late) ∧
    ∃ e, s.slr.expected = some e ∧ readHeader header = .data e

/-- The used value of a branch's voltage in a received frame (R28). -/
def voltageIn (s : State) (words : PerQuantity (PerLink LinkWord)) (b : Branch) : Half :=
  usedValue s.slr b.voltage (words.get b.voltage)

/-- R44: the crossing candidate of a branch's voltage that stands when a frame brings the used value `x`. -/
def candidateAfter (s : State) (b : Branch) (x : Int) : Option Candidate :=
  let t := s.ct.tracks.get b
  let found (p : Int) (d : CrossingDirection) : Option Candidate :=
    some ⟨d, ⟨s.slr.frameIndex, min 15 (16 * p.natAbs / (p.natAbs + x.natAbs))⟩⟩
  match t.previous with
  | none => t.candidate
  | some p =>
    if p.toInt < 0 ∧ 0 ≤ x then found p.toInt .rising
    else if 0 < p.toInt ∧ x ≤ 0 then found p.toInt .falling
    else t.candidate

/-- R45: the value has reached the hysteresis threshold on the candidate's new side. -/
def Reaches (s : State) (c : Candidate) (x : Int) : Prop :=
  (c.direction = .rising ∧ (s.ct.settings.hysteresis : Int) ≤ x) ∨
    (c.direction = .falling ∧ x ≤ -(s.ct.settings.hysteresis : Int))

/-- A frame confirms a crossing of a branch's voltage (R45). -/
def Confirms (s : State) (words : PerQuantity (PerLink LinkWord)) (b : Branch) (c : Candidate) : Prop :=
  candidateAfter s b (voltageIn s words b).toInt = some c ∧ Reaches s c (voltageIn s words b).toInt

/-- A frame confirms no crossing of a branch's voltage. -/
def Quiet (s : State) (words : PerQuantity (PerLink LinkWord)) (b : Branch) : Prop :=
  ∀ c, candidateAfter s b (voltageIn s words b).toInt = some c → ¬ Reaches s c (voltageIn s words b).toInt

/-! ## Closures -/

/-- R67, R69, R74: a branch's window with the frame that brings `words` added to it, in RUN at a nominal frequency: the square of
the voltage, the product of the delayed voltage and the current, one frame, its held words, and whether the delay line still fills. -/
def fedWindow (s : State) (words : PerQuantity (PerLink LinkWord)) (n : Nominal) (b : Branch) (x : Window) : Window :=
  let full := decide ((if n = .hz50 then 48 else 40) ≤ s.bdu.lines.length)
  let u (q : Quantity) : Int := (usedValue s.slr q (words.get q)).toInt
  let delayed : Int := if full = true then (s.bdu.lines.head?.map fun e => (e.voltages.get b).toInt).getD 0 else 0
  let held := ([b.voltage, b.currentFrom, b.currentTo].filter fun q => isHeld s.slr (words.get q)).length
  { x with
    energy := x.energy + (u b.voltage * u b.voltage).toNat
    product := x.product + delayed * (u b.currentFrom - u b.currentTo)
    frames := bump 255 x.frames
    held := min 255 (x.held + held)
    filling := x.filling || !full }

/-- What a closure confirmed in a frame judges: the receiver's items `l` after the frame, and the branch's window with the frame
added, which the window takes before it ends (R69). -/
def judgedIn (s : State) (words : PerQuantity (PerLink LinkWord)) (n : Nominal) (b : Branch) (l : SampleLink) : State :=
  let d := s.bdu.branches.get b
  { s with
    slr := l
    bdu := { s.bdu with branches := s.bdu.branches.set b { d with window := d.window.map (fedWindow s words n b) } } }

/-- A branch's demand items after a closure judged in `s` (R72): the decided move, and the next window, open and empty. -/
def decidedDemand (s : State) (b : Branch) (kind : ClosureKind) : BranchDemand :=
  { closedDemand s b kind with window := some ⟨0, 0, 0, 0, none, false, false⟩ }

/-- The record of a closure judged in `s` (R167): the ended window and what it was judged, the move and the decision. The outcome
of the ended half-cycle and its attempts are given (R112). -/
def decidedRecord (s : State) (b : Branch) (kind : ClosureKind) (ended : Polarity) (outcome : Outcome) (attempts : Option Nat) :
    ClosureRecord :=
  let w := endingWindow s b
  let m := closureMove s b kind
  { seq := s.hr.nextSeq
    branch := b
    frameIndex := s.slr.frameIndex
    ended := ended
    kind := kind
    frames := w.frames
    held := w.held
    code := judge s b kind w
    meanSquare := if w.frames = 0 then none else some (w.energy / w.frames)
    demand := closureDemand s b kind
    outcome := outcome
    attempts := attempts
    state := m.state
    susceptance := m.susceptance
    delay := if m.state = .blocked then 2048 else convert s.table m.susceptance
    breakerClosed := (s.pli.inputs.get .furnaceBreaker).debounced
    presetActive := decide ((s.bdu.branches.get b).state = .preset) }

/-! ## Frames: what a command leaves -/

/-- Two states agree in everything but the supervisory interface and the history's capture; the sets below name smaller frames. -/
def SameButSli (s t : State) : Prop := t = { s with sli := t.sli }

/-- Nothing but the valve controller's and the interface's items and the capture differ. -/
def SameButValve (s t : State) : Prop := t = { s with vlc := t.vlc, sli := t.sli, hr := t.hr }

/-- Events of other kinds keep their flag and count. -/
def OtherEventsKept (kinds : List EventKind) (s t : State) : Prop :=
  ∀ k, k ∉ kinds → t.sli.events.get k = s.sli.events.get k

/-! ## Invariants -/

/-- R15 and R16: TRIP_REQUEST is asserted only in HALTED, and FALLBACK_ACTIVE stands at the level R16 gives. -/
def LinesAgree (s : State) : Prop :=
  (s.oc.tripRequest = true → s.oc.device = .halted) ∧ s.oc.fallbackActive = fallbackLevel s

/-- R190: no event count exceeds 255. -/
def EventCountsBounded (s : State) : Prop := ∀ k, (s.sli.events.get k).count ≤ 255

/-- R141: no valve channel is mapped to two groups. -/
def MapInjective (s : State) : Prop := ∀ g h, s.vlc.map.get g = s.vlc.map.get h → g = h

/-- R146: a branch with a FAILED group holds VALVE. -/
def FailedGroupBlocks (s : State) : Prop :=
  ∀ g, (s.vlc.groups.get g).failure ≠ none → (s.causes.get g.branch).valve = true

/-- The number that follows the newest record: the next sequence number, and 2^32 where it has come round to 0 with records still
in the ring (R170). -/
def endSeq (h : History) : Nat := if h.nextSeq = 0 ∧ h.ring ≠ [] then 4294967296 else h.nextSeq.toNat

/-- R169: at most 512 records, whose numbers run without a break up to the next sequence number. -/
def RingOrdered (s : State) : Prop :=
  s.hr.ring.length ≤ 512 ∧
    ∀ i r, s.hr.ring[i]? = some r → r.seq.toNat + (s.hr.ring.length - i) = endSeq s.hr

/-- R97: the table is absent or complete. -/
def TableComplete (s : State) : Prop := ∀ t, s.table = some t → t.length = 65 ∧ firstFault t = none

/-- R2: the device is outside UNSET exactly while it is configured, and its table, where it has one, is complete. -/
def ConfiguredOutsideUnset (s : State) : Prop := TableComplete s ∧ (s.oc.device ≠ .unset ↔ configured s = true)

/-- Nothing of the control loop runs on a branch (R8, R10, R13, R71). -/
def BranchIdle (s : State) (b : Branch) : Prop :=
  (s.ct.tracks.get b).counter = none ∧ (s.bdu.branches.get b).window = none ∧ (s.bdu.branches.get b).state = .idle ∧
    (s.bdu.branches.get b).decision = none ∧ (s.bdu.branches.get b).preset = none ∧ s.vlc.firing.get b = .clear

/-- R13, R14: outside RUN the control loop is not running. -/
def IdleOutsideRun (s : State) : Prop := s.oc.device ≠ .run → ∀ b, BranchIdle s b

/-- R93: a branch that has had a closure in this RUN, which its window without the first-window mark shows (R69), holds a
decision. Outside RUN no window is open (R71). -/
def DecidedAfterClosure (s : State) : Prop :=
  IdleOutsideRun s ∧ ∀ b w, (s.bdu.branches.get b).window = some w → w.first = false → (s.bdu.branches.get b).decision ≠ none

/-- R159, R161: the latch is armed only in ACQUIRE and RUN. -/
def LatchOnlyWhileStarted (s : State) : Prop :=
  s.pli.latch ≠ none → s.oc.device = .acquire ∨ s.oc.device = .run

/-- R58: in RUN the nominal frequency is fixed and each period estimate lies within its half-period ± 128. -/
def PeriodsInBand (s : State) : Prop :=
  s.oc.device = .run → ∃ n, s.ct.nominal = some n ∧
    ∀ b, ∃ p, (s.ct.tracks.get b).period = some p ∧ halfPeriod n - 128 ≤ p ∧ p ≤ halfPeriod n + 128

/-- R54: a counter runs only in RUN and never exceeds 2048 + W; an armed delay lies below 2048 (5.4); no table entry lies
above 2048 (R97). -/
def CountersBounded (s : State) : Prop :=
  (∀ b a, (s.ct.tracks.get b).counter = some a → s.oc.device = .run ∧ a.count ≤ topCount s) ∧
    (∀ b d, (s.vlc.firing.get b).armed = some d → d ≤ 2047) ∧ TableComplete s

/-- R64: the tracking settings lie in their ranges. -/
def TrackingInRange (s : State) : Prop :=
  s.ct.settings.hysteresis ≤ 16383 ∧ (64 ≤ s.ct.settings.halfWidth ∧ s.ct.settings.halfWidth ≤ 512) ∧
    s.ct.settings.latency ≤ 255 ∧ 2 ≤ s.ct.settings.limit ∧ s.ct.settings.limit ≤ 16

/-- Every susceptance a branch may present lies in 0..4095 (R66, R154). -/
def SusceptanceInRange (s : State) : Prop :=
  (∀ b, (s.bdu.branches.get b).settings.fallback ≤ 4095 ∧
      (∀ x, (s.bdu.branches.get b).previous = some x → x ≤ 4095) ∧
      (∀ p, (s.bdu.branches.get b).preset = some p → p.value ≤ 4095) ∧
      (∀ d, (s.bdu.branches.get b).decision = some d → d.susceptance ≤ 4095)) ∧
    ∀ v, s.pli.latch = some v → ∀ b, v.values.get b ≤ 4095

/-- R88, R106: every decision held is a susceptance in 0..4095 with a delay in 1024..2048. -/
def DecisionsInRange (s : State) : Prop :=
  SusceptanceInRange s ∧ TableComplete s ∧
    ∀ b d, (s.bdu.branches.get b).decision = some d → 1024 ≤ d.delay ∧ d.delay ≤ 2048

/-- R33: a chain's status follows from its count of consecutive failed blocks, which stops at 4. -/
def ChainsAgree (s : State) : Prop :=
  ∀ c, (s.slr.chains.get c).status = statusOf (s.slr.chains.get c).failedRun ∧ (s.slr.chains.get c).failedRun ≤ 4

/-- R86, R119, R150: in RUN a branch is BLOCKED exactly while its set is not empty; a BLOCKED branch has no delay armed and no
transaction open, and the decision it holds, if any, is b = 0 and α = 2048. -/
def BlockedIsQuiet (s : State) : Prop :=
  s.oc.device = .run → ∀ b,
    ((s.bdu.branches.get b).state = .blocked ↔ noCauses (s.causes.get b) = false) ∧
    ((s.bdu.branches.get b).state = .blocked → (s.vlc.firing.get b).armed = none ∧ (s.vlc.firing.get b).transaction = none ∧
      ∀ d, (s.bdu.branches.get b).decision = some d → d = ⟨0, 2048⟩)

/-- R119, R120, R121: a branch's transaction orders one of its own two groups, the one due when it opened. -/
def TransactionsAtHome (s : State) : Prop :=
  ∀ b x, (s.vlc.firing.get b).transaction = some x → x.group.branch = b

/-! ## Moves of the device state (1.1) -/

/-- The table of chapter 1.1: from a state, by the events of one command. -/
def DeviceMoves : DeviceState → DeviceState → Prop
  | _, .unset => True
  | .unset, .ready => True
  | .ready, .acquire => True
  | .acquire, .run => True
  | .acquire, .halted => True
  | .run, .halted => True
  | .acquire, .ready => True
  | .run, .ready => True
  | .halted, .ready => True
  | s, t => s = t

/-- A command that may bring a request of a kind: its row; the characters of a frame whose second is the kind's code; or the last
character of such a frame in assembly. -/
def Asks (s : State) (c : Instr) (k : RequestKind) : Prop :=
  match c with
  | .requestFrame frame => frame[1]? = some (kindCode k)
  | .characterWhileAnswering _ => s.sli.receive = .listening ∧ s.sli.assembly[1]? = some (kindCode k)
  | c => (requestOf c).map (·.1) = some k

/-- A reset's rows: what may bring the device to UNSET. -/
def resetRows : List Instr := [.powerOn, .supplyDip, .resetLine, .resetLineRelease, .supplyRecovery, .replySent]

/-- The frame of the sample link, in which crossings are confirmed. -/
def bringsFrame : Instr → Bool
  | .dataFrame _ _ => true
  | _ => false

/-- What may fail a valve group: its indications, its channel's silence, the marks of its branch's counter, and a frame whose
closure settles a misfire. -/
def mayFailGroup : Instr → Bool
  | .dataFrame _ _ | .crossingSynthesized _ | .guardExpiry _ | .retry _ | .refused _ _ _ | .status _ _ | .channelSilent _ => true
  | _ => false

/-- The Cause column of 1.1: what brought the device from its state to a new one, and the halt cause it leaves. -/
def MoveCause (s : State) (c : Instr) (t : State) : Prop :=
  match s.oc.device, t.oc.device with
  | _, .unset => c ∈ resetRows
  | .unset, .ready => Asks s c .loadTable ∨ Asks s c .setBranch
  | _, .ready => Asks s c .disable
  | _, .acquire => Asks s c .enable
  | _, .run => bringsFrame c = true
  | .acquire, .halted =>
    (c = .acquireTimeout ∧ t.oc.halt.cause = .acquireTimeout) ∨
      (bringsFrame c = true ∧ (t.oc.halt.cause = .acquireFailed ∨ t.oc.halt.cause = .phaseOrder))
  | _, .halted =>
    (t.oc.halt.cause = .syncLost ∧ ((∃ b, c = .crossingSynthesized b) ∨ bringsFrame c = true)) ∨
      (t.oc.halt.cause = .valveFailed ∧ s.vlc.settings.tripOnBlock = true ∧ (mayFailGroup c = true ∨ Asks s c .resetGroup))

end Sys2Proof.Safety
end

