-- ==== Sys2Proof/Certificates/Slice0/Obligations.lean ====
section
/-! DEFINITION. The statements: what the commands of each family do, from the rules of spec/, the invariants every step keeps, and
the rules of the whole device. A request row stands for its whole frame (log entry 12): `answered` and `Replies` say what the reply then
built leaves in the interface. -/

open Sys2Proof Sys2Proof.Machine Sys2Proof.Safety

/-! ## The step -/

/-- With a command at the front of the queue, a step is that command's meaning on the state with the queue's rest. The queue is the
model's own (log entry 15). -/
def Obligations.StepRunsFrontCommand : Prop :=
  ∀ (s : State) (c : Instr) (rest : List Instr), s.pending = c :: rest → step s = exec c { s with pending := rest }

/-- Every command completes, from every state (no rule lets one stop the device), and none touches the queue, a reset included: that
the queue stands is the model's choice (log entry 15). -/
def Obligations.EveryCommandCompletes : Prop :=
  ∀ (c : Instr) (s : State), ∃ t, exec c s = .next t ∧ t.pending = s.pending

/-! ## Resets -/

/-- R195: a power-on sets the reset cause record to POWER_ON with count 0; any other reset sets the cause to its kind and the count
grows by one, stopping at 65,535; IDENTIFY reports the record. That a dip and the RESET line change the record as the reset begins is
the model's reading (log entry 13). -/
def Obligations.ResetCauseRecord : Prop :=
  (∀ s : State, ∃ t, exec .powerOn s = .next t ∧ t.sli.resetCause = .powerOn ∧ t.sli.resetCount = 0) ∧
  (∀ s : State, s.pins.supplyLow = false → s.sli.resetCount ≤ 65535 → ∃ t, exec .supplyDip s = .next t ∧
    t.sli.resetCause = .supplyDip ∧ t.sli.resetCount = min 65535 (s.sli.resetCount + 1)) ∧
  (∀ s : State, s.pins.resetAsserted = false → s.sli.resetCount ≤ 65535 → ∃ t, exec .resetLine s = .next t ∧
    t.sli.resetCause = .resetLine ∧ t.sli.resetCount = min 65535 (s.sli.resetCount + 1)) ∧
  (∀ (s : State) (r : Reply), inReset s = false → s.sli.receive = .answering → s.sli.reply = some r →
    r.kind = 0xFF → r.status = .ok → s.sli.resetCount ≤ 65535 → ∃ t, exec .replySent s = .next t ∧
    t.sli.resetCause = .restart ∧ t.sli.resetCount = min 65535 (s.sli.resetCount + 1)) ∧
  (∀ s : State, Receptive s → ∃ t p, exec .identify s = .next t ∧ Replies t .identify .ok p ∧
    p.drop 7 = BitVec.ofNat 8 (codeReset s.sli.resetCause) :: bigEndian 2 s.sli.resetCount)

/-- What a reset of each kind leaves (R194 and the reset columns of the chapters): the reset values of every block with the straps read
again. A power-on and a supply dip empty the history, the RESET line and a RESTART keep it; pins and queue stand. R194 speaks of the end
of a reset: that a dip and the RESET line leave these values from its beginning on is the model's reading (log entry 13), and the clock
among them is the model's own (log entry 1). -/
def Obligations.ResetsLeaveResetValues : Prop :=
  ∀ s : State,
    let cleared (pins : Pins) (hr : History) (cause : ResetKind) (count : Nat) : State :=
      { State.reset with
        pins := pins, clock := ⟨0, 0, s.clock.picks⟩, hr := hr, pending := s.pending
        sli := Supervisory.reset s.pins.addressStraps s.pins.rateStraps cause count }
    exec .powerOn s = .next (cleared { s.pins with supplyLow := false } .reset .powerOn 0) ∧
    (s.pins.supplyLow = false → exec .supplyDip s =
      .next (cleared { s.pins with supplyLow := true } .reset .supplyDip (count16 s.sli.resetCount))) ∧
    (s.pins.resetAsserted = false → exec .resetLine s =
      .next (cleared { s.pins with resetAsserted := true } s.hr .resetLine (count16 s.sli.resetCount))) ∧
    (∀ r, inReset s = false → s.sli.receive = .answering → s.sli.reply = some r → r.kind = 0xFF → r.status = .ok →
      exec .replySent s = .next (cleared s.pins s.hr .restart (count16 s.sli.resetCount)))

/-- The end of a reset that held the device (R194, R195): the release of the RESET line and the recovery of the supply complete, and leave
each block at its reset values with the straps read again, the history and the reset cause record as the reset left them; with
nothing to end, nothing changes. That the values are taken at the beginning and again at the end is the model's reading (log entry 13);
the clock is its own (log entry 1). -/
def Obligations.ReleaseLeavesResetValues : Prop :=
  ∀ s : State,
    let cleared (pins : Pins) : State :=
      { State.reset with
        pins := pins, clock := ⟨0, 0, s.clock.picks⟩, hr := s.hr, pending := s.pending
        sli := Supervisory.reset s.pins.addressStraps s.pins.rateStraps s.sli.resetCause s.sli.resetCount }
    exec .resetLineRelease s =
      .next (if s.pins.resetAsserted = true then cleared { s.pins with resetAsserted := false } else s) ∧
    exec .supplyRecovery s = .next (if s.pins.supplyLow = true then cleared { s.pins with supplyLow := false } else s)

/-- A device held in reset takes no command but a reset or a pin (R194, R183; log entry 14). On an empty queue a step is the model's tick
(log entry 1): it answers next, a device held in reset stands still, and the queue stays empty. What a tick does. At every 32nd the
interval ends: the gap counter while it runs (R36), the elapsed time in ACQUIRE (R47, R52), the silence timers (R115), the stability
timers (R155) and the count of intervals since the reset grow by one. In RUN each angle counter below 2048 + W advances by 1024 parts
of 1/P count, 2048 counts in P sixteenths of an interval (R54). Then each mark reached is brought about as its row would: the gap marks
at 3, 12 and 48, the acquisition limit, a silence of 384, a stability of 8 with a level that differs, the end of the settling and of OFF
at 8 intervals, a counter at 2048 + W, a counter that passes an armed delay. One mark alone is taken as it stands; several in an order
the free value gives (log entry 2), of which nothing is said. -/
def Obligations.HeldDeviceStandsStill : Prop :=
  (∀ (c : Instr) (s : State), inReset s = true →
     (c ≠ .powerOn ∧ c ≠ .supplyDip ∧ c ≠ .resetLine ∧ c ≠ .resetLineRelease ∧ c ≠ .supplyRecovery ∧
       ∀ i l, c ≠ .rawLevelChange i l) →
     exec c s = .next s) ∧
  (∀ s : State, s.pending = [] → ∃ t, step s = .next t ∧ t.pending = [] ∧ t.pins = s.pins ∧ (inReset s = true → t = s)) ∧
  (∀ s : State, s.clock.phase < 32 →
     let t := advanceTime s
     let ends := s.clock.phase = 31
     t.clock.phase = (s.clock.phase + 1) % 32 ∧
     t.clock.sinceReset = (if ends then bump 8 s.clock.sinceReset else s.clock.sinceReset) ∧
     t.slr = { s.slr with gap := if ends ∧ s.slr.gapRunning = true then bump 48 s.slr.gap else s.slr.gap } ∧
     t.ct.progress = { s.ct.progress with
       elapsed := if ends ∧ s.oc.device = .acquire then bump 19200 s.ct.progress.elapsed else s.ct.progress.elapsed } ∧
     (∀ c, t.vlc.channels.get c = { s.vlc.channels.get c with
       silence := if ends then bump 384 (s.vlc.channels.get c).silence else (s.vlc.channels.get c).silence }) ∧
     (∀ i, t.pli.inputs.get i = { s.pli.inputs.get i with
       stability := if ends then bump 8 (s.pli.inputs.get i).stability else (s.pli.inputs.get i).stability }) ∧
     t.oc = s.oc ∧ t.bdu = s.bdu ∧ t.causes = s.causes ∧ t.hr = s.hr ∧ t.sli = s.sli ∧ t.table = s.table) ∧
  (∀ (s : State) (b : Branch) (a : AngleCounter) (p : Nat), (s.ct.tracks.get b).counter = some a →
     (s.ct.tracks.get b).period = some p → 1024 < p → a.part < p →
     ∃ x, (advanceTime s).ct.tracks.get b = { s.ct.tracks.get b with counter := some x } ∧
       (s.oc.device ≠ .run ∨ 2048 + s.ct.settings.halfWidth ≤ a.count → x = a) ∧
       (s.oc.device = .run → a.count < 2048 + s.ct.settings.halfWidth →
         x.count * p + x.part = a.count * p + a.part + 1024 ∧ x.part < p)) ∧
  (∀ s : State, inReset s = false → s.pending = [] →
     let t := advanceTime s
     (dueAt s t = [] → step s = .next t) ∧
     (∀ d, dueAt s t = [d] → step s = .next (runDue d { t with clock := { t.clock with picks := t.clock.picks + 1 } }))) ∧
  (∀ s : State, s.clock.phase < 32 →
     let ends := s.clock.phase = 31
     let due (d : Due) : Prop := d ∈ dueAt s (advanceTime s)
     (due .late ↔ ends ∧ s.slr.gapRunning = true ∧ s.slr.gap = 2) ∧
     (due .gap ↔ ends ∧ s.slr.gapRunning = true ∧ s.slr.gap = 11) ∧
     (due .lost ↔ ends ∧ s.slr.gapRunning = true ∧ s.slr.gap = 47) ∧
     (due .timeout ↔ ends ∧ s.oc.device = .acquire ∧ s.ct.progress.elapsed = 19199) ∧
     (∀ c, due (.silent c) ↔ ends ∧ (s.vlc.channels.get c).silence = 383 ∧ (s.vlc.channels.get c).link = .active) ∧
     (∀ i, due (.line i) ↔ ends ∧ (s.pli.inputs.get i).stability = 7 ∧
       (s.pli.inputs.get i).debounced ≠ s.pins.raw.get i) ∧
     (due .settling ↔ ends ∧ 7 ≤ s.clock.sinceReset ∧ s.pli.settling = true) ∧
     (due .receiver ↔ ends ∧ 7 ≤ s.clock.sinceReset ∧ s.sli.receive = .off) ∧
     (∀ b, due (.top b) ↔ ∃ x, ((advanceTime s).ct.tracks.get b).counter = some x ∧ 2048 + s.ct.settings.halfWidth ≤ x.count) ∧
     (∀ b, due (.delay b) ↔ ∃ d, (s.vlc.firing.get b).armed = some d ∧ countOf s b < d ∧ d ≤ countOf (advanceTime s) b) ∧
     (∀ b, due (.guardEnd b) ↔ ∃ x, (s.vlc.firing.get b).transaction = some x ∧ x.phase = .waiting ∧
       countOf s b < x.guardEnd ∧ x.guardEnd ≤ countOf (advanceTime s) b) ∧
     (∀ b, due (.retry b) ↔ ∃ x, (s.vlc.firing.get b).transaction = some x ∧ x.phase = .retryGap ∧
       countOf s b < x.guardEnd + 8 ∧ x.guardEnd + 8 ≤ countOf (advanceTime s) b))

/-! ## The supervisory line -/

/-- For every request row, with every field at every value: the frame of the request, sent to the unit's own address, does exactly
what the row's command does, in every receive state. A unit whose straps read 0 or 127 takes no request (R181). That the row stands
for a frame sent in whatever receive state the unit is in is the model's reading (log entry 12). -/
def Obligations.RequestFrameIsItsRequest : Prop :=
  (∀ (i : Instr) (k : RequestKind) (p : List Byte) (s : State), addressable s = true → wellFormed i = true →
     requestOf i = some (k, p) →
     exec (.requestFrame (requestBytes (s.sli.address.setWidth 8) (kindCode k) p)) s = exec i s) ∧
  (∀ (i : Instr) (s : State), addressable s = false → requestOf i ≠ none → exec i s = .next s)

/-- A complete frame for this unit or for all whose CRC disagrees: one CRC error, HOST_FRAME_ERROR, MUTE, and nothing else (R185). A
frame abandoned by its last character, whichever place it holds: by a framing error, by a length above 200, or by a mark, after which the
receiver follows the marked character (R183, R184); its count grows and HOST_FRAME_ERROR is raised. That a framing error comes first
where the character is marked too is the model's reading (log entry 11). A gap of over 4 character times abandons the frame in
assembly (R184). -/
def Obligations.DamagedFramesAreAbandoned : Prop :=
  (∀ (s : State) (a kind hi lo : Byte) (payload : List Byte), inReset s = false → s.sli.receive = .mute →
     takesAddress s a = true → payload.length ≤ 200 →
     [hi, lo] ≠ crcBytes (a :: kind :: BitVec.ofNat 8 payload.length :: payload) →
     exec (.requestFrame (a :: kind :: BitVec.ofNat 8 payload.length :: payload ++ [hi, lo])) s =
       .next { s with sli := { s.sli with
         assembly := []
         counters := { s.sli.counters with crcErrors := count16 s.sli.counters.crcErrors }
         events := s.sli.events.set .hostFrameError ⟨true, bump 255 (s.sli.events.get .hostFrameError).count⟩ } }) ∧
  (∀ (s : State) (a kind len : Byte), inReset s = false → s.sli.receive = .mute → takesAddress s a = true →
     let abandoned (f : LineCounters → LineCounters) : State := { s with sli := { s.sli with
       assembly := [], counters := f s.sli.counters
       events := s.sli.events.set .hostFrameError ⟨true, bump 255 (s.sli.events.get .hostFrameError).count⟩ } }
     let byLength := abandoned fun c => { c with lengthAbandonments := count16 c.lengthAbandonments }
     let byFraming := abandoned fun c => { c with framingErrors := count16 c.framingErrors }
     let byMark := abandoned fun c => { c with interrupted := count16 c.interrupted }
     (200 < len.toNat →
       exec (.frameAbandoned [⟨a, true, true⟩, ⟨kind, false, true⟩, ⟨len, false, true⟩]) s = .next byLength) ∧
     (∀ mark, exec (.frameAbandoned [⟨a, true, true⟩, ⟨kind, mark, false⟩]) s = .next byFraming) ∧
     (exec (.frameAbandoned [⟨a, true, true⟩, ⟨kind, true, true⟩]) s = .next
       (if takesAddress s kind = true then { byMark with sli := { byMark.sli with receive := .listening, assembly := [kind] } }
        else byMark))) ∧
  (∀ s : State, inReset s = false → s.sli.receive = .listening →
     exec (.gapAbandonment []) s = .next { s with sli := { s.sli with
       receive := .mute, assembly := []
       counters := { s.sli.counters with gapAbandonments := count16 s.sli.counters.gapAbandonments }
       events := s.sli.events.set .hostFrameError ⟨true, bump 255 (s.sli.events.get .hostFrameError).count⟩ } }) ∧
  (∀ (s : State) (chars : List LineChar) (first last : LineChar), inReset s = false → s.sli.receive = .mute →
     wellFormed (.frameAbandoned chars) = true → chars.head? = some first → takesAddress s first.data = true →
     chars.getLast? = some last →
     let abandoned (f : LineCounters → LineCounters) : State := { s with sli := { s.sli with
       assembly := [], counters := f s.sli.counters
       events := s.sli.events.set .hostFrameError ⟨true, bump 255 (s.sli.events.get .hostFrameError).count⟩ } }
     let byMark := abandoned fun c => { c with interrupted := count16 c.interrupted }
     exec (.frameAbandoned chars) s = .next
       (if last.stopOk = false then abandoned fun c => { c with framingErrors := count16 c.framingErrors }
        else if last.mark = false then abandoned fun c => { c with lengthAbandonments := count16 c.lengthAbandonments }
        else if takesAddress s last.data = true then
          { byMark with sli := { byMark.sli with receive := .listening, assembly := [last.data] } }
        else byMark))

/-- An error-free frame for this unit whose kind is in no table, or whose length is not its kind's, is answered with an empty
payload and changes nothing else (R187). -/
def Obligations.SliRefusesUnknownAndBadLength : Prop :=
  ∀ (s : State) (code : Byte) (payload : List Byte), Receptive s → payload.length ≤ 200 →
    (kindOf code = none ∨ ∃ k, kindOf code = some k ∧ lengthFits k payload.length = false) →
    ∃ t r, exec (.requestFrame (requestBytes (s.sli.address.setWidth 8) code payload)) s = .next t ∧
      t = { s with sli := { s.sli with
        receive := .answering, assembly := [], reply := some r
        counters := { s.sli.counters with accepted := count16 s.sli.counters.accepted } } } ∧
      r.payload = [] ∧ r.kind = code ||| 0x80 ∧ r.device = s.oc.device ∧ r.attention = attention s ∧
      r.status = (if kindOf code = none then .unknownKind else .badLength)

/-- Broadcasts (R186): DISABLE and TRIGGER_CAPTURE without payload are executed, every other error-free broadcast is ignored; each
is counted, none is answered, and the receiver is MUTE. -/
def Obligations.BroadcastsExecutedOrIgnored : Prop :=
  ∀ (s : State) (code : Byte) (payload : List Byte), inReset s = false → s.sli.receive = .mute → payload.length ≤ 200 →
    let counted (f : LineCounters → LineCounters) : State :=
      { s with sli := { s.sli with assembly := [], counters := f s.sli.counters } }
    let done := counted fun c => { c with broadcastsExecuted := count16 c.broadcastsExecuted }
    exec (.requestFrame (requestBytes 127 code payload)) s = .next
      (if payload = [] ∧ code = 0x41 then evaluateConfiguration (disableDevice done)
       else if payload = [] ∧ code = 0x52 then evaluateConfiguration (takeTrigger .request done)
       else counted fun c => { c with broadcastsIgnored := count16 c.broadcastsIgnored })

/-- Single characters and the receiver's own moves (R183, R184, R188, R189): RECEIVER_ON takes OFF to MUTE; a character in ANSWERING
is counted and ignored; a framing error in MUTE is counted, with no event; the reply starts and ends, a RESTART's that is not OK like
any other. The reply on the line: its address with the mark set, then kind, length, status, flags, device state, payload and CRC
with it clear (R182, R188, R197); the field that holds it is the model's own (log entry 5). That RECEIVER_ON as a command acts before the
8th interval is the model's choice (log entry 3); so is that it ends an initial settling still in progress (R156; log entry 28), and that
a reply ends though it was never begun is its reading (log entry 27). -/
def Obligations.ReceiverMoves : Prop :=
  (∀ s : State, inReset s = false →
     (s.sli.receive = .off → ∃ t, exec .receiverOn s = .next t ∧ t.sli = { s.sli with receive := .mute } ∧
       t.pli.settling = false ∧
       (s.pli.settling = false → t = { s with clock := t.clock, sli := t.sli }) ∧
       (s.pli.settling = true → (∀ i, (t.pli.inputs.get i).debounced = s.pins.raw.get i) ∧
         (s.oc.device ≠ .run → ∀ b, t.causes.get b =
           if s.pins.raw.get .extBlock = true then { s.causes.get b with plant := true } else s.causes.get b))) ∧
     (s.sli.receive = .answering → ∀ c, exec (.characterWhileAnswering c) s = .next { s with sli := { s.sli with
       counters := { s.sli.counters with ignoredAnswering := count16 s.sli.counters.ignoredAnswering } } }) ∧
     (s.sli.receive = .mute → ∀ d m, exec (.framingError d m) s = .next { s with sli := { s.sli with
       counters := { s.sli.counters with framingErrors := count16 s.sli.counters.framingErrors } } }) ∧
     (s.sli.receive = .answering → ∀ r, s.sli.reply = some r →
       exec .replyStart s = .next { s with sli := { s.sli with driving := true, output := replyChars r } } ∧
       (r.kind ≠ 0xFF ∨ r.status ≠ .ok → exec .replySent s = .next { s with sli := { s.sli with
         receive := .mute, assembly := [], reply := none, driving := false, output := [] } }))) ∧
  (∀ r : Reply,
     let flags : Byte := if r.attention = true then 1 else 0
     let rest := [r.kind, BitVec.ofNat 8 (3 + r.payload.length), BitVec.ofNat 8 (codeStatus r.status), flags,
       BitVec.ofNat 8 (codeDevice r.device)] ++ r.payload
     replyChars r = ⟨r.address, true, true⟩ :: (rest ++ crcBytes (r.address :: rest)).map fun x => ⟨x, false, true⟩)

/-! ## Requests that read -/

/-- R193: the reply to IDENTIFY, byte for byte; it changes no state but the interface's own for the reply. -/
def Obligations.IdentifyReply : Prop :=
  ∀ s : State, Receptive s →
    exec .identify s = .next (answered .identify .ok
      ([0x3A, 0x71, 0x03, 0x40, 0x01, s.sli.address.setWidth 8, s.sli.rate.setWidth 8,
        BitVec.ofNat 8 (codeReset s.sli.resetCause)] ++ bigEndian 2 s.sli.resetCount) s)

/-- R101: READ_TABLE is accepted in every device state; its reply carries the table's presence and, when it is complete, its 65
entries in order; it changes no state. -/
def Obligations.ReadTableReply : Prop :=
  ∀ s : State, Receptive s →
    (s.table = none → exec .readTable s = .next (answered .readTable .ok [0] s)) ∧
    (∀ t, s.table = some t → exec .readTable s =
      .next (answered .readTable .ok (1 :: (t.map (bigEndian 2)).flatten) s))

/-- The requests that only read are answered OK with their reports, and change nothing but the interface's own items (R17, R93,
R137, R177); a branch, a selection or a limit outside its range is refused. The reply to READ_STATE, byte for byte: device state, halt
record, output lines, lock frequency, link and measurement condition, branch states, block cause sets, latch, breaker and capture (R17).
What READ_BRANCH gives of the decision (R93), at its place in the reply: the one held, from the branch's first closure in RUN, which its
window without the first-window mark shows (R69), and while BLOCKED, where none is held b = 0 and α = 2048 (log entry 22).
What READ_HISTORY gives (R177): the records of the ring from the number asked for on, in the ring's order and none skipped, at most as
many as asked for, and as many as fit; its mark is EMPTY for an empty ring and GAP where the number lies below the oldest; oldest, newest
and the continuing number, the last given plus one or the newest plus one. The places and codes of the payloads that 10.11 leaves open,
and the continuing number after 4,294,967,295, are the model's (log entry 10). -/
def Obligations.ReadsChangeNothing : Prop :=
  (∀ s : State, Receptive s →
     exec .readState s = .next (answered .readState .ok (stateReport s) s) ∧
     exec .readValvesChannelReport s = .next (answered .readValves .ok (channelReport s) s) ∧
     (∀ b : Branch, exec (.readBranch (BitVec.ofNat 8 b.number)) s =
       .next (answered .readBranch .ok (branchReport s b) s)) ∧
     (∀ x : Byte, 2 < x.toNat → exec (.readBranch x) s = .next (answered .readBranch .refusedRange [] s)) ∧
     (∀ (q : Index) (m : Byte), exec (.readHistory q m) s = .next
       (if 1 ≤ m.toNat ∧ m.toNat ≤ 16 then answered .readHistory .ok (historyReply s.hr q m.toNat) s
        else answered .readHistory .refusedRange [] s))) ∧
  (∀ (s : State) (q : Index) (m : Nat), RingOrdered s →
     let given := historyRecords s.hr q m
     given.length ≤ m ∧ given <+: recordsFrom s.hr q ∧ (given.map recordLength).sum ≤ 183 ∧
     (given.length < m → ∀ r, (recordsFrom s.hr q)[given.length]? = some r →
       183 < (given.map recordLength).sum + recordLength r) ∧
     (∀ i r r', (recordsFrom s.hr q)[i]? = some r → (recordsFrom s.hr q)[i + 1]? = some r' →
       r'.seq.toNat = r.seq.toNat + 1)) ∧
  (∀ (s : State) (q : Index) (m : Nat),
     let given := historyRecords s.hr q m
     let oldest : Nat := (s.hr.ring.head?.map fun r => r.seq.toNat).getD 0
     let newest : Nat := (s.hr.ring.getLast?.map fun r => r.seq.toNat).getD 0
     let flags : Byte := if s.hr.ring = [] then 2 else if q.toNat < oldest then 1 else 0
     let next : Nat :=
       if s.hr.ring = [] then 0
       else if given = [] then (newest + 1) % 4294967296
       else ((given.getLast?.map fun r => r.seq.toNat).getD 0 + 1) % 4294967296
     (∀ r, r ∈ recordsFrom s.hr q ↔ r ∈ s.hr.ring ∧ q.toNat ≤ r.seq.toNat) ∧
     historyReply s.hr q m = [flags, BitVec.ofNat 8 given.length] ++ bigEndian 4 oldest ++ bigEndian 4 newest ++
       bigEndian 4 next ++ (given.map recordBytes).flatten) ∧
  (∀ s : State,
     let opt (o : Option Nat) : List Byte := (o.map fun x => [1, BitVec.ofNat 8 x]).getD [0]
     let condition : Nat := if s.slr.link = .silent ∨ s.slr.link = .lost then 0
       else if (s.slr.chains.get .a).status = .failed ∧ (s.slr.chains.get .b).status = .failed then 1 else 2
     let sets (c : CauseSet) : Nat := c.supervisor.toNat + 2 * c.valve.toNat + 4 * c.sync.toNat + 8 * c.plant.toNat
     stateReport s = [BitVec.ofNat 8 (codeDevice s.oc.device), BitVec.ofNat 8 (codeHalt s.oc.halt.cause)] ++
       opt (s.oc.halt.branch.map Branch.number) ++ opt (s.oc.halt.group.map Group.number) ++
       opt (s.oc.halt.failure.map codeFailure) ++
       (s.oc.halt.frameIndex.map fun i => 1 :: bigEndian 4 i.toNat).getD [0] ++
       [BitVec.ofNat 8 s.oc.tripRequest.toNat, BitVec.ofNat 8 s.oc.fallbackActive.toNat] ++
       opt (s.oc.lockFrequency.map codeNominal) ++
       [BitVec.ofNat 8 (codeLink s.slr.link), BitVec.ofNat 8 condition] ++
       (Branch.all.map fun b => BitVec.ofNat 8 (codeBranchState (s.bdu.branches.get b).state)) ++
       (Branch.all.map fun b => BitVec.ofNat 8 (sets (s.causes.get b))) ++
       [if s.pli.latch = none then 1 else 0, BitVec.ofNat 8 (s.pli.inputs.get .furnaceBreaker).debounced.toNat,
         BitVec.ofNat 8 (codeCapture s.hr.capture)]) ∧
  (∀ (s : State) (x : Byte), Receptive s → 1 < x.toNat →
     exec (.requestFrame (requestBytes (s.sli.address.setWidth 8) 0x32 [x])) s =
       .next (answered .readValves .refusedRange [] s)) ∧
  (∀ (s : State) (b : Branch),
     let d := s.bdu.branches.get b
     let shown : Option Decision :=
       if d.state = .blocked then some (d.decision.getD ⟨0, 2048⟩)
       else if d.window.map (·.first) = some false then d.decision else none
     ((branchReport s b).drop 16).take (if shown = none then 1 else 5) =
       (shown.map fun x => 1 :: (bigEndian 2 x.susceptance ++ bigEndian 2 x.delay)).getD [0])

/-- READ_EVENTS reports every flag and count and clears them in the same step; its attention flag is down (R192). READ_VALVES with
the group selection: after the report each group's snapshot is its current status and its change latch is clear, and nothing else of
the groups changes (R137). The three READ_COUNTERS selections report, and with clear-after-read set exactly their counters to 0
(R42, R139, R189); the supervisory report counts the request itself; a clear byte above 1 and a selection above 2 are refused, with an
empty payload by the model's choice (log entry 10). -/
def Obligations.ReportsThatClear : Prop :=
  (∀ s : State, Receptive s →
     let u : State := { s with sli := { s.sli with events := noEvents } }
     exec .readEvents s = .next (answered .readEvents .ok (eventReport s.sli.events) u) ∧ attention u = false) ∧
  (∀ s : State, Receptive s → ∃ t, exec .readValvesGroupReport s = .next t ∧
     Replies t .readValves .ok (groupReport s) ∧ SameButValve s t ∧ t.hr = s.hr ∧
     t.vlc = { s.vlc with groups := t.vlc.groups } ∧
     ∀ g, t.vlc.groups.get g = { s.vlc.groups.get g with snapshot := currentStatus s g, changed := false }) ∧
  (∀ (s : State) (x : Byte), Receptive s →
     (1 < x.toNat →
       exec (.readCountersLink x) s = .next (answered .readCounters .refusedRange [] s) ∧
       exec (.readCountersValve x) s = .next (answered .readCounters .refusedRange [] s) ∧
       exec (.readCountersSupervisory x) s = .next (answered .readCounters .refusedRange [] s)) ∧
     (x = 0 →
       exec (.readCountersLink x) s = .next (answered .readCounters .ok (linkReport s.slr) s) ∧
       exec (.readCountersValve x) s = .next (answered .readCounters .ok (valveReport s.vlc) s) ∧
       exec (.readCountersSupervisory x) s = .next (answered .readCounters .ok
         (lineReport { s.sli.counters with accepted := count16 s.sli.counters.accepted }) s)) ∧
     (x = 1 →
       exec (.readCountersLink x) s = .next (answered .readCounters .ok (linkReport s.slr)
         { s with slr := { s.slr with counters := .zero } }) ∧
       (∃ t, exec (.readCountersValve x) s = .next t ∧ Replies t .readCounters .ok (valveReport s.vlc) ∧
         t = { s with sli := t.sli, vlc := { s.vlc with groups := t.vlc.groups, channels := t.vlc.channels } } ∧
         (∀ g, t.vlc.groups.get g = { s.vlc.groups.get g with counters := .zero }) ∧
         (∀ c, t.vlc.channels.get c = { s.vlc.channels.get c with frameErrors := 0, silences := 0 })) ∧
       (∃ t, exec (.readCountersSupervisory x) s = .next t ∧ t.sli.counters = .zero ∧
         Replies t .readCounters .ok (lineReport { s.sli.counters with accepted := count16 s.sli.counters.accepted }) ∧
         SameButSli s t ∧ t.sli.events = s.sli.events ∧ t.sli.mask = s.sli.mask))) ∧
  (∀ (s : State) (x y : Byte), Receptive s → 2 < x.toNat →
     exec (.requestFrame (requestBytes (s.sli.address.setWidth 8) 0x60 [x, y])) s =
       .next (answered .readCounters .refusedRange [] s))

/-! ## Requests that change settings -/

/-- R39: the compare tolerance is replaced by 0..32767 and a greater one refused, with runs and flags kept; a tolerance of 0 stops
all comparison and any other resumes it; every reset leaves 256. The empty payload of the refusal is the model's choice (log entry 10). -/
def Obligations.SetLinkReplacesTolerance : Prop :=
  (∀ (s : State) (v : Half), Receptive s → s.oc.device ≠ .unset ∨ configured s = false →
    exec (.setLink v) s = .next
      (if v.toNat ≤ 32767 then
        answered .setLink .ok (bigEndian 2 v.toNat) { s with slr := { s.slr with tolerance := v.toNat } }
       else answered .setLink .refusedRange [] s)) ∧
  (∀ (l : SampleLink) (pair : PerLink LinkWord), compared l pair = true ↔
    l.tolerance ≠ 0 ∧ (∀ c, parityGood (pair.get c) = true) ∧ ∀ c, (l.chains.get c).status ≠ .failed) ∧
  (∀ (k : ResetKind) (s : State), (beginReset k s).slr.tolerance = 256)

/-- SELECT_PRIMARY (R40): a channel that is not FAILED becomes primary, with no event and no switch counted; a FAILED one is
refused, and so is a byte that names no channel; that a refusal answers with the primary is the model's choice (log entry 10).
RESET_CHANNELS (R41): both channels GOOD with count 0, every run 0 and every flag clear; primary, block, used values and counters
kept; no event. The measurement condition follows at once. -/
def Obligations.ChannelRequests : Prop :=
  (∀ (s : State) (c : LinkChannel), Receptive s → s.oc.device ≠ .unset ∨ configured s = false →
     exec (.selectPrimary (BitVec.ofNat 8 c.number)) s = .next
       (if (s.slr.chains.get c).status = .failed then
         answered .selectPrimary .refusedState [BitVec.ofNat 8 s.slr.primary.number] s
        else answered .selectPrimary .ok [BitVec.ofNat 8 c.number] { s with slr := { s.slr with primary := c } })) ∧
  (∀ s : State, Receptive s → s.oc.device ≠ .unset ∨ configured s = false →
     ∃ t, exec .resetChannels s = .next t ∧ Replies t .resetChannels .ok [] ∧
       t = { s with sli := t.sli, slr := { s.slr with chains := t.slr.chains, quantities := t.slr.quantities } } ∧
       t.sli.events = s.sli.events ∧
       (∀ c, t.slr.chains.get c = ⟨.good, 0⟩) ∧
       (∀ q, t.slr.quantities.get q = ⟨(s.slr.quantities.get q).lastUsed, 0, 0, false⟩) ∧
       (measurementCondition t.slr = if s.slr.link = .silent ∨ s.slr.link = .lost then .absent else .normal)) ∧
  (∀ (s : State) (x : Byte), Receptive s → 1 < x.toNat →
     exec (.selectPrimary x) s = .next (answered .selectPrimary .refusedRange [BitVec.ofNat 8 s.slr.primary.number] s))

/-- SET_SYNC (R64): refused outside UNSET and READY before its ranges are looked at; one field out of range refuses all five;
otherwise all five are replaced. The reply carries the settings in force. SET_BRANCH (R91): all six settings of the named branch are
replaced, or none; a byte that names no branch is refused, with an empty payload (log entry 10); what stands beyond the 15th byte makes
no difference; in UNSET an accepted request is followed by the evaluation of the configuration (R2). SET_FILTERS (R92): twelve shares in
range replace the table and cancel an armed latch with cause SET_FILTERS (R161); one out of range refuses all. SET_VALVE (R136): all
seven settings are replaced, or none; open transactions keep what they took at opening. SET_ATTENTION_MASK (R191): a mask with any of
bits 29 to 31 is refused; any other replaces the mask, and the reply's attention flag is taken with it. -/
def Obligations.SettingsReplacedWholeOrRefused : Prop :=
  (∀ (s : State) (m : Byte) (h w : Half) (l lim : Byte), Receptive s → s.oc.device ≠ .unset ∨ configured s = false →
     let old := syncBytes s.ct.settings
     (s.oc.device ≠ .unset ∧ s.oc.device ≠ .ready →
       exec (.setSync m h w l lim) s = .next (answered .setSync .refusedState old s)) ∧
     (s.oc.device = .unset ∨ s.oc.device = .ready →
       (3 < m.toNat ∨ 16383 < h.toNat ∨ w.toNat < 64 ∨ 512 < w.toNat ∨ lim.toNat < 2 ∨ 16 < lim.toNat →
         exec (.setSync m h w l lim) s = .next (answered .setSync .refusedRange old s)) ∧
       (∀ a : AcquisitionMode, m = BitVec.ofNat 8 (codeMode a) → h.toNat ≤ 16383 → 64 ≤ w.toNat → w.toNat ≤ 512 →
         2 ≤ lim.toNat → lim.toNat ≤ 16 →
         exec (.setSync m h w l lim) s = .next (answered .setSync .ok ([m] ++ bigEndian 2 h.toNat ++ bigEndian 2 w.toNat ++ [l, lim])
           { s with ct := { s.ct with settings := ⟨a, h.toNat, w.toNat, l.toNat, lim.toNat⟩ } })))) ∧
  (∀ (s : State) (b : Branch) (k : BitVec 24) (tr fb st : Half) (hold : Byte) (fl : BitVec 32) (rest : List Byte),
     Receptive s → rest.length ≤ 185 →
     let ok := 1 ≤ k.toNat ∧ -2048 ≤ tr.toInt ∧ tr.toInt ≤ 2047 ∧ fb.toNat ≤ 4095 ∧ 1 ≤ st.toNat ∧ st.toNat ≤ 4095 ∧
       1 ≤ hold.toNat ∧ hold.toNat ≤ 32 ∧ fl.toNat ≤ 1073741824
     (ok → ∃ t, exec (.setBranch (BitVec.ofNat 8 b.number) k tr fb st hold fl rest) s = .next t ∧
       (t.bdu.branches.get b).settings = ⟨k.toNat, tr.toInt, fb.toNat, st.toNat, hold.toNat, fl.toNat⟩ ∧
       t.bdu = { s.bdu with branches := t.bdu.branches } ∧ t = { s with sli := t.sli, oc := t.oc, bdu := t.bdu } ∧
       (∀ c, c ≠ b → t.bdu.branches.get c = s.bdu.branches.get c) ∧
       t.bdu.branches.get b = { s.bdu.branches.get b with settings := (t.bdu.branches.get b).settings } ∧
       t.oc = { s.oc with device :=
         if s.oc.device = .unset ∧ s.table ≠ none ∧ ∀ c ∈ Branch.all, c ≠ b → (s.bdu.branches.get c).settings.gain ≠ 0 then .ready
         else s.oc.device } ∧
       Replies t .setBranch .ok (branchReport t b)) ∧
     (¬ ok → exec (.setBranch (BitVec.ofNat 8 b.number) k tr fb st hold fl rest) s =
       .next (answered .setBranch .refusedRange (branchReport s b) s))) ∧
  (∀ (s : State) (shares : List Half), Receptive s → shares.length = 12 → s.oc.device ≠ .unset ∨ configured s = false →
     ((∃ x ∈ shares, 4095 < x.toNat) → exec (.setFilters shares) s = .next (answered .setFilters .refusedRange (filterBytes s) s)) ∧
     ((∀ x ∈ shares, x.toNat ≤ 4095) → ∃ t, exec (.setFilters shares) s = .next t ∧
       filterBytes t = (shares.map fun x => bigEndian 2 x.toNat).flatten ∧ Replies t .setFilters .ok (filterBytes t) ∧
       t.bdu = { s.bdu with shares := t.bdu.shares } ∧ t.pli.latch = none ∧
       (s.pli.latch ≠ none → t.pli.lastCancel = some .setFilters ∧ t.pli.cancellations = count16 s.pli.cancellations ∧
         t.sli.events.get .presetCancelled = ⟨true, bump 255 (s.sli.events.get .presetCancelled).count⟩) ∧
       (s.pli.latch = none → t.pli = s.pli ∧ t.sli.events = s.sli.events) ∧
       t = { s with bdu := t.bdu, pli := t.pli, sli := t.sli })) ∧
  (∀ (s : State) (g r : Byte) (last : Half) (ref mis red trip : Byte), Receptive s →
     s.oc.device ≠ .unset ∨ configured s = false →
     exec (.setValve g r last ref mis red trip) s = .next
       (if 8 ≤ g.toNat ∧ g.toNat ≤ 128 ∧ r.toNat ≤ 3 ∧ 1536 ≤ last.toNat ∧ last.toNat ≤ 2040 ∧ 1 ≤ ref.toNat ∧
           ref.toNat ≤ 16 ∧ 1 ≤ mis.toNat ∧ mis.toNat ≤ 8 ∧ red.toNat ≤ 7 ∧ trip.toNat ≤ 1 then
         answered .setValve .ok ([g, r] ++ bigEndian 2 last.toNat ++ [ref, mis, red, trip])
           { s with vlc := { s.vlc with settings :=
               ⟨g.toNat, r.toNat, last.toNat, ref.toNat, mis.toNat, red.toNat, trip == 1⟩ } }
        else answered .setValve .refusedRange (valveSettingBytes s.vlc.settings) s)) ∧
  (∀ (s : State) (m : BitVec 32), Receptive s → s.oc.device ≠ .unset ∨ configured s = false →
     exec (.setAttentionMask m) s = .next
       (if m.toNat < 536870912 then
         answered .setAttentionMask .ok (bigEndian 4 m.toNat) { s with sli := { s.sli with mask := m } }
        else answered .setAttentionMask .refusedRange (bigEndian 4 s.sli.mask.toNat) s)) ∧
  (∀ (s : State) (x : Byte) (k : BitVec 24) (tr fb st : Half) (hold : Byte) (fl : BitVec 32) (rest : List Byte),
     Receptive s → rest.length ≤ 185 → 2 < x.toNat →
     exec (.setBranch x k tr fb st hold fl rest) s = .next (answered .setBranch .refusedRange [] s))

/-- LOAD_TABLE (R98 to R100): outside UNSET and READY it is refused before its entries are looked at; otherwise the first fault
refuses it and keeps the old table, and without a fault the 65 entries become the table. The first fault of a table (R99): none
exactly when every entry lies in 1024..2048 and none is above the one before it; a fault found lies at the lowest index that fails,
and the range is tested before the order. -/
def Obligations.LoadTableAllOrNothing : Prop :=
  (∀ (s : State) (entries : List Half), Receptive s → entries.length = 65 →
     (s.oc.device ≠ .unset ∧ s.oc.device ≠ .ready →
       exec (.loadTable entries) s = .next (answered .loadTable .refusedState (flag s.table.isSome) s)) ∧
     (s.oc.device = .unset ∨ s.oc.device = .ready →
       (∀ k f, firstFault (entries.map (·.toNat)) = some (k, f) → exec (.loadTable entries) s = .next
         (answered .loadTable .refusedRange (flag s.table.isSome ++ [BitVec.ofNat 8 k, BitVec.ofNat 8 (codeTableFault f)]) s)) ∧
       (firstFault (entries.map (·.toNat)) = none → ∃ t, exec (.loadTable entries) s = .next t ∧
         t = { s with sli := t.sli, table := some (entries.map (·.toNat)), oc := t.oc } ∧
         t.oc = { s.oc with device :=
           if s.oc.device = .unset ∧ ∀ b ∈ Branch.all, (s.bdu.branches.get b).settings.gain ≠ 0 then .ready
           else s.oc.device } ∧
         Replies t .loadTable .ok [1]))) ∧
  (∀ e : List Nat,
     let outOf (k : Nat) : Prop := ∃ x, e[k]? = some x ∧ (x < 1024 ∨ 2048 < x)
     let rises (k : Nat) : Prop := ∃ x y, 1 ≤ k ∧ e[k - 1]? = some x ∧ e[k]? = some y ∧ x < y
     (firstFault e = none ↔ ∀ k, ¬ outOf k ∧ ¬ rises k) ∧
     (∀ k, firstFault e = some (k, .outOfRange) ↔ outOf k ∧ ∀ j, j < k → ¬ outOf j ∧ ¬ rises j) ∧
     (∀ k, firstFault e = some (k, .increasing) ↔ ¬ outOf k ∧ rises k ∧ ∀ j, j < k → ¬ outOf j ∧ ¬ rises j))

/-- The capture requests (R174 to R176): SET_CAPTURE replaces both settings in FREE alone; TRIGGER_CAPTURE in FREE begins a capture
with cause REQUEST, and otherwise is counted as ignored; RELEASE_CAPTURE frees a FROZEN capture, keeping the ring, and is refused in
TRIGGERED. A synthesised closure's record in a capture (R169, R172, R173): in TRIGGERED it is stored, and the remaining count falls by
one; at the last the capture is FROZEN with CAPTURE_FROZEN raised; in FROZEN it is not stored, and counted as suppressed, without
a number. That the command brings the counter to its top is the model's choice (log entry 3). -/
def Obligations.CaptureRequests : Prop :=
  (∀ s : State, Receptive s → s.oc.device ≠ .unset ∨ configured s = false →
     (∀ tr p : Half, exec (.setCapture tr p) s = .next
       (if s.hr.capture ≠ .free then answered .setCapture .refusedState (captureReport s) s
        else if tr.toNat ≤ 255 ∧ p.toNat ≤ 511 then
         let u : State := { s with hr := { s.hr with triggers := tr.setWidth 8, post := p.toNat } }
         answered .setCapture .ok (captureReport u) u
        else answered .setCapture .refusedRange (captureReport s) s)) ∧
     (s.hr.capture = .free → s.hr.post ≠ 0 →
       let u : State := { s with hr := { s.hr with
         capture := .triggered, remaining := s.hr.post, ignored := 0
         trigger := some ⟨.request, newestSeq s.hr, s.slr.frameIndex⟩ } }
       exec .triggerCapture s = .next (answered .triggerCapture .ok (captureReport u) u)) ∧
     (s.hr.capture = .free → s.hr.post = 0 →
       let u : State := { s with
         hr := { s.hr with
           capture := .frozen, remaining := 0, ignored := 0, suppressed := 0
           trigger := some ⟨.request, newestSeq s.hr, s.slr.frameIndex⟩ }
         sli := { s.sli with
           events := s.sli.events.set .captureFrozen ⟨true, bump 255 (s.sli.events.get .captureFrozen).count⟩ } }
       exec .triggerCapture s = .next (answered .triggerCapture .ok (captureReport u) u)) ∧
     (s.hr.capture ≠ .free →
       let u : State := { s with hr := { s.hr with ignored := count16 s.hr.ignored } }
       exec .triggerCapture s = .next (answered .triggerCapture .ok (captureReport u) u)) ∧
     exec .releaseCapture s = .next
       (match s.hr.capture with
       | .free => answered .releaseCapture .ok (captureReport s) s
       | .triggered => answered .releaseCapture .refusedState (captureReport s) s
       | .frozen =>
         let u : State := { s with hr := { s.hr with capture := .free, remaining := 0 } }
         answered .releaseCapture .ok (captureReport u) u)) ∧
  (∀ (s : State) (b : Branch) (a : AngleCounter) (p : Polarity), inReset s = false → s.oc.device = .run →
     (s.ct.tracks.get b).counter = some a → (s.ct.tracks.get b).polarity = some p →
     (s.vlc.firing.get b).armed = none → (s.ct.tracks.get b).synthesisedRun + 1 < s.ct.settings.limit →
     s.hr.triggers = 0 → (s.vlc.firing.get b).transaction = none →
     ∃ t, exec (.crossingSynthesized b) s = .next t ∧
       (s.hr.capture = .triggered → wrapsNow s.hr = false → t.hr.nextSeq = s.hr.nextSeq + 1 ∧ t.hr.trigger = s.hr.trigger ∧
         (∃ r, t.hr.ring = (if s.hr.ring.length < 512 then s.hr.ring else s.hr.ring.tail) ++ [r] ∧ r.seq = s.hr.nextSeq ∧
           r.branch = b) ∧
         (1 < s.hr.remaining → t.hr.capture = .triggered ∧ t.hr.remaining = s.hr.remaining - 1) ∧
         (s.hr.remaining ≤ 1 → t.hr.capture = .frozen ∧ t.hr.remaining = 0 ∧ t.hr.suppressed = 0 ∧
           t.sli.events.get .captureFrozen = ⟨true, bump 255 (s.sli.events.get .captureFrozen).count⟩)) ∧
       (s.hr.capture = .frozen → t.hr = { s.hr with suppressed := count32 s.hr.suppressed }))

/-! ## Device state requests -/

/-- ENABLE (R3, R47): in READY the device enters ACQUIRE with empty progress and every previous sample absent, and the reply carries
ACQUIRE; in any other state it is refused and changes nothing. RESTART is answered OK and changes nothing yet (R196). -/
def Obligations.EnableAndRestartAnswered : Prop :=
  (∀ s : State, Receptive s →
     (s.oc.device = .ready → ∃ t, exec .enable s = .next t ∧ Replies t .enable .ok [] ∧ t.oc.device = .acquire ∧
       t.ct.progress = .empty ∧ (∀ b, t.ct.tracks.get b = { s.ct.tracks.get b with previous := none }) ∧
       t.oc = { s.oc with device := .acquire, lockFrequency := none } ∧
       t.ct = { s.ct with progress := t.ct.progress, tracks := t.ct.tracks } ∧
       t = { s with sli := t.sli, oc := t.oc, ct := t.ct }) ∧
     (s.oc.device ≠ .ready → exec .enable s = .next (answered .enable .refusedState [] s))) ∧
  (∀ s : State, Receptive s → s.oc.device ≠ .unset ∨ configured s = false →
     exec .restart s = .next (answered .restart .ok [] s))

/-- DISABLE (R10, R11) from ACQUIRE, RUN and HALTED: READY with the halt record clear and TRIP_REQUEST released; the control loop is
stopped on every branch, SYNC is removed and no other cause, the delay lines are empty, and an armed latch is cancelled. In READY and
in UNSET it is answered OK and changes nothing. That a transaction it abandons can no more fail its group in the same moment (R12) is
the model's choice (log entry 32). -/
def Obligations.DisableStopsTheDevice : Prop :=
  (∀ s : State, Receptive s →
     (s.oc.device = .acquire ∨ s.oc.device = .run ∨ s.oc.device = .halted → ∃ t, exec .disable s = .next t ∧
       Replies t .disable .ok [] ∧ t.oc = ⟨.ready, .clear, false, true, none⟩ ∧ (∀ b, BranchIdle t b) ∧
       (∀ b, t.ct.tracks.get b = { Track.reset with
         accepted := (s.ct.tracks.get b).accepted, rejected := (s.ct.tracks.get b).rejected
         synthesised := (s.ct.tracks.get b).synthesised }) ∧
       (∀ b, t.causes.get b = { s.causes.get b with sync := false }) ∧ t.bdu.lines = [] ∧
       (∀ g, t.vlc.groups.get g = { s.vlc.groups.get g with ready := false, credit := false }) ∧
       t.vlc.map = s.vlc.map ∧ t.vlc.channels = s.vlc.channels ∧ t.vlc.settings = s.vlc.settings ∧
       t.ct.settings = s.ct.settings ∧ t.ct.nominal = none ∧ t.ct.progress = .empty ∧ t.table = s.table ∧ t.hr = s.hr ∧
       t.slr = s.slr ∧ t.pli.latch = none ∧ t.pli.inputs = s.pli.inputs ∧ t.bdu.shares = s.bdu.shares ∧
       (∀ b, (t.bdu.branches.get b).settings = (s.bdu.branches.get b).settings ∧
         (t.bdu.branches.get b).counters = (s.bdu.branches.get b).counters) ∧
       (s.pli.latch ≠ none → t.pli.lastCancel = some .disable ∧
         t.sli.events.get .presetCancelled = ⟨true, bump 255 (s.sli.events.get .presetCancelled).count⟩) ∧
       OtherEventsKept [.presetCancelled] s t) ∧
     (s.oc.device = .ready → exec .disable s = .next (answered .disable .ok [] s))) ∧
  (∀ s : State, Receptive s → s.oc.device = .unset → configured s = false →
     exec .disable s = .next (answered .disable .ok [] s))

/-! ## Map, blocking and preset requests -/

/-- MAP_GROUP (R142, R143): a byte that names no group or no channel is refused; then the four checks in their order; a move clears the
group's counters, counts, snapshot, latch and readiness, keeps its state and failure cause and both channels, and cancels an armed
latch. -/
def Obligations.MapGroupMovesOrRefuses : Prop :=
  (∀ (s : State) (g : Group) (c : ValveChannel), Receptive s → s.oc.device ≠ .unset ∨ configured s = false →
     let i := Instr.mapGroup (BitVec.ofNat 8 g.number) (BitVec.ofNat 8 c.number)
     ((∃ h, h ≠ g ∧ s.vlc.map.get h = c) → exec i s = .next (answered .mapGroup .refusedConflict (mapBytes s) s)) ∧
     ((∀ h, h ≠ g → s.vlc.map.get h ≠ c) → groupRequestOpen s g.branch = false →
       exec i s = .next (answered .mapGroup .refusedState (mapBytes s) s)) ∧
     ((∀ h, h ≠ g → s.vlc.map.get h ≠ c) → groupRequestOpen s g.branch = true →
       (s.vlc.map.get g = c → exec i s = .next (answered .mapGroup .ok (mapBytes s) s)) ∧
       (s.vlc.map.get g ≠ c → (s.vlc.channels.get c).link = .silent →
         exec i s = .next (answered .mapGroup .refusedState (mapBytes s) s)) ∧
       (s.vlc.map.get g ≠ c → (s.vlc.channels.get c).link = .active → ∃ t, exec i s = .next t ∧
         Replies t .mapGroup .ok (mapBytes t) ∧ t.vlc.map = s.vlc.map.set g c ∧ t.vlc.channels = s.vlc.channels ∧
         t.vlc.groups = s.vlc.groups.set g { GroupState.reset with failure := (s.vlc.groups.get g).failure } ∧
         t.vlc.firing = s.vlc.firing ∧ t.vlc.settings = s.vlc.settings ∧ t.causes = s.causes ∧ t.pli.latch = none ∧
         (s.pli.latch ≠ none → t.pli.lastCancel = some .mapGroup) ∧ (s.pli.latch = none → t.pli = s.pli) ∧
         t = { s with vlc := t.vlc, pli := t.pli, sli := t.sli }))) ∧
  (∀ (s : State) (x y : Byte), Receptive s → 5 < x.toNat ∨ 7 < y.toNat →
     exec (.mapGroup x y) s = .next (answered .mapGroup .refusedRange (mapBytes s) s))

/-- RESET_GROUP (R149): the consecutive counts are 0; the group is AVAILABLE, or FAILED again by its current status or its SILENT
channel, with GROUP_FAILED raised; that the status comes first where both fail it is the model's choice (log entry 31). Where its branch already holds VALVE, causes and device stand; where it does not, a new failure adds
VALVE, and in RUN with trip_on_block yes halts the device with a trip (R7, R152). Where the request is closed, and for a byte that names
no group, it is refused, the latter with an empty payload (log entry 10). -/
def Obligations.ResetGroupChecksAgain : Prop :=
  (∀ (s : State) (g : Group), Receptive s → s.oc.device ≠ .unset ∨ configured s = false →
     let i := Instr.resetGroup (BitVec.ofNat 8 g.number)
     let again : Option FailureCause :=
       match currentStatus s g with
       | some st =>
         if st.coolingOk = false then some .cooling
         else if s.vlc.settings.redundancyLimit < st.failedLevels.toNat then some .redundancy
         else if (s.vlc.channels.get (s.vlc.map.get g)).link = .silent then some .channelSilent else none
       | none => if (s.vlc.channels.get (s.vlc.map.get g)).link = .silent then some .channelSilent else none
     (groupRequestOpen s g.branch = false → exec i s = .next (answered .resetGroup .refusedState (groupStateBytes s g) s)) ∧
     (groupRequestOpen s g.branch = true → (s.causes.get g.branch).valve = true → ∃ t, exec i s = .next t ∧
       t.vlc.groups.get g = { s.vlc.groups.get g with
         failure := again, misfireRun := 0, refusalRun := 0
         ready := (s.vlc.groups.get g).ready && again.isNone, credit := (s.vlc.groups.get g).credit && again.isNone } ∧
       (∀ h, h ≠ g → t.vlc.groups.get h = s.vlc.groups.get h) ∧ t.causes = s.causes ∧ t.oc = s.oc ∧
       Replies t .resetGroup .ok (groupStateBytes t g) ∧
       (t.sli.events.get .groupFailed =
         if again = none then s.sli.events.get .groupFailed
         else ⟨true, bump 255 (s.sli.events.get .groupFailed).count⟩) ∧
       t = { s with vlc := { s.vlc with groups := t.vlc.groups }, sli := t.sli, hr := t.hr })) ∧
  (∀ (s : State) (x : Byte), Receptive s → 5 < x.toNat →
     exec (.resetGroup x) s = .next (answered .resetGroup .refusedRange [] s)) ∧
  (∀ (s : State) (g : Group), Receptive s → s.oc.device ≠ .unset ∨ configured s = false →
     groupRequestOpen s g.branch = true → (s.causes.get g.branch).valve = false →
     let silent := (s.vlc.channels.get (s.vlc.map.get g)).link = .silent
     let again : Option FailureCause :=
       match currentStatus s g with
       | some st =>
         if st.coolingOk = false then some .cooling
         else if s.vlc.settings.redundancyLimit < st.failedLevels.toNat then some .redundancy
         else if silent then some .channelSilent else none
       | none => if silent then some .channelSilent else none
     ∃ t, exec (.resetGroup (BitVec.ofNat 8 g.number)) s = .next t ∧
       (t.vlc.groups.get g).failure = again ∧ (t.vlc.groups.get g).misfireRun = 0 ∧ (t.vlc.groups.get g).refusalRun = 0 ∧
       (∀ h, h ≠ g → (t.vlc.groups.get h).failure = (s.vlc.groups.get h).failure) ∧
       (again = none → t.causes = s.causes ∧ t.oc = s.oc ∧ t.sli.events = s.sli.events) ∧
       (∀ f, again = some f → t.causes = s.causes.set g.branch { s.causes.get g.branch with valve := true } ∧
         t.sli.events.get .groupFailed = ⟨true, bump 255 (s.sli.events.get .groupFailed).count⟩ ∧
         (s.oc.device = .run → s.vlc.settings.tripOnBlock = true → t.oc.device = .halted ∧ t.oc.tripRequest = true ∧
           t.oc.halt = ⟨.valveFailed, some g.branch, some g, some f, some s.slr.frameIndex⟩ ∧ ∀ b, BranchIdle t b) ∧
         (s.oc.device ≠ .run ∨ s.vlc.settings.tripOnBlock = false → t.oc.device = s.oc.device ∧ t.oc.halt = s.oc.halt)))

/-- BLOCK (R147, R150): SUPERVISOR is added to the named branch and to no other, an armed latch is cancelled; in RUN a branch whose
set was empty enters BLOCKED with b = 0, α = 2048 and nothing armed, an open transaction closing as OVERTAKEN; outside RUN no branch
state moves. With ALL the same of all three branches, in every device state and with the latch armed or not. A byte that names no
branch is refused. -/
def Obligations.BlockAddsSupervisor : Prop :=
  (∀ (s : State) (b : Branch), Receptive s → s.oc.device ≠ .unset ∨ configured s = false →
     ∃ t, exec (.block (BitVec.ofNat 8 b.number)) s = .next t ∧ Replies t .block .ok (causesBytes t) ∧
       t.causes = s.causes.set b { s.causes.get b with supervisor := true } ∧ t.pli.latch = none ∧
       (s.pli.latch ≠ none → t.pli.lastCancel = some .block) ∧
       (∀ c, c ≠ b → t.bdu.branches.get c = s.bdu.branches.get c ∧ t.vlc.firing.get c = s.vlc.firing.get c) ∧
       t.ct = s.ct ∧ t.slr = s.slr ∧ t.hr = s.hr ∧ t.table = s.table ∧ t.oc.device = s.oc.device ∧
       OtherEventsKept [.presetCancelled] s t ∧
       (s.oc.device ≠ .run ∨ noCauses (s.causes.get b) = false → t.bdu = s.bdu ∧ t.vlc = s.vlc ∧ t.oc = s.oc) ∧
       (s.oc.device = .run → noCauses (s.causes.get b) = true →
         (t.bdu.branches.get b).state = .blocked ∧ (t.bdu.branches.get b).decision = some ⟨0, 2048⟩ ∧
         (t.bdu.branches.get b).window = (s.bdu.branches.get b).window ∧ (t.bdu.branches.get b).preset = none ∧
         (t.bdu.branches.get b).previous = none ∧ t.oc.fallbackActive = true ∧
         (t.vlc.firing.get b).armed = none ∧ (t.vlc.firing.get b).transaction = none ∧
         (∀ x, (s.vlc.firing.get b).transaction = some x →
           (t.vlc.firing.get b).outcome = some ⟨.overtaken, some x.attempts⟩ ∧
           (t.vlc.groups.get x.group).counters.overtaken = count16 (s.vlc.groups.get x.group).counters.overtaken) ∧
         ((s.vlc.firing.get b).transaction = none →
           (t.vlc.firing.get b).outcome = (s.vlc.firing.get b).outcome ∧ t.vlc.groups = s.vlc.groups))) ∧
  (∀ s : State, Receptive s → s.oc.device = .ready ∨ s.oc.device = .acquire ∨ s.oc.device = .halted → s.pli.latch = none →
     (∃ t, exec (.block 3) s = .next t ∧ (∀ b, t.causes.get b = { s.causes.get b with supervisor := true }) ∧
       t = { s with causes := t.causes, sli := t.sli })) ∧
  (∀ (s : State) (x : Byte), Receptive s → 3 < x.toNat →
     exec (.block x) s = .next (answered .block .refusedRange (causesBytes s) s)) ∧
  (∀ s : State, Receptive s → s.oc.device ≠ .unset ∨ configured s = false →
     ∃ t, exec (.block 3) s = .next t ∧ Replies t .block .ok (causesBytes t) ∧
       (∀ b, t.causes.get b = { s.causes.get b with supervisor := true }) ∧ t.oc.device = s.oc.device ∧ t.pli.latch = none ∧
       (s.pli.latch = none → t.pli = s.pli ∧ t.sli.events = s.sli.events) ∧
       (s.pli.latch ≠ none → t.pli.lastCancel = some .block ∧ t.pli.cancellations = count16 s.pli.cancellations ∧
         t.sli.events.get .presetCancelled = ⟨true, bump 255 (s.sli.events.get .presetCancelled).count⟩) ∧
       (s.oc.device ≠ .run → t.bdu = s.bdu ∧ t.vlc = s.vlc ∧ t.oc = s.oc) ∧
       (s.oc.device = .run → ∀ b,
         (s.causes.get b = .empty → (t.bdu.branches.get b).state = .blocked ∧
           (t.bdu.branches.get b).decision = some ⟨0, 2048⟩ ∧ (t.vlc.firing.get b).armed = none ∧
           (t.vlc.firing.get b).transaction = none) ∧
         (s.causes.get b ≠ .empty → t.bdu.branches.get b = s.bdu.branches.get b ∧ t.vlc.firing.get b = s.vlc.firing.get b)))

/-- UNBLOCK (R148, R151): refused whole while a group of a named branch is FAILED, and for a byte that names no branch; otherwise
SUPERVISOR and VALVE are removed from the named branch, an armed latch is cancelled, and in RUN a branch whose set becomes empty
enters FALLBACK; that it keeps a decision it holds until its next closure is the model's choice (log entry 22). With ALL the same of all
three branches, in every device state. -/
def Obligations.UnblockRemovesCauses : Prop :=
  (∀ (s : State) (b : Branch), Receptive s → s.oc.device ≠ .unset ∨ configured s = false →
     let i := Instr.unblock (BitVec.ofNat 8 b.number)
     (branchHasFailed s b = true → exec i s = .next (answered .unblock .refusedState (causesBytes s) s)) ∧
     (branchHasFailed s b = false → ∃ t, exec i s = .next t ∧ Replies t .unblock .ok (causesBytes t) ∧
       t.causes = s.causes.set b { s.causes.get b with supervisor := false, valve := false } ∧ t.pli.latch = none ∧
       t.vlc = s.vlc ∧ t.ct = s.ct ∧ t.slr = s.slr ∧ t.hr = s.hr ∧ t.oc.device = s.oc.device ∧
       OtherEventsKept [.presetCancelled] s t ∧
       (∀ c, c ≠ b → t.bdu.branches.get c = s.bdu.branches.get c) ∧
       (s.oc.device = .run → noCauses (s.causes.get b) = false → noCauses (t.causes.get b) = true →
         t.bdu.branches.get b = { s.bdu.branches.get b with
           state := .fallback, heldClosures := 0, validClosures := 0, previous := none }) ∧
       (s.oc.device ≠ .run ∨ noCauses (s.causes.get b) = noCauses (t.causes.get b) → t.bdu = s.bdu))) ∧
  (∀ s : State, Receptive s → s.oc.device = .ready ∨ s.oc.device = .acquire ∨ s.oc.device = .halted → s.pli.latch = none →
     ((∃ g, (s.vlc.groups.get g).failure ≠ none) → exec (.unblock 3) s =
       .next (answered .unblock .refusedState (causesBytes s) s)) ∧
     ((∀ g, (s.vlc.groups.get g).failure = none) → ∃ t, exec (.unblock 3) s = .next t ∧
       (∀ b, t.causes.get b = { s.causes.get b with supervisor := false, valve := false }) ∧
       t = { s with causes := t.causes, sli := t.sli })) ∧
  (∀ (s : State) (x : Byte), Receptive s → 3 < x.toNat →
     exec (.unblock x) s = .next (answered .unblock .refusedRange (causesBytes s) s)) ∧
  (∀ s : State, Receptive s → s.oc.device ≠ .unset ∨ configured s = false →
     ((∃ g, (s.vlc.groups.get g).failure ≠ none) → exec (.unblock 3) s =
       .next (answered .unblock .refusedState (causesBytes s) s)) ∧
     ((∀ g, (s.vlc.groups.get g).failure = none) → ∃ t, exec (.unblock 3) s = .next t ∧ Replies t .unblock .ok (causesBytes t) ∧
       (∀ b, t.causes.get b = { s.causes.get b with supervisor := false, valve := false }) ∧ t.vlc = s.vlc ∧
       t.oc.device = s.oc.device ∧ t.pli.latch = none ∧
       (s.pli.latch = none → t.pli = s.pli ∧ t.sli.events = s.sli.events) ∧
       (s.pli.latch ≠ none → t.pli.lastCancel = some .unblock ∧ t.pli.cancellations = count16 s.pli.cancellations ∧
         t.sli.events.get .presetCancelled = ⟨true, bump 255 (s.sli.events.get .presetCancelled).count⟩) ∧
       (s.oc.device ≠ .run → t.bdu = s.bdu) ∧
       (s.oc.device = .run → ∀ b, t.bdu.branches.get b =
         if s.causes.get b ≠ .empty ∧ t.causes.get b = .empty then
           { s.bdu.branches.get b with state := .fallback, heldClosures := 0, validClosures := 0, previous := none }
         else s.bdu.branches.get b)))

/-- ARM_PRESET (R159): state and breaker before the ranges; accepted, it arms the latch with the values carried, replacing any it
held, with no event. -/
def Obligations.ArmPresetArms : Prop :=
  ∀ (s : State) (x y z : Half) (k : Byte), Receptive s → s.oc.device ≠ .unset ∨ configured s = false →
    exec (.armPreset x y z k) s = .next
      (if ¬ ((s.oc.device = .acquire ∨ s.oc.device = .run) ∧ (s.pli.inputs.get .furnaceBreaker).debounced = false) then
        answered .armPreset .refusedState (plantReport s) s
       else if x.toNat ≤ 4095 ∧ y.toNat ≤ 4095 ∧ z.toNat ≤ 4095 ∧ 1 ≤ k.toNat then
        let u : State := { s with pli := { s.pli with latch := some ⟨⟨x.toNat, y.toNat, z.toNat⟩, k.toNat⟩ } }
        answered .armPreset .ok (plantReport u) u
       else answered .armPreset .refusedRange (plantReport s) s)

/-- R162: CANCEL_PRESET cancels an ARMED latch with cause CANCEL_PRESET, and changes nothing where it is NOT_ARMED; the reply is OK
with the plant report, and a preset applied to a branch goes on. -/
def Obligations.CancelPresetCancels : Prop :=
  ∀ s : State, Receptive s → s.oc.device ≠ .unset ∨ configured s = false →
    (s.pli.latch = none → exec .cancelPreset s = .next (answered .cancelPreset .ok (plantReport s) s)) ∧
    (s.pli.latch ≠ none →
      let u : State := { s with
        pli := { s.pli with latch := none, lastCancel := some .cancelPreset, cancellations := count16 s.pli.cancellations }
        sli := { s.sli with
          events := s.sli.events.set .presetCancelled ⟨true, bump 255 (s.sli.events.get .presetCancelled).count⟩ } }
      exec .cancelPreset s = .next (answered .cancelPreset .ok (plantReport u) u))

/-! ## Sample link -/

/-- A frame of the sample link whose header word is in error is discarded whole and counted, whichever kind it was (R21, R198). When
a header word is in error (R21, R198): exactly where the ones of its data and parity bits together are even in number, its kind is
neither 0x9 nor 0x6, bits 11..8 are not 0, or a check header's bits 7..5 are not 0. A data frame older than expected, by 128 to 255,
is discarded: one count, and nothing else (R26). -/
def Obligations.DiscardedFramesAreCounted : Prop :=
  (∀ (s : State) (h : LinkWord) (w : PerQuantity (PerLink LinkWord)), inReset s = false → readHeader h = .error →
     let t : State := { s with slr := { s.slr with
       counters := { s.slr.counters with headerErrors := count32 s.slr.counters.headerErrors } } }
     exec (.dataFrame h w) s = .next t ∧ exec (.checkFrame h w) s = .next t) ∧
  (∀ (d : Half) (p : Bool),
     let ones := ((List.range 16).map fun i => (d.getLsbD i).toNat).sum + p.toNat
     let kind := d.toNat / 4096
     (readHeader ⟨d, p⟩ = .error ↔
       ones % 2 = 0 ∨ (kind ≠ 9 ∧ kind ≠ 6) ∨ d.toNat / 256 % 16 ≠ 0 ∨ (kind = 6 ∧ d.toNat / 32 % 8 ≠ 0)) ∧
     (ones % 2 = 1 → d.toNat / 256 % 16 = 0 →
       (kind = 9 → readHeader ⟨d, p⟩ = .data (BitVec.ofNat 8 (d.toNat % 256))) ∧
       (kind = 6 → d.toNat / 32 % 8 = 0 → readHeader ⟨d, p⟩ = .check (BitVec.ofNat 5 (d.toNat % 32))))) ∧
  (∀ (s : State) (h : LinkWord) (w : PerQuantity (PerLink LinkWord)) (seq e : Byte), inReset s = false →
     readHeader h = .data seq → s.slr.link = .flowing ∨ s.slr.link = .late → s.slr.expected = some e →
     128 ≤ (seq - e).toNat →
     exec (.dataFrame h w) s = .next { s with slr := { s.slr with
       counters := { s.slr.counters with discarded := count32 s.slr.counters.discarded } } })

/-- A data frame that is expected, or 1 to 3 ahead (R22, R24, R27, R37): the missing frames and then the frame itself are delivered,
so the frame index grows by one for each; the next number is expected, the gap counter restarts, LATE returns to FLOWING, and the
frames are counted. No state but the receiver's changes outside ACQUIRE and RUN, the interface's events apart. Each missing frame
counts one held word for each quantity (R24). The frame's block (R31, R34): in the block in progress the frame is counted, up to 8,
and each word added to its channel's sum; that a ninth frame leaves the count at 8 is the model's reading (log entry 18); in another, sums and count begin anew, and a block left unjudged is a check missing where the new
one is entered at its first frame. In RUN a frame that confirms no crossing enters the delay lines, of 48 or 40 frames, and each open
window: the energy by the square of the voltage, the product by the delayed voltage and the current difference, the frame count, and
the held words (R67 to R69). -/
def Obligations.SequentialFrameDelivered : Prop :=
  (∀ (s : State) (h : LinkWord) (w : PerQuantity (PerLink LinkWord)) (seq e : Byte), inReset s = false →
     readHeader h = .data seq → s.slr.link = .flowing ∨ s.slr.link = .late → s.slr.expected = some e →
     (seq - e).toNat ≤ 3 → s.slr.counters.received < 4294967295 → s.slr.counters.patched + 3 ≤ 4294967295 →
     ∃ t, exec (.dataFrame h w) s = .next t ∧
       t.slr.frameIndex = s.slr.frameIndex + BitVec.ofNat 32 ((seq - e).toNat + 1) ∧ t.slr.expected = some (seq + 1) ∧
       t.slr.gap = 0 ∧ t.slr.gapRunning = true ∧ t.slr.link = .flowing ∧ t.slr.primary = s.slr.primary ∧
       t.slr.chains = s.slr.chains ∧ t.slr.tolerance = s.slr.tolerance ∧
       t.slr.counters.received = s.slr.counters.received + 1 ∧
       t.slr.counters.patched = s.slr.counters.patched + (seq - e).toNat ∧
       t.slr.counters.discarded = s.slr.counters.discarded ∧ t.slr.counters.resyncs = s.slr.counters.resyncs ∧
       t.pli.inputs = s.pli.inputs ∧ t.table = s.table ∧ t.vlc.map = s.vlc.map ∧ t.vlc.channels = s.vlc.channels ∧
       (s.oc.device ≠ .acquire → s.oc.device ≠ .run →
         t = { s with slr := t.slr, sli := t.sli } ∧ OtherEventsKept [.quantityDiverged] s t)) ∧
  (∀ (s : State) (h : LinkWord) (w : PerQuantity (PerLink LinkWord)) (seq e : Byte) (q : Quantity), inReset s = false →
     readHeader h = .data seq → s.slr.link = .flowing ∨ s.slr.link = .late → s.slr.expected = some e →
     (seq - e).toNat ≤ 3 → parityGood ((w.get q).get s.slr.primary) = true → s.slr.counters.heldWords.get q + 3 ≤ 4294967295 →
     ∃ t, exec (.dataFrame h w) s = .next t ∧
       t.slr.counters.heldWords.get q = s.slr.counters.heldWords.get q + (seq - e).toNat ∧
       (t.slr.quantities.get q).lastUsed = ((w.get q).get s.slr.primary).data) ∧
  (∀ (s : State) (h : LinkWord) (w : PerQuantity (PerLink LinkWord)) (e : Byte), inReset s = false →
     readHeader h = .data e → s.slr.link = .flowing ∨ s.slr.link = .late → s.slr.expected = some e →
     s.slr.block.received ≤ 8 →
     let block : BitVec 5 := BitVec.ofNat 5 (e.toNat / 8)
     let first := e.toNat % 8 = 0
     ∃ t, exec (.dataFrame h w) s = .next t ∧ t.slr.block.index = some block ∧
       (s.slr.block.index = some block → t.slr.block.received = min 8 (s.slr.block.received + 1) ∧
         t.slr.block.judged = s.slr.block.judged ∧
         (∀ q c, (t.slr.block.sums.get q).get c = (s.slr.block.sums.get q).get c ^^^ ((w.get q).get c).data) ∧
         t.slr.counters.checkMissing = s.slr.counters.checkMissing) ∧
       (s.slr.block.index ≠ some block → t.slr.block.received = 1 ∧ t.slr.block.judged = false ∧
         (∀ q c, (t.slr.block.sums.get q).get c = ((w.get q).get c).data) ∧
         t.slr.counters.checkMissing = if first ∧ s.slr.block.index ≠ none ∧ s.slr.block.judged = false
           then count32 s.slr.counters.checkMissing else s.slr.counters.checkMissing)) ∧
  (∀ (s : State) (h : LinkWord) (w : PerQuantity (PerLink LinkWord)) (n : Nominal), Expected s h → s.oc.device = .run →
     s.ct.nominal = some n → (∀ b, Quiet s w b) →
     let full := decide ((if n = .hz50 then 48 else 40) ≤ s.bdu.lines.length)
     let u (q : Quantity) : Int := (usedValue s.slr q (w.get q)).toInt
     ∃ t, exec (.dataFrame h w) s = .next t ∧ t.oc = s.oc ∧
       t.bdu.lines = (if full = true then s.bdu.lines.tail else s.bdu.lines) ++
         [⟨⟨voltageIn s w .ab, voltageIn s w .bc, voltageIn s w .ca⟩, s.slr.frameIndex + 1⟩] ∧
       ∀ b : Branch,
         let delayed : Int := if full = true then (s.bdu.lines.head?.map fun e => (e.voltages.get b).toInt).getD 0 else 0
         let held := ([b.voltage, b.currentFrom, b.currentTo].filter fun q => isHeld s.slr (w.get q)).length
         let fed (x : Window) : Window := { x with
           energy := x.energy + (u b.voltage * u b.voltage).toNat
           product := x.product + delayed * (u b.currentFrom - u b.currentTo)
           frames := bump 255 x.frames, held := min 255 (x.held + held), filling := x.filling || !full }
         t.bdu.branches.get b = { s.bdu.branches.get b with window := (s.bdu.branches.get b).window.map fed })

/-- A jump of 4 to 127, and a new start from LOST (R23, R25): the frame is delivered alone on its own number, one resync is counted,
LINK_RESYNC is raised, and in RUN the delay lines hold that frame alone and the windows that stay open carry the mark RESYNC. The
first data frame after a reset (R23): a new start from SILENT, which raises no event and orders no flush. -/
def Obligations.ResyncAndNewStart : Prop :=
  (∀ (s : State) (h : LinkWord) (w : PerQuantity (PerLink LinkWord)) (seq : Byte), inReset s = false →
     readHeader h = .data seq →
     ((∃ e, s.slr.expected = some e ∧ (s.slr.link = .flowing ∨ s.slr.link = .late) ∧ 4 ≤ (seq - e).toNat ∧
         (seq - e).toNat ≤ 127) ∨ s.slr.link = .lost) →
     ∃ t, exec (.dataFrame h w) s = .next t ∧ t.slr.frameIndex = s.slr.frameIndex + 1 ∧
       t.slr.expected = some (seq + 1) ∧ t.slr.link = .flowing ∧ t.slr.gap = 0 ∧
       t.slr.block.index = some (blockOf seq) ∧ t.slr.block.received = 1 ∧ t.slr.block.judged = false ∧
       t.slr.counters.resyncs = count32 s.slr.counters.resyncs ∧
       t.slr.counters.checkMissing = s.slr.counters.checkMissing ∧
       t.slr.counters.newStarts =
         (if s.slr.link = .lost then count32 s.slr.counters.newStarts else s.slr.counters.newStarts) ∧
       (t.sli.events.get .linkResync).flag = true ∧
       (t.sli.events.get .linkResync).count = bump 255 (s.sli.events.get .linkResync).count ∧
       (s.oc.device ≠ .run → t.bdu.lines = []) ∧
       (s.oc.device = .run → t.oc.device = .run ∧
         t.bdu.lines = [⟨⟨t.slr.quantities.get .vab |>.lastUsed, t.slr.quantities.get .vbc |>.lastUsed,
           t.slr.quantities.get .vca |>.lastUsed⟩, t.slr.frameIndex⟩] ∧
         ∀ b x, (s.bdu.branches.get b).window = some x →
           ∃ y, (t.bdu.branches.get b).window = some y ∧ y.gapMark = some .resync ∧ y.frames = bump 255 x.frames)) ∧
  (∀ (s : State) (h : LinkWord) (w : PerQuantity (PerLink LinkWord)) (seq : Byte), inReset s = false →
     readHeader h = .data seq → s.slr.link = .silent → s.oc.device ≠ .acquire → s.oc.device ≠ .run →
     (∀ q, (s.slr.quantities.get q).mismatchRun < 63) →
     ∃ t, exec (.dataFrame h w) s = .next t ∧ t = { s with slr := t.slr } ∧ t.slr.link = .flowing ∧
       t.slr.frameIndex = s.slr.frameIndex + 1 ∧ t.slr.expected = some (seq + 1) ∧
       t.slr.counters.newStarts = count32 s.slr.counters.newStarts ∧ t.slr.counters.resyncs = s.slr.counters.resyncs ∧
       t.slr.block.index = some (blockOf seq) ∧ t.slr.block.received = 1)

/-- Word selection in a frame that is expected (R28): the primary word if its parity is good; else the secondary word, if its
channel is not FAILED and its parity is good; else the last used value again. Each damaged word is counted for its channel, a
substitution and a held word for the quantity. The compare check of a quantity in a frame that is expected (R29, R30): no comparison
leaves the runs; a mismatch adds to one run and clears the other, an agreement the other way, each stopping at 64; DIVERGED is set
when the mismatch run reaches 64 and cleared when the agreement run does; each setting of it is counted for the quantity and raises
QUANTITY_DIVERGED. -/
def Obligations.WordsSelectedAndCompared : Prop :=
  (∀ (s : State) (h : LinkWord) (w : PerQuantity (PerLink LinkWord)) (e : Byte) (q : Quantity), inReset s = false →
     readHeader h = .data e → s.slr.link = .flowing ∨ s.slr.link = .late → s.slr.expected = some e →
     let p := s.slr.primary
     let first := (w.get q).get p
     let second := (w.get q).get p.other
     ∃ t, exec (.dataFrame h w) s = .next t ∧
       (parityGood first = true → (t.slr.quantities.get q).lastUsed = first.data ∧
         t.slr.counters.substitutions.get q = s.slr.counters.substitutions.get q ∧
         t.slr.counters.heldWords.get q = s.slr.counters.heldWords.get q) ∧
       (parityGood first = false → (s.slr.chains.get p.other).status ≠ .failed → parityGood second = true →
         (t.slr.quantities.get q).lastUsed = second.data ∧
         t.slr.counters.substitutions.get q = count32 (s.slr.counters.substitutions.get q) ∧
         t.slr.counters.heldWords.get q = s.slr.counters.heldWords.get q) ∧
       (parityGood first = false → ((s.slr.chains.get p.other).status = .failed ∨ parityGood second = false) →
         (t.slr.quantities.get q).lastUsed = (s.slr.quantities.get q).lastUsed ∧
         t.slr.counters.substitutions.get q = s.slr.counters.substitutions.get q ∧
         t.slr.counters.heldWords.get q = count32 (s.slr.counters.heldWords.get q))) ∧
  (∀ (s : State) (h : LinkWord) (w : PerQuantity (PerLink LinkWord)) (e : Byte) (q : Quantity), inReset s = false →
     readHeader h = .data e → s.slr.link = .flowing ∨ s.slr.link = .late → s.slr.expected = some e →
     let r := s.slr.quantities.get q
     let a := (w.get q).get .a
     let b := (w.get q).get .b
     let made := parityGood a = true ∧ parityGood b = true ∧ (s.slr.chains.get .a).status ≠ .failed ∧
       (s.slr.chains.get .b).status ≠ .failed ∧ s.slr.tolerance ≠ 0
     let apart := (s.slr.tolerance : Int) < |a.data.toInt - b.data.toInt|
     ∃ t, exec (.dataFrame h w) s = .next t ∧
       (¬ made → (r.mismatchRun = 64 → r.diverged = true) → (r.agreementRun = 64 → r.diverged = false) →
         (t.slr.quantities.get q).mismatchRun = r.mismatchRun ∧ (t.slr.quantities.get q).agreementRun = r.agreementRun ∧
         (t.slr.quantities.get q).diverged = r.diverged) ∧
       (made → apart → r.mismatchRun ≤ 64 →
         (t.slr.quantities.get q).mismatchRun = min 64 (r.mismatchRun + 1) ∧ (t.slr.quantities.get q).agreementRun = 0 ∧
         (t.slr.quantities.get q).diverged = (r.diverged || decide (63 ≤ r.mismatchRun))) ∧
       (made → ¬ apart → r.agreementRun ≤ 64 →
         (t.slr.quantities.get q).mismatchRun = 0 ∧ (t.slr.quantities.get q).agreementRun = min 64 (r.agreementRun + 1) ∧
         (t.slr.quantities.get q).diverged = (r.diverged && decide (r.agreementRun < 63)))) ∧
  (∀ (s : State) (h : LinkWord) (w : PerQuantity (PerLink LinkWord)) (c : LinkChannel), Expected s h →
     s.slr.counters.parityErrors.get c ≤ 4294967295 →
     ∃ t, exec (.dataFrame h w) s = .next t ∧
       t.slr.counters.parityErrors.get c = min 4294967295 (s.slr.counters.parityErrors.get c +
         (Quantity.all.filter fun q => !parityGood ((w.get q).get c)).length)) ∧
  (∀ (s : State) (h : LinkWord) (w : PerQuantity (PerLink LinkWord)), Expected s h →
     (∀ q, (s.slr.quantities.get q).mismatchRun ≤ 64) →
     (∀ q, (s.slr.quantities.get q).mismatchRun = 64 → (s.slr.quantities.get q).diverged = true) →
     (s.sli.events.get .quantityDiverged).count ≤ 255 →
     let diverges (q : Quantity) : Bool :=
       compared s.slr (w.get q) && !(s.slr.quantities.get q).diverged && decide (63 ≤ (s.slr.quantities.get q).mismatchRun) &&
         decide ((s.slr.tolerance : Int) < |((w.get q).get .a).data.toInt - ((w.get q).get .b).data.toInt|)
     let many := (Quantity.all.filter diverges).length
     ∃ t, exec (.dataFrame h w) s = .next t ∧
       (∀ q, t.slr.counters.divergences.get q = if diverges q = true then count32 (s.slr.counters.divergences.get q)
         else s.slr.counters.divergences.get q) ∧
       (t.sli.events.get .quantityDiverged).count = min 255 ((s.sli.events.get .quantityDiverged).count + many) ∧
       (many = 0 → (t.sli.events.get .quantityDiverged).flag = (s.sli.events.get .quantityDiverged).flag) ∧
       (many ≠ 0 → (t.sli.events.get .quantityDiverged).flag = true))

/-- A check frame (R32, R33, R35): discarded and counted where it judges nothing; otherwise the block is judged. With fewer than 8
frames it is unverified; with 8, each channel that is not FAILED passes to GOOD with count 0 or its count grows, and at 4 it is
FAILED; a FAILED primary gives way to a secondary that is not. Each failed block is counted for its channel with BLOCK_CHECK_ERROR,
each channel that fails with CHANNEL_FAILED, and a switch of the primary with PRIMARY_SWITCHED. -/
def Obligations.CheckFrameJudgesTheBlock : Prop :=
  (∀ (s : State) (h : LinkWord) (w : PerQuantity (PerLink LinkWord)) (i : BitVec 5), inReset s = false →
     readHeader h = .check i → ChainsAgree s →
     let idle := s.slr.block.index ≠ some i ∨ s.slr.block.judged = true ∨ ∃ q c, parityGood ((w.get q).get c) = false
     (idle → exec (.checkFrame h w) s = .next { s with slr := { s.slr with
       counters := { s.slr.counters with checkDiscarded := count32 s.slr.counters.checkDiscarded } } }) ∧
     (¬ idle → s.slr.block.received ≠ 8 → exec (.checkFrame h w) s = .next { s with slr := { s.slr with
       block := { s.slr.block with judged := true }
       counters := { s.slr.counters with unverified := count32 s.slr.counters.unverified } } }) ∧
     (¬ idle → s.slr.block.received = 8 → ∃ t, exec (.checkFrame h w) s = .next t ∧
       t = { s with slr := t.slr, sli := t.sli } ∧ t.slr.block = { s.slr.block with judged := true } ∧
       t.slr.counters.verified = count32 s.slr.counters.verified ∧
       t.slr.quantities = s.slr.quantities ∧ t.slr.frameIndex = s.slr.frameIndex ∧ t.slr.link = s.slr.link ∧
       (∀ c, t.slr.chains.get c =
         let x := s.slr.chains.get c
         if x.failedRun = 4 then x
         else if ∀ q ∈ Quantity.all, (s.slr.block.sums.get q).get c = ((w.get q).get c).data then ⟨.good, 0⟩
         else ⟨if x.failedRun = 3 then .failed else .suspect, x.failedRun + 1⟩) ∧
       t.slr.primary =
         (if (t.slr.chains.get s.slr.primary).status = .failed ∧ (t.slr.chains.get s.slr.primary.other).status ≠ .failed
          then s.slr.primary.other else s.slr.primary) ∧
       OtherEventsKept [.blockCheckError, .channelFailed, .primarySwitched] s t)) ∧
  (∀ (s : State) (h : LinkWord) (w : PerQuantity (PerLink LinkWord)) (i : BitVec 5), inReset s = false →
     readHeader h = .check i → ChainsAgree s → s.slr.block.index = some i → s.slr.block.judged = false →
     (∀ q c, parityGood ((w.get q).get c) = true) → s.slr.block.received = 8 → EventCountsBounded s →
     s.slr.counters.channelFailures ≤ 4294967293 →
     let fails (c : LinkChannel) : Bool := (s.slr.chains.get c).failedRun != 4 &&
       Quantity.all.any fun q => (s.slr.block.sums.get q).get c != ((w.get q).get c).data
     let dies (c : LinkChannel) : Bool := fails c && (s.slr.chains.get c).failedRun == 3
     let failing := (LinkChannel.all.filter fails).length
     let dying := (LinkChannel.all.filter dies).length
     ∃ t, exec (.checkFrame h w) s = .next t ∧
       (∀ c, t.slr.counters.failedBlocks.get c =
         if fails c = true then count32 (s.slr.counters.failedBlocks.get c) else s.slr.counters.failedBlocks.get c) ∧
       t.slr.counters.channelFailures = s.slr.counters.channelFailures + dying ∧
       (t.sli.events.get .blockCheckError).count = min 255 ((s.sli.events.get .blockCheckError).count + failing) ∧
       (t.sli.events.get .channelFailed).count = min 255 ((s.sli.events.get .channelFailed).count + dying) ∧
       (t.slr.primary ≠ s.slr.primary → t.slr.counters.primarySwitches = count32 s.slr.counters.primarySwitches ∧
         t.sli.events.get .primarySwitched = ⟨true, bump 255 (s.sli.events.get .primarySwitched).count⟩) ∧
       (t.slr.primary = s.slr.primary → t.slr.counters.primarySwitches = s.slr.counters.primarySwitches ∧
         t.sli.events.get .primarySwitched = s.sli.events.get .primarySwitched))

/-- The gap counter's three marks (R36, R37), each reached with the counter running below it. That the command brings the counter to
its mark from below is the model's choice (log entry 3). -/
def Obligations.GapMarks : Prop :=
  ∀ s : State, inReset s = false → s.slr.gapRunning = true →
    (s.slr.gap < 3 → s.slr.link = .flowing → exec .linkLate s = .next { s with
      slr := { s.slr with
        gap := 3, link := .late, counters := { s.slr.counters with lateEntries := count32 s.slr.counters.lateEntries } }
      sli := { s.sli with
        events := s.sli.events.set .linkLate ⟨true, bump 255 (s.sli.events.get .linkLate).count⟩ } }) ∧
    (3 ≤ s.slr.gap → s.slr.gap < 12 → ∃ t, exec .measGap s = .next t ∧
      t = { s with slr := { s.slr with gap := 12 }, bdu := { s.bdu with branches := t.bdu.branches } } ∧
      ∀ b, let marked (x : Window) : Window :=
          { x with gapMark := if x.gapMark = some .resync then some .resync else some .measGap }
        t.bdu.branches.get b =
          { s.bdu.branches.get b with window := (s.bdu.branches.get b).window.map marked }) ∧
    (12 ≤ s.slr.gap → s.slr.gap < 48 → s.slr.link = .late → ∃ t, exec .linkLost s = .next t ∧
      t.slr = { s.slr with
        gap := 48, link := .lost, counters := { s.slr.counters with losses := count32 s.slr.counters.losses } } ∧
      t.bdu = { s.bdu with lines := [] } ∧ measurementCondition t.slr = .absent ∧
      t.sli.events.get .linkLost = ⟨true, bump 255 (s.sli.events.get .linkLost).count⟩ ∧
      (s.hr.triggers.getLsbD 4 = false → t.hr = s.hr) ∧
      (s.hr.triggers.getLsbD 4 = true → s.hr.capture = .free → 1 ≤ s.hr.post →
        t.hr.capture = .triggered ∧ t.hr.trigger = some ⟨.linkLost, newestSeq s.hr, s.slr.frameIndex⟩ ∧
        t.hr.remaining = s.hr.post) ∧
      t = { s with slr := t.slr, bdu := t.bdu, hr := t.hr, sli := t.sli })

/-! ## Tracking -/

/-- ACQUIRE_TIMEOUT (R52, R5, R8): in ACQUIRE the device halts with that cause, ACQUIRE_FAILED and HALTED are raised, no trip is
requested, the latch is cancelled, and acquisition is at rest; in any other state nothing happens. That the command brings the
elapsed time to its limit is the model's choice (log entry 3). The crossings before it. A frame that confirms none leaves each voltage
its previous sample and the candidate that R44 and R45 say. A confirmed crossing of VBC or VCA joins the newest two of its voltage
(R47). A confirmed crossing of VAB (R48 to R53): it is counted, its interval joins the newest four, and lock is evaluated by the mode in
force: FIXED by the newest interval, AUTO by four intervals in one band, AUTO_THREE by the phases of VBC and VCA too, whose offset takes the difference of two
frame indices as a signed 32-bit number by the model's reading (R43, R51; log entry 7). Lock enters RUN at
the nominal period with each branch in FALLBACK or BLOCKED and no decision; a reversed phase order halts with PHASE_ORDER; else the
24th crossing halts with ACQUIRE_FAILED. -/
def Obligations.TimeoutHaltsAcquisition : Prop :=
  (∀ s : State, inReset s = false →
     (s.oc.device = .acquire → ∃ t, exec .acquireTimeout s = .next t ∧
       t.oc = ⟨.halted, ⟨.acquireTimeout, none, none, none, some s.slr.frameIndex⟩, false, true, s.oc.lockFrequency⟩ ∧
       t.ct.progress = .empty ∧ t.ct.nominal = none ∧ t.pli.latch = none ∧ (∀ b, BranchIdle t b) ∧
       t.sli.events.get .acquireFailed = ⟨true, bump 255 (s.sli.events.get .acquireFailed).count⟩ ∧
       t.sli.events.get .halted = ⟨true, bump 255 (s.sli.events.get .halted).count⟩ ∧
       OtherEventsKept [.acquireFailed, .halted, .presetCancelled, .captureFrozen] s t ∧
       t.causes = s.causes ∧ t.slr = s.slr ∧ t.table = s.table ∧ t.vlc.map = s.vlc.map ∧ t.hr.ring = s.hr.ring) ∧
     (s.oc.device ≠ .acquire → exec .acquireTimeout s = .next s)) ∧
  (∀ (s : State) (h : LinkWord) (w : PerQuantity (PerLink LinkWord)), Expected s h →
     s.oc.device = .acquire ∨ s.oc.device = .run → (∀ b, Quiet s w b) →
     ∃ t, exec (.dataFrame h w) s = .next t ∧ t.oc = s.oc ∧ t.ct.progress = s.ct.progress ∧
       ∀ b, let x := voltageIn s w b
         let stays (c : Candidate) : Bool :=
           decide ((c.direction = .rising → 0 ≤ x.toInt) ∧ (c.direction = .falling → x.toInt ≤ 0))
         t.ct.tracks.get b = { s.ct.tracks.get b with
           previous := some x, candidate := (candidateAfter s b x.toInt).filter stays }) ∧
  (∀ (s : State) (h : LinkWord) (w : PerQuantity (PerLink LinkWord)) (b : Branch) (c : Candidate), Expected s h →
     s.oc.device = .acquire → b ≠ .ab → Confirms s w b c → (∀ o, o ≠ b → Quiet s w o) →
     ∃ t, exec (.dataFrame h w) s = .next t ∧ t.oc = s.oc ∧
       t.ct.progress = { s.ct.progress with
         vbc := if b = .bc then (c.position :: s.ct.progress.vbc).take 2 else s.ct.progress.vbc
         vca := if b = .ca then (c.position :: s.ct.progress.vca).take 2 else s.ct.progress.vca } ∧
       (t.ct.tracks.get b).candidate = none ∧ (t.ct.tracks.get b).previous = some (voltageIn s w b)) ∧
  (∀ (s : State) (h : LinkWord) (w : PerQuantity (PerLink LinkWord)) (c : Candidate), Expected s h →
     s.oc.device = .acquire → Confirms s w .ab c → (∀ o, o ≠ .ab → Quiet s w o) → s.ct.progress.intervals.length ≤ 4 →
     let p := s.ct.progress
     let since (v : Position) : Int := 16 * ((c.position.frame - v.frame).toNat : Int) + (c.position.fraction - v.fraction)
     let newest (l : List Int) : List Int := l.drop (l.length - 4)
     let intervals := newest (p.intervals ++ (p.previousVab.map since).toList)
     let near (i j : Int) (by_ : Nat) : Bool := decide (i - j ≤ by_ ∧ j - i ≤ by_)
     let band (x : Int) : Bool := intervals.length == 4 && intervals.all (fun i => near i x 32) &&
       ((intervals.zip intervals.tail).all fun ij => near ij.1 ij.2 16)
     let pm : Int := intervals.sum / 4
     let offset (q : Position) : Int :=
       (16 * (q.frame - c.position.frame).toInt + (q.fraction - c.position.fraction)) % pm
     let both (l : List Position) (x : Int) : Bool := l.length == 2 && l.all fun q => near (offset q) x 48
     let inOrder : Bool := both p.vbc (2 * pm / 3) && both p.vca (pm / 3)
     let reversed : Bool := both p.vbc (pm / 3) && both p.vca (2 * pm / 3)
     let fixed (x : Int) : Bool := (intervals.getLast?.map fun i => near i x 64).getD false
     ∃ t, exec (.dataFrame h w) s = .next t ∧
       let locks (n : Nominal) : Prop :=
         t.oc = { s.oc with device := .run, lockFrequency := some n, fallbackActive := true } ∧ t.ct.nominal = some n ∧
         t.ct.progress = .empty ∧ t.bdu.lines = [] ∧
         t.sli.events.get .acquireDone = ⟨true, bump 255 (s.sli.events.get .acquireDone).count⟩ ∧
         ∀ b, (t.ct.tracks.get b).period = some (if n = .hz50 then 1536 else 1280) ∧ (t.ct.tracks.get b).counter = none ∧
           (t.ct.tracks.get b).sync = .waiting ∧ (t.ct.tracks.get b).polarity = none ∧
           (t.bdu.branches.get b).state = (if s.causes.get b = .empty then .fallback else .blocked) ∧
           (t.bdu.branches.get b).decision = none
       let halts (x : HaltCause) : Prop :=
         t.oc = ⟨.halted, ⟨x, none, none, none, some (s.slr.frameIndex + 1)⟩, false, true, s.oc.lockFrequency⟩ ∧
         t.ct.progress = .empty ∧
         t.sli.events.get .acquireFailed = ⟨true, bump 255 (s.sli.events.get .acquireFailed).count⟩
       let goesOn : Prop :=
         (24 ≤ p.crossings + 1 → halts .acquireFailed) ∧
         (p.crossings + 1 < 24 → t.oc = s.oc ∧ t.ct.progress = { p with
           crossings := p.crossings + 1, intervals := intervals, previousVab := some c.position })
       (s.ct.settings.mode = .fixed50 → (fixed 1536 = true → locks .hz50) ∧ (fixed 1536 = false → goesOn)) ∧
       (s.ct.settings.mode = .fixed60 → (fixed 1280 = true → locks .hz60) ∧ (fixed 1280 = false → goesOn)) ∧
       (s.ct.settings.mode = .autoSingle → (band 1536 = true → locks .hz50) ∧ (band 1280 = true → locks .hz60) ∧
         (band 1536 = false → band 1280 = false → goesOn)) ∧
       (s.ct.settings.mode = .autoThree →
         (inOrder = true → (band 1536 = true → locks .hz50) ∧ (band 1280 = true → locks .hz60)) ∧
         (inOrder = false → reversed = true → band 1536 = true ∨ band 1280 = true → halts .phaseOrder) ∧
         (band 1536 = false → band 1280 = false → goesOn) ∧ (inOrder = false → reversed = false → goesOn)))

/-- A synthesised closure (R61) of a started branch with no mark of its half-cycle still to come and its limit not reached: the
counter stands at W, the polarity flips, P stays, the last accepted position is forgotten, both counts grow, and
CROSSING_SYNTHESIZED is raised. The outcome of the ended half-cycle stands in the record, which takes the next number. The ended
window is judged and the branch moves and decides by it: its items after the closure are those of BranchMovesAtClosure's
`closedDemand` with the next window open and empty, and the record holds that window, its code, demand and mean square, the move and the
decision (R72, R90, R167), whatever delay is armed and transaction open. A transaction open
at the closure ends as MISFIRE once a guard has expired, and as OVERTAKEN otherwise (R127). A delay still armed
is reached first (R110): a due group that is not ready settles the half-cycle NOT_READY. The readiness passes on: the group due
next is ready by its early credit, which is spent, and the other is not (R118); the new delay is armed, or is NO_ORDER at 2048 (R107,
R109). That the command brings the counter to its top is the model's choice (log entry 3). -/
def Obligations.CrossingIsSynthesized : Prop :=
  (∀ (s : State) (b : Branch) (a : AngleCounter) (p : Polarity), inReset s = false → s.oc.device = .run →
     (s.ct.tracks.get b).counter = some a → (s.ct.tracks.get b).polarity = some p →
     (s.vlc.firing.get b).armed = none → (s.vlc.firing.get b).transaction = none → s.hr.capture = .free →
     s.hr.triggers = 0 → wrapsNow s.hr = false →
     (s.ct.tracks.get b).synthesisedRun + 1 < s.ct.settings.limit →
     ∃ t r, exec (.crossingSynthesized b) s = .next t ∧ t.oc.device = .run ∧
       t.ct.tracks.get b = { s.ct.tracks.get b with
         counter := some ⟨s.ct.settings.halfWidth, 0⟩, polarity := some (flipPolarity p), lastAccepted := none
         synthesisedRun := (s.ct.tracks.get b).synthesisedRun + 1
         synthesised := count32 (s.ct.tracks.get b).synthesised } ∧
       (∀ c, c ≠ b → t.ct.tracks.get c = s.ct.tracks.get c ∧ t.bdu.branches.get c = s.bdu.branches.get c) ∧
       (t.sli.events.get .crossingSynthesized).count = bump 255 (s.sli.events.get .crossingSynthesized).count ∧
       t.hr.ring.getLast? = some r ∧ r.seq = s.hr.nextSeq ∧ t.hr.nextSeq = s.hr.nextSeq + 1 ∧ r.branch = b ∧
       r.kind = .synthesized ∧ r.ended = p ∧ r.frameIndex = s.slr.frameIndex ∧
       r.outcome = ((s.vlc.firing.get b).outcome.map (·.outcome)).getD .noOrder ∧
       (t.bdu.branches.get b).decision = some ⟨r.susceptance, r.delay⟩ ∧ r.state = (t.bdu.branches.get b).state ∧
       (t.bdu.branches.get b).window = some ⟨0, 0, 0, 0, none, false, false⟩ ∧ t.slr = s.slr ∧ t.pli = s.pli ∧
       t.causes = s.causes ∧ t.table = s.table) ∧
  (∀ (s : State) (b : Branch) (a : AngleCounter) (p : Polarity) (x : Transaction), inReset s = false → s.oc.device = .run →
     (s.ct.tracks.get b).counter = some a → (s.ct.tracks.get b).polarity = some p →
     (s.vlc.firing.get b).armed = none → (s.ct.tracks.get b).synthesisedRun + 1 < s.ct.settings.limit →
     s.hr.triggers = 0 → s.hr.capture = .free → wrapsNow s.hr = false →
     (s.vlc.firing.get b).transaction = some x →
     2048 + s.ct.settings.halfWidth ≤ x.guardEnd + (if x.phase = .retryGap then 8 else 0) →
     (s.vlc.groups.get x.group).misfireRun + 1 < s.vlc.settings.misfireLimit →
     let overtaken := x.phase = .waiting ∧ x.attempts ≤ 1
     let old := s.vlc.groups.get x.group
     ∃ t, exec (.crossingSynthesized b) s = .next t ∧ t.oc.device = .run ∧
       (∃ r, t.hr.ring.getLast? = some r ∧ r.outcome = (if overtaken then .overtaken else .misfire) ∧
         r.attempts = some x.attempts ∧ r.ended = p) ∧
       (overtaken → (t.vlc.groups.get x.group).counters.overtaken = count16 old.counters.overtaken ∧
         (t.vlc.groups.get x.group).misfireRun = old.misfireRun ∧
         t.sli.events.get .misfire = s.sli.events.get .misfire) ∧
       (¬ overtaken → (t.vlc.groups.get x.group).counters.misfires = count16 old.counters.misfires ∧
         (t.vlc.groups.get x.group).misfireRun = old.misfireRun + 1 ∧
         t.sli.events.get .misfire = ⟨true, bump 255 (s.sli.events.get .misfire).count⟩) ∧
       (t.vlc.groups.get x.group).failure = old.failure ∧ (t.vlc.firing.get b).transaction = none) ∧
  (∀ (s : State) (b : Branch) (a : AngleCounter) (p : Polarity), inReset s = false → s.oc.device = .run →
     (s.ct.tracks.get b).counter = some a → (s.ct.tracks.get b).polarity = some p →
     (s.vlc.firing.get b).armed = none → (s.ct.tracks.get b).synthesisedRun + 1 < s.ct.settings.limit →
     s.hr.triggers = 0 → (s.vlc.firing.get b).transaction = none → TableComplete s →
     s.ct.settings.halfWidth ≤ 512 →
     let due := s.vlc.groups.get (dueGroup b (flipPolarity p))
     ∃ t d, exec (.crossingSynthesized b) s = .next t ∧ (t.bdu.branches.get b).decision = some d ∧
       t.vlc.groups.get (dueGroup b (flipPolarity p)) = { due with ready := due.credit, credit := false } ∧
       t.vlc.groups.get (dueGroup b p) = { s.vlc.groups.get (dueGroup b p) with ready := false, credit := false } ∧
       t.vlc.firing.get b = (if d.delay = 2048 then ⟨none, some ⟨.noOrder, none⟩, none⟩ else ⟨some d.delay, none, none⟩) ∧
       t.vlc.channels = s.vlc.channels) ∧
  (∀ (s : State) (b : Branch) (a : AngleCounter) (p : Polarity) (d : Nat), inReset s = false → s.oc.device = .run →
     (s.ct.tracks.get b).counter = some a → (s.ct.tracks.get b).polarity = some p →
     a.count < 2048 + s.ct.settings.halfWidth → d < 2048 + s.ct.settings.halfWidth →
     (s.vlc.firing.get b).armed = some d → (s.vlc.firing.get b).transaction = none →
     (s.vlc.groups.get (dueGroup b p)).ready = false →
     (s.ct.tracks.get b).synthesisedRun + 1 < s.ct.settings.limit → s.hr.triggers = 0 → s.hr.capture = .free →
     wrapsNow s.hr = false →
     ∃ t r, exec (.crossingSynthesized b) s = .next t ∧ t.oc.device = .run ∧ t.hr.ring.getLast? = some r ∧
       r.outcome = .notReady ∧ r.attempts = none ∧ t.vlc.channels = s.vlc.channels ∧
       (t.vlc.groups.get (dueGroup b p)).counters.notReady = count16 (s.vlc.groups.get (dueGroup b p)).counters.notReady) ∧
  (∀ (s : State) (b : Branch) (a : AngleCounter) (p : Polarity), inReset s = false → s.oc.device = .run →
     (s.ct.tracks.get b).counter = some a → (s.ct.tracks.get b).polarity = some p →
     (s.ct.tracks.get b).synthesisedRun + 1 < s.ct.settings.limit →
     (∀ g, (s.vlc.groups.get g).misfireRun + 1 < s.vlc.settings.misfireLimit) →
     ∃ t, exec (.crossingSynthesized b) s = .next t ∧ t.oc.device = .run ∧
       t.bdu.branches.get b = decidedDemand s b .synthesized ∧
       (s.hr.capture = .free → s.hr.triggers = 0 → ∃ r, t.hr.ring.getLast? = some r ∧
         r = decidedRecord s b .synthesized p r.outcome r.attempts))

/-- Sync loss (R62, R6, R8): at the limit, with no other branch reaching its limit in the same moment, the branch is OUT_OF_SYNC with
SYNC in its set, SYNC_LOST and HALTED are raised, the device is HALTED naming the branch, and a trip is requested; the record of the last
closure was stored. Two branches at their limit together: the report of the first halts the device and names the halt, and both are
OUT_OF_SYNC, gain SYNC and raise SYNC_LOST, with both records stored; that both closures come before the halt is the model's reading
(log entry 29). A loss that finds the device HALTED by a sync loss or a valve failure keeps the halt record and still adds SYNC and
raises SYNC_LOST, with no record: that such a command is a moment of the halt itself is the model's choice (log entry 29). That the
command brings the counter to its top is the model's choice (log entry 3). -/
def Obligations.SyncLossHalts : Prop :=
  (∀ (s : State) (b : Branch) (a : AngleCounter), inReset s = false → s.oc.device = .run →
     (s.ct.tracks.get b).counter = some a → (s.vlc.firing.get b).armed = none → (s.vlc.firing.get b).transaction = none →
     s.hr.capture = .free → s.hr.triggers = 0 →
     s.ct.settings.limit ≤ (s.ct.tracks.get b).synthesisedRun + 1 →
     (∀ c, c ≠ b → ∀ y, (s.ct.tracks.get c).counter = some y →
       y.count < 2048 + s.ct.settings.halfWidth ∨ (s.ct.tracks.get c).synthesisedRun + 1 < s.ct.settings.limit) →
     ∃ t, exec (.crossingSynthesized b) s = .next t ∧ t.oc.device = .halted ∧ t.oc.tripRequest = true ∧
       t.oc.fallbackActive = true ∧ t.oc.halt = ⟨.syncLost, some b, none, none, some s.slr.frameIndex⟩ ∧
       (t.ct.tracks.get b).sync = .outOfSync ∧ (t.causes.get b).sync = true ∧
       (∀ c, c ≠ b → t.causes.get c = s.causes.get c ∧ (t.ct.tracks.get c).counter = none) ∧ (∀ c, BranchIdle t c) ∧
       (t.sli.events.get .syncLost).count = bump 255 (s.sli.events.get .syncLost).count ∧
       (t.sli.events.get .halted).count = bump 255 (s.sli.events.get .halted).count ∧
       (t.ct.tracks.get b).synthesisedRun = (s.ct.tracks.get b).synthesisedRun + 1 ∧
       t.hr.nextSeq = s.hr.nextSeq + 1 ∧ t.pli.latch = none) ∧
  (∀ (s : State) (b c o : Branch) (a x : AngleCounter), inReset s = false → s.oc.device = .run → b ≠ c → o ≠ b → o ≠ c →
     (s.ct.tracks.get b).counter = some a → (s.ct.tracks.get c).counter = some x →
     2048 + s.ct.settings.halfWidth ≤ x.count →
     (∀ y, (s.ct.tracks.get o).counter = some y → y.count < 2048 + s.ct.settings.halfWidth) →
     (∀ d, d ≠ o → (s.vlc.firing.get d).armed = none ∧ (s.vlc.firing.get d).transaction = none ∧
       s.ct.settings.limit ≤ (s.ct.tracks.get d).synthesisedRun + 1) →
     s.hr.capture = .free → s.hr.triggers = 0 →
     ∃ t, exec (.crossingSynthesized b) s = .next t ∧
       t.oc = ⟨.halted, ⟨.syncLost, some b, none, none, some s.slr.frameIndex⟩, true, true, s.oc.lockFrequency⟩ ∧
       (∀ d, d ≠ o → (t.ct.tracks.get d).sync = .outOfSync ∧ t.causes.get d = { s.causes.get d with sync := true } ∧
         (t.ct.tracks.get d).synthesisedRun = (s.ct.tracks.get d).synthesisedRun + 1) ∧
       t.causes.get o = s.causes.get o ∧ (t.ct.tracks.get o).synthesisedRun = (s.ct.tracks.get o).synthesisedRun ∧
       (t.sli.events.get .syncLost).count = bump 255 (bump 255 (s.sli.events.get .syncLost).count) ∧
       (t.sli.events.get .crossingSynthesized).count = bump 255 (bump 255 (s.sli.events.get .crossingSynthesized).count) ∧
       (t.sli.events.get .halted).count = bump 255 (s.sli.events.get .halted).count ∧
       t.hr.nextSeq = s.hr.nextSeq + 2 ∧ ∀ d, BranchIdle t d) ∧
  (∀ (s : State) (b : Branch) (p : Polarity), inReset s = false → s.oc.device = .halted →
     s.oc.halt.cause = .syncLost ∨ s.oc.halt.cause = .valveFailed → (s.ct.tracks.get b).polarity = some p →
     (s.ct.tracks.get b).sync ≠ .outOfSync → s.ct.settings.limit ≤ (s.ct.tracks.get b).synthesisedRun + 1 →
     ∃ t, exec (.crossingSynthesized b) s = .next t ∧ t.oc = s.oc ∧
       t.causes = s.causes.set b { s.causes.get b with sync := true } ∧ (t.ct.tracks.get b).sync = .outOfSync ∧
       (t.ct.tracks.get b).synthesisedRun = (s.ct.tracks.get b).synthesisedRun + 1 ∧
       (t.sli.events.get .syncLost).count = bump 255 (s.sli.events.get .syncLost).count ∧
       t.sli.events.get .halted = s.sli.events.get .halted ∧ t.hr.ring = s.hr.ring ∧ t.bdu = s.bdu ∧ t.vlc = s.vlc ∧
       ∀ o, o ≠ b → t.ct.tracks.get o = s.ct.tracks.get o)

/-- The period filter (R58): the estimate moves one eighth of the way, rounded as the rule says, toward the measured interval, and
stays within the nominal half-period ± 128. The crossings in RUN that feed it, each confirmed by a frame that confirms no other. The
start crossing (R55): the counter starts at the latency and the crossing's distance in counts, the branch is IN_SYNC, and a first window
opens with no closure. Below 2048 − W a crossing is rejected and counted (R56). In the window it is accepted (R57 to R60): the interval
from the last accepted crossing moves the period, the window with this frame in it is judged, the branch moves and decides by it, and
the record holds both (R69, R72, R167), an open transaction ends as MISFIRE or OVERTAKEN (R127), the group due by the new polarity takes its credit (R118), and
the new delay is NO_ORDER at 2048, LATE_DECISION at or below the start count, and armed above it (R107, R109); where it is one count
above, R108 leaves the order open and the free value chooses (log entry 30). A counter that stands at 2048 + W has its closure
synthesised before the frame is delivered, judged without it; the frame goes to the new window, and the crossing is rejected (R59,
R69). W is at most 512 in every state a run reaches (R64, BoundsAreKept). The order of the voltages in a frame is the model's (log entry 9). -/
def Obligations.PeriodMovesAnEighth : Prop :=
  (∀ (n p : Nat) (i : Int), 128 ≤ n →
     n - 128 ≤ updatePeriod n p i ∧ updatePeriod n p i ≤ n + 128 ∧
     (∀ x : Int, (n : Int) - 128 ≤ x → x ≤ n + 128 → 8 * (x - p) ≤ i - p + 4 → i - p + 4 < 8 * (x - p) + 8 →
       (updatePeriod n p i : Int) = x)) ∧
  (∀ (s : State) (h : LinkWord) (w : PerQuantity (PerLink LinkWord)) (b : Branch) (c : Candidate) (p : Nat), Expected s h →
     s.oc.device = .run → Confirms s w b c → (∀ o, o ≠ b → Quiet s w o) → (s.ct.tracks.get b).period = some p → (s.ct.tracks.get b).counter = none →
     let begins : Polarity := if c.direction = .rising then .pos else .neg
     let start : Nat := min 2047 (s.ct.settings.latency +
       (16 * ((s.slr.frameIndex + 1 - c.position.frame).toNat : Int) - c.position.fraction).toNat * 2048 / p)
     let seen : Track := { s.ct.tracks.get b with previous := some (voltageIn s w b), candidate := none }
     ∃ t, exec (.dataFrame h w) s = .next t ∧ t.oc = s.oc ∧ t.hr.ring = s.hr.ring ∧ t.vlc.firing = s.vlc.firing ∧
       t.ct.tracks.get b = { seen with
         counter := some ⟨start, 0⟩, polarity := some begins, lastAccepted := some c.position, sync := .inSync } ∧
       (t.bdu.branches.get b).window = some ⟨0, 0, 0, 0, none, false, true⟩ ∧
       (∀ d, (t.vlc.groups.get (b.group d)).ready = false ∧ (t.vlc.groups.get (b.group d)).credit = false)) ∧
  (∀ (s : State) (h : LinkWord) (w : PerQuantity (PerLink LinkWord)) (b : Branch) (c : Candidate) (a : AngleCounter),
     Expected s h → s.oc.device = .run → Confirms s w b c → (∀ o, o ≠ b → Quiet s w o) →
     (s.ct.tracks.get b).counter = some a → a.count + s.ct.settings.halfWidth < 2048 →
     ∃ t, exec (.dataFrame h w) s = .next t ∧ t.oc = s.oc ∧ t.vlc = s.vlc ∧ t.hr.ring = s.hr.ring ∧
       t.ct.tracks.get b = { s.ct.tracks.get b with
         previous := some (voltageIn s w b), candidate := none, rejected := count32 (s.ct.tracks.get b).rejected } ∧
       t.sli.events.get .crossingRejected = ⟨true, bump 255 (s.sli.events.get .crossingRejected).count⟩) ∧
  (∀ (s : State) (h : LinkWord) (w : PerQuantity (PerLink LinkWord)) (b : Branch) (c : Candidate) (p : Nat) (a : AngleCounter)
     (ended : Polarity), Expected s h →
     s.oc.device = .run → Confirms s w b c → (∀ o, o ≠ b → Quiet s w o) → (s.ct.tracks.get b).period = some p → (s.ct.tracks.get b).counter = some a →
     2048 ≤ a.count + s.ct.settings.halfWidth → a.count < 2048 + s.ct.settings.halfWidth →
     (s.ct.tracks.get b).polarity = some ended → (s.vlc.firing.get b).transaction = none → s.hr.capture = .free →
     s.hr.triggers = 0 → wrapsNow s.hr = false → TableComplete s →
     let begins : Polarity := if c.direction = .rising then .pos else .neg
     let start : Nat := min 2047 (s.ct.settings.latency +
       (16 * ((s.slr.frameIndex + 1 - c.position.frame).toNat : Int) - c.position.fraction).toNat * 2048 / p)
     let seen : Track := { s.ct.tracks.get b with previous := some (voltageIn s w b), candidate := none }
     let due := dueGroup b begins
     let other := dueGroup b (flipPolarity begins)
     ∃ t, exec (.dataFrame h w) s = .next t ∧ t.oc.device = .run ∧
       (let k := t.ct.tracks.get b
        k = { seen with
          counter := k.counter, period := k.period, polarity := some begins, lastAccepted := some c.position
          synthesisedRun := 0, accepted := count32 seen.accepted } ∧
        (seen.lastAccepted = none → k.period = some p) ∧
        (∀ l, seen.lastAccepted = some l → k.period = some (updatePeriod (if s.ct.nominal = some .hz60 then 1280 else 1536) p
          (16 * ((c.position.frame - l.frame).toNat : Int) + (c.position.fraction - l.fraction))))) ∧
       (t.vlc.groups.get due).ready = (s.vlc.groups.get due).credit ∧ (t.vlc.groups.get due).credit = false ∧
       (t.vlc.groups.get other).ready = false ∧ (t.vlc.groups.get other).credit = false ∧
       (t.bdu.branches.get b).window = some ⟨0, 0, 0, 0, none, false, false⟩ ∧ t.hr.nextSeq = s.hr.nextSeq + 1 ∧
       ∃ r, t.hr.ring.getLast? = some r ∧ r.seq = s.hr.nextSeq ∧ r.branch = b ∧ r.kind = .accepted ∧ r.ended = ended ∧
         r.frameIndex = s.slr.frameIndex + 1 ∧ r.outcome = ((s.vlc.firing.get b).outcome.map (·.outcome)).getD .noOrder ∧
         (t.bdu.branches.get b).decision = some ⟨r.susceptance, r.delay⟩ ∧ r.state = (t.bdu.branches.get b).state ∧
         (let armed := t.vlc.firing.get b = ⟨some r.delay, none, none⟩ ∧ (t.ct.tracks.get b).counter = some ⟨start, 0⟩ ∧
            t.sli.events.get .lateDecision = s.sli.events.get .lateDecision
          let late (at_ : Nat) := t.vlc.firing.get b = ⟨none, some ⟨.lateDecision, none⟩, none⟩ ∧
            (t.ct.tracks.get b).counter = some ⟨at_, 0⟩ ∧
            (t.vlc.groups.get due).counters.lateDecisions = count16 (s.vlc.groups.get due).counters.lateDecisions ∧
            t.sli.events.get .lateDecision = ⟨true, bump 255 (s.sli.events.get .lateDecision).count⟩
          (r.delay = 2048 → t.vlc.firing.get b = ⟨none, some ⟨.noOrder, none⟩, none⟩ ∧
            (t.ct.tracks.get b).counter = some ⟨start, 0⟩) ∧
          (r.delay < 2048 → r.delay ≤ start → late start) ∧
          (r.delay < 2048 → start + 1 < r.delay → armed) ∧
          (r.delay < 2048 → r.delay = start + 1 → armed ∨ late r.delay))) ∧
  (∀ (s : State) (h : LinkWord) (w : PerQuantity (PerLink LinkWord)) (b : Branch) (c : Candidate) (a : AngleCounter)
     (ended : Polarity), Expected s h → s.oc.device = .run → Confirms s w b c → (∀ o, o ≠ b → Quiet s w o) →
     (s.ct.tracks.get b).counter = some a → (s.ct.tracks.get b).polarity = some ended →
     2048 + s.ct.settings.halfWidth ≤ a.count → s.ct.settings.halfWidth ≤ 512 → (s.vlc.firing.get b).armed = none →
     (s.vlc.firing.get b).transaction = none → (s.ct.tracks.get b).synthesisedRun + 1 < s.ct.settings.limit →
     ∃ t, exec (.dataFrame h w) s = .next t ∧ t.oc.device = .run ∧
       t.ct.tracks.get b = { s.ct.tracks.get b with
         previous := some (voltageIn s w b), candidate := none
         counter := some ⟨s.ct.settings.halfWidth, 0⟩, polarity := some (flipPolarity ended), lastAccepted := none
         synthesisedRun := (s.ct.tracks.get b).synthesisedRun + 1
         synthesised := count32 (s.ct.tracks.get b).synthesised, rejected := count32 (s.ct.tracks.get b).rejected } ∧
       t.sli.events.get .crossingSynthesized = ⟨true, bump 255 (s.sli.events.get .crossingSynthesized).count⟩ ∧
       t.sli.events.get .crossingRejected = ⟨true, bump 255 (s.sli.events.get .crossingRejected).count⟩) ∧
  (∀ (s : State) (h : LinkWord) (w : PerQuantity (PerLink LinkWord)) (b : Branch) (c : Candidate) (a : AngleCounter)
     (ended : Polarity) (x : Transaction), Expected s h → s.oc.device = .run → Confirms s w b c → (∀ o, o ≠ b → Quiet s w o) →
     (s.ct.tracks.get b).counter = some a → (s.ct.tracks.get b).polarity = some ended →
     2048 ≤ a.count + s.ct.settings.halfWidth → a.count < 2048 + s.ct.settings.halfWidth →
     (s.vlc.firing.get b).transaction = some x → s.hr.capture = .free → s.hr.triggers = 0 → wrapsNow s.hr = false →
     (s.vlc.groups.get x.group).misfireRun + 1 < s.vlc.settings.misfireLimit →
     let overtaken := x.phase = .waiting ∧ x.attempts ≤ 1
     let old := s.vlc.groups.get x.group
     ∃ t r, exec (.dataFrame h w) s = .next t ∧ t.oc.device = .run ∧ t.hr.ring.getLast? = some r ∧ r.branch = b ∧
       r.kind = .accepted ∧ r.ended = ended ∧ r.outcome = (if overtaken then .overtaken else .misfire) ∧
       r.attempts = some x.attempts ∧ (t.vlc.firing.get b).transaction = none ∧ (t.vlc.groups.get x.group).failure = old.failure ∧
       (t.vlc.groups.get x.group).counters.overtaken =
         (if overtaken then count16 old.counters.overtaken else old.counters.overtaken) ∧
       (t.vlc.groups.get x.group).counters.misfires =
         (if overtaken then old.counters.misfires else count16 old.counters.misfires) ∧
       (t.vlc.groups.get x.group).misfireRun = (if overtaken then old.misfireRun else old.misfireRun + 1)) ∧
  (∀ (s : State) (h : LinkWord) (w : PerQuantity (PerLink LinkWord)) (b : Branch) (c : Candidate) (a : AngleCounter)
     (ended : Polarity) (n : Nominal), Expected s h → s.oc.device = .run → s.ct.nominal = some n → Confirms s w b c →
     (∀ o, o ≠ b → Quiet s w o) → (s.ct.tracks.get b).counter = some a → (s.ct.tracks.get b).polarity = some ended →
     2048 ≤ a.count + s.ct.settings.halfWidth → a.count < 2048 + s.ct.settings.halfWidth →
     (∀ g, (s.vlc.groups.get g).misfireRun + 1 < s.vlc.settings.misfireLimit) →
     ∃ t, exec (.dataFrame h w) s = .next t ∧ t.oc.device = .run ∧
       let judged := judgedIn s w n b t.slr
       t.slr.frameIndex = s.slr.frameIndex + 1 ∧ t.bdu.branches.get b = decidedDemand judged b .accepted ∧
       (s.hr.capture = .free → s.hr.triggers = 0 → ∃ r, t.hr.ring.getLast? = some r ∧
         r = decidedRecord judged b .accepted ended r.outcome r.attempts)) ∧
  (∀ (s : State) (h : LinkWord) (w : PerQuantity (PerLink LinkWord)) (b : Branch) (c : Candidate) (a : AngleCounter)
     (ended : Polarity) (n : Nominal), Expected s h → s.oc.device = .run → s.ct.nominal = some n → Confirms s w b c →
     (∀ o, o ≠ b → Quiet s w o) → (s.ct.tracks.get b).counter = some a → (s.ct.tracks.get b).polarity = some ended →
     2048 + s.ct.settings.halfWidth ≤ a.count → s.ct.settings.halfWidth ≤ 512 →
     (s.ct.tracks.get b).synthesisedRun + 1 < s.ct.settings.limit →
     (∀ g, (s.vlc.groups.get g).misfireRun + 1 < s.vlc.settings.misfireLimit) →
     let closed := decidedDemand s b .synthesized
     ∃ t, exec (.dataFrame h w) s = .next t ∧ t.oc.device = .run ∧
       t.slr.frameIndex = s.slr.frameIndex + 1 ∧
       t.bdu.branches.get b = { closed with window := closed.window.map (fedWindow s w n b) } ∧
       (s.hr.capture = .free → s.hr.triggers = 0 → ∃ r, t.hr.ring.getLast? = some r ∧
         r = decidedRecord s b .synthesized ended r.outcome r.attempts))

/-! ## Valve link -/

/-- A frame that fails its check or its codes (R113, R198): one frame error for the channel, and nothing else; its silence timer
runs on. The frames that do not fail (R198), by their bytes: the kind in the first byte's high half, the tag of FIRED and REFUSED in its
low half, a cause of 0 to 3, the fields of STATUS with bits 4 and 3 clear, and the CRC; that the low half is not judged where it is no
tag is the model's reading (log entry 6). SELF_FIRED (R133) from a mapped group is counted and raised, and changes no transaction,
readiness, consecutive count or group state; on a spare it only restarts the channel's timer. -/
def Obligations.ValveErrorsAndSelfFired : Prop :=
  (∀ (s : State) (c : ValveChannel) (bytes : List Byte), inReset s = false → wellFormed (.valveFrameError c bytes) = true →
     let x : ChannelState := { s.vlc.channels.get c with frameErrors := count16 (s.vlc.channels.get c).frameErrors }
     exec (.valveFrameError c bytes) s = .next { s with vlc := { s.vlc with channels := s.vlc.channels.set c x } }) ∧
  (∀ (s : State) (c : ValveChannel), inReset s = false → MapInjective s →
     let awake : ChannelState := { s.vlc.channels.get c with link := .active, silence := 0 }
     let heard := s.vlc.channels.set c awake
     let counted (r : GroupState) : GroupState :=
       { r with counters := { r.counters with selfFired := count16 r.counters.selfFired } }
     ((∀ g, s.vlc.map.get g ≠ c) → exec (.selfFired c) s = .next { s with vlc := { s.vlc with channels := heard } }) ∧
     (∀ g, s.vlc.map.get g = c → ∃ t, exec (.selfFired c) s = .next t ∧
       t.vlc = { s.vlc with
         channels := heard
         groups := s.vlc.groups.set g (counted (s.vlc.groups.get g)) } ∧
       t.sli.events.get .selfFired = ⟨true, bump 255 (s.sli.events.get .selfFired).count⟩ ∧
       (s.hr.triggers.getLsbD 2 = false → t.hr = s.hr ∧ OtherEventsKept [.selfFired] s t) ∧
       SameButValve s t)) ∧
  (∀ (bytes : List Byte) (i : Indication), readIndication bytes = some i ↔
     ∃ (first : Byte) (rest : List Byte), bytes = first :: rest ++ [crc8 (first :: rest)] ∧
       ((i = .fv ∧ first.toNat / 16 = 2 ∧ rest = []) ∨
        (i = .selfFired ∧ first.toNat / 16 = 5 ∧ rest = []) ∨
        (∃ tag : BitVec 4, i = .fired tag ∧ first.toNat = 48 + tag.toNat ∧ rest = []) ∨
        (∃ (tag : BitVec 4) (c : RefusalCause), i = .refused tag c ∧ first.toNat = 64 + tag.toNat ∧
          rest = [BitVec.ofNat 8 (codeRefusal c)]) ∨
        (∃ st : ValveStatus, i = .status st ∧ first.toNat / 16 = 6 ∧
          rest = [BitVec.ofNat 8 (128 * st.coolingOk.toNat + 64 * st.temperatureWarning.toNat + 32 * st.gateSupplyOk.toNat +
            st.failedLevels.toNat)])))

/-- FV (R113, R116, R117): on a spare, or where the branch's counter is stopped, it only restarts the channel's timer; from an
AVAILABLE due group it sets the ready mark; from the group due next it sets the early credit at or above 2048 − W, and below it is a
polarity mismatch. -/
def Obligations.FvMarksReadiness : Prop :=
  ∀ (s : State) (c : ValveChannel), inReset s = false →
    let awake : ChannelState := { s.vlc.channels.get c with link := .active, silence := 0 }
    let heard : ValveControl := { s.vlc with channels := s.vlc.channels.set c awake }
    ((∀ g, s.vlc.map.get g ≠ c) → exec (.fv c) s = .next { s with vlc := heard }) ∧
    (∀ g, s.vlc.map.get g = c → MapInjective s →
      ((s.ct.tracks.get g.branch).counter = none → exec (.fv c) s = .next { s with vlc := heard }) ∧
      (∀ a p, (s.ct.tracks.get g.branch).counter = some a → (s.ct.tracks.get g.branch).polarity = some p →
        let r := s.vlc.groups.get g
        let ready : GroupState := { r with ready := r.ready || r.failure.isNone }
        let credited : GroupState := { r with credit := r.credit || r.failure.isNone }
        let counted : GroupState :=
          { r with counters := { r.counters with polarityMismatches := count16 r.counters.polarityMismatches } }
        let raised := s.sli.events.set .polarityMismatch ⟨true, bump 255 (s.sli.events.get .polarityMismatch).count⟩
        (g = dueGroup g.branch p →
          exec (.fv c) s = .next { s with vlc := { heard with groups := s.vlc.groups.set g ready } }) ∧
        (g ≠ dueGroup g.branch p → 2048 - s.ct.settings.halfWidth ≤ a.count →
          exec (.fv c) s = .next { s with vlc := { heard with groups := s.vlc.groups.set g credited } }) ∧
        (g ≠ dueGroup g.branch p → a.count < 2048 - s.ct.settings.halfWidth →
          exec (.fv c) s = .next { s with
            vlc := { heard with groups := s.vlc.groups.set g counted }
            sli := { s.sli with events := raised } })))

/-- The counter reaches the armed delay (R110, R119 to R121): a ready group of an orderable branch is sent FIRE with its channel's
next tag, and one transaction opens in GUARD; a group that is not ready settles the half-cycle NOT_READY. Without an armed delay
nothing happens. That the command brings a counter below the delay to it is the model's choice (log entry 3). -/
def Obligations.DelayReachedOrdersOrSettles : Prop :=
  ∀ (s : State) (b : Branch) (a : AngleCounter) (p : Polarity) (d : Nat), inReset s = false → s.oc.device = .run →
    (s.ct.tracks.get b).counter = some a → (s.ct.tracks.get b).polarity = some p →
    let g := dueGroup b p
    let c := s.vlc.map.get g
    let tag := (s.vlc.channels.get c).nextTag
    let r := s.vlc.groups.get g
    let at_ : Nat := max a.count d
    let sent : ChannelState := { s.vlc.channels.get c with nextTag := tag + 1, sent := some (fireFrame tag) }
    let ordered : GroupState := { r with counters := { r.counters with orders := count16 r.counters.orders } }
    let notReady : GroupState := { r with counters := { r.counters with notReady := count16 r.counters.notReady } }
    let v := s.vlc.settings
    let opened : Transaction := ⟨g, tag, 1, .waiting, at_ + v.guardTime, v.guardTime, v.retries, v.lastRetry⟩
    ((s.vlc.firing.get b).armed = none → exec (.delayReached b) s = .next s) ∧
    ((s.vlc.firing.get b).armed = some d → r.ready = true → r.failure = none → s.causes.get b = .empty →
      ∃ t, exec (.delayReached b) s = .next t ∧
        t.vlc = { s.vlc with
          channels := s.vlc.channels.set c sent
          groups := s.vlc.groups.set g ordered
          firing := s.vlc.firing.set b ⟨none, (s.vlc.firing.get b).outcome, some opened⟩ } ∧
        t = { s with vlc := t.vlc, ct := t.ct } ∧ t.ct = { s.ct with tracks := t.ct.tracks } ∧
        (∀ x, x ≠ b → t.ct.tracks.get x = s.ct.tracks.get x) ∧
        t.ct.tracks.get b = { s.ct.tracks.get b with counter := some (if a.count < d then ⟨d, 0⟩ else a) }) ∧
    ((s.vlc.firing.get b).armed = some d → r.ready = false →
      ∃ t, exec (.delayReached b) s = .next t ∧
        t.vlc = { s.vlc with
          groups := s.vlc.groups.set g notReady
          firing := s.vlc.firing.set b ⟨none, some ⟨.notReady, none⟩, (s.vlc.firing.get b).transaction⟩ } ∧
        t = { s with vlc := t.vlc, ct := t.ct })

/-- The guard end in phase GUARD (R124, R126): with an attempt left the transaction enters RETRY_GAP; with none it closes as
MISFIRE, counted, raised, and with its attempts held as the outcome; below the misfire limit the group stays as it is, and at it the
group fails with cause MISFIRES and its branch gains VALVE (R126, R134, R146). The retry moment (R125): at or below C_last FIRE goes out
again with the same tag, one retry is counted and the guard runs anew from the count; above it the transaction closes as MISFIRE. That
both commands bring a counter below their mark to it is the model's choice (log entry 3). -/
def Obligations.GuardAndRetry : Prop :=
  (∀ (s : State) (b : Branch) (a : AngleCounter) (x : Transaction), inReset s = false → s.oc.device = .run →
     (s.ct.tracks.get b).counter = some a → (s.vlc.firing.get b).transaction = some x → x.phase = .waiting →
     x.guardEnd ≤ 2048 + s.ct.settings.halfWidth →
     (x.attempts < 1 + x.retries → ∃ t, exec (.guardExpiry b) s = .next t ∧
       (let waits : Firing := { s.vlc.firing.get b with transaction := some { x with phase := .retryGap } }
        t.vlc = { s.vlc with firing := s.vlc.firing.set b waits }) ∧
       t = { s with vlc := t.vlc, ct := t.ct }) ∧
     (1 + x.retries ≤ x.attempts → (s.vlc.groups.get x.group).misfireRun + 1 < s.vlc.settings.misfireLimit →
       s.hr.triggers.getLsbD 0 = false → ∃ t, exec (.guardExpiry b) s = .next t ∧
       (let closed : Firing :=
         { s.vlc.firing.get b with transaction := none, outcome := some ⟨.misfire, some x.attempts⟩ }
        let r := s.vlc.groups.get x.group
        let missed : GroupState :=
         { r with misfireRun := r.misfireRun + 1, counters := { r.counters with misfires := count16 r.counters.misfires } }
        t.vlc = { s.vlc with firing := s.vlc.firing.set b closed, groups := s.vlc.groups.set x.group missed }) ∧
       t.sli = { s.sli with events := s.sli.events.set .misfire ⟨true, bump 255 (s.sli.events.get .misfire).count⟩ } ∧
       t = { s with vlc := t.vlc, ct := t.ct, sli := t.sli })) ∧
  (∀ (s : State) (b : Branch) (a : AngleCounter) (x : Transaction), inReset s = false → s.oc.device = .run →
     (s.ct.tracks.get b).counter = some a → (s.vlc.firing.get b).transaction = some x → x.phase = .retryGap →
     x.group.branch = b → s.causes.get b = .empty → (s.vlc.groups.get x.group).failure = none →
     x.guardEnd + 8 ≤ 2048 + s.ct.settings.halfWidth →
     let at_ : Nat := max a.count (x.guardEnd + 8)
     let c := s.vlc.map.get x.group
     let r := s.vlc.groups.get x.group
     let again : Transaction :=
       { x with attempts := x.attempts + 1, phase := .waiting, guardEnd := at_ + x.guardTime }
     let sent : ChannelState := { s.vlc.channels.get c with sent := some (fireFrame x.tag) }
     let counted : GroupState := { r with counters := { r.counters with retries := count16 r.counters.retries } }
     let goesOn : Firing := { s.vlc.firing.get b with transaction := some again }
     (at_ ≤ x.lastRetry → ∃ t, exec (.retry b) s = .next t ∧
       t.vlc = { s.vlc with
         channels := s.vlc.channels.set c sent
         groups := s.vlc.groups.set x.group counted
         firing := s.vlc.firing.set b goesOn } ∧
       t = { s with vlc := t.vlc, ct := t.ct }) ∧
     (x.lastRetry < at_ → r.misfireRun + 1 < s.vlc.settings.misfireLimit → ∃ t, exec (.retry b) s = .next t ∧
       (t.vlc.firing.get b).transaction = none ∧ (t.vlc.firing.get b).outcome = some ⟨.misfire, some x.attempts⟩ ∧
       t.vlc.channels = s.vlc.channels ∧ (t.vlc.groups.get x.group).misfireRun = r.misfireRun + 1 ∧
       (t.sli.events.get .misfire).count = bump 255 (s.sli.events.get .misfire).count ∧ t.oc = s.oc ∧ t.causes = s.causes)) ∧
  (∀ (s : State) (b : Branch) (a : AngleCounter) (x : Transaction), inReset s = false → s.oc.device = .run →
     (s.ct.tracks.get b).counter = some a → (s.vlc.firing.get b).transaction = some x → x.phase = .waiting →
     x.guardEnd ≤ 2048 + s.ct.settings.halfWidth → 1 + x.retries ≤ x.attempts →
     (s.vlc.groups.get x.group).failure = none →
     s.vlc.settings.misfireLimit ≤ (s.vlc.groups.get x.group).misfireRun + 1 →
     ∃ t, exec (.guardExpiry b) s = .next t ∧
       (t.vlc.groups.get x.group).failure = some .misfires ∧
       (t.vlc.groups.get x.group).misfireRun = (s.vlc.groups.get x.group).misfireRun + 1 ∧
       (t.vlc.groups.get x.group).counters.misfires = count16 (s.vlc.groups.get x.group).counters.misfires ∧
       (t.vlc.groups.get x.group).ready = false ∧ (t.vlc.groups.get x.group).credit = false ∧
       t.causes = s.causes.set x.group.branch { s.causes.get x.group.branch with valve := true } ∧
       (t.vlc.firing.get b).transaction = none ∧
       (t.sli.events.get .misfire).count = bump 255 (s.sli.events.get .misfire).count ∧
       (t.sli.events.get .groupFailed).count = bump 255 (s.sli.events.get .groupFailed).count)

/-- FIRED (R122, R128): with the tag of the open transaction of the channel's group it closes it as FIRED and clears both
consecutive counts, with no event; with no such transaction it is a stray. REFUSED (R123, R128): the open transaction it matches
closes as REFUSED, the cause is kept, counted and raised, and the misfire count stands; at the refusal limit the group fails with
cause REFUSALS and its branch gains VALVE. Without a match it is a stray that leaves the last refusal cause. -/
def Obligations.AnswersCloseOrStray : Prop :=
  (∀ (s : State) (g : Group) (tag : BitVec 4), inReset s = false → MapInjective s →
     let c := s.vlc.map.get g
     let r := s.vlc.groups.get g
     let awake : ChannelState := { s.vlc.channels.get c with link := .active, silence := 0 }
     let heard := s.vlc.channels.set c awake
     let conducts : GroupState :=
       { r with misfireRun := 0, refusalRun := 0, counters := { r.counters with fired := count16 r.counters.fired } }
     let strayed : GroupState := { r with counters := { r.counters with strays := count16 r.counters.strays } }
     let raised := s.sli.events.set .strayAck ⟨true, bump 255 (s.sli.events.get .strayAck).count⟩
     (∀ x, (s.vlc.firing.get g.branch).transaction = some x → x.group = g → x.tag = tag →
       exec (.fired c tag) s = .next { s with vlc := { s.vlc with
         channels := heard
         groups := s.vlc.groups.set g conducts
         firing := s.vlc.firing.set g.branch ⟨(s.vlc.firing.get g.branch).armed, some ⟨.fired, some x.attempts⟩, none⟩ } }) ∧
     ((∀ x, (s.vlc.firing.get g.branch).transaction = some x → x.group ≠ g ∨ x.tag ≠ tag) →
       exec (.fired c tag) s = .next { s with
         vlc := { s.vlc with
           channels := heard
           groups := s.vlc.groups.set g strayed }
         sli := { s.sli with events := raised } })) ∧
  (∀ (s : State) (g : Group) (tag : BitVec 4) (cause : RefusalCause), inReset s = false → MapInjective s →
     let c := s.vlc.map.get g
     let r := s.vlc.groups.get g
     let awake : ChannelState := { s.vlc.channels.get c with link := .active, silence := 0 }
     let heard := s.vlc.channels.set c awake
     let declined : GroupState :=
       { r with lastRefusal := some cause, refusalRun := r.refusalRun + 1,
                counters := { r.counters with refusals := count16 r.counters.refusals } }
     let strayed : GroupState := { r with counters := { r.counters with strays := count16 r.counters.strays } }
     let raised := s.sli.events.set .strayAck ⟨true, bump 255 (s.sli.events.get .strayAck).count⟩
     (∀ x, (s.vlc.firing.get g.branch).transaction = some x → x.group = g → x.tag = tag →
       (r.refusalRun + 1 < s.vlc.settings.refusalLimit →
         exec (.refused c tag cause) s = .next { s with
           vlc := { s.vlc with
             channels := heard
             groups := s.vlc.groups.set g declined
             firing := s.vlc.firing.set g.branch ⟨(s.vlc.firing.get g.branch).armed, some ⟨.refused, some x.attempts⟩, none⟩ }
           sli := { s.sli with
             events := s.sli.events.set .refusal ⟨true, bump 255 (s.sli.events.get .refusal).count⟩ } }) ∧
       (s.vlc.settings.refusalLimit ≤ r.refusalRun + 1 → r.failure = none → ∃ t, exec (.refused c tag cause) s = .next t ∧
         (t.vlc.groups.get g).failure = some .refusals ∧ (t.vlc.groups.get g).refusalRun = r.refusalRun + 1 ∧
         (t.vlc.groups.get g).misfireRun = r.misfireRun ∧ (t.vlc.groups.get g).ready = false ∧
         (t.causes.get g.branch).valve = true ∧ (∀ b, b ≠ g.branch → t.causes.get b = s.causes.get b) ∧
         (t.sli.events.get .refusal).count = bump 255 (s.sli.events.get .refusal).count ∧
         (t.sli.events.get .groupFailed).count = bump 255 (s.sli.events.get .groupFailed).count)) ∧
     ((∀ x, (s.vlc.firing.get g.branch).transaction = some x → x.group ≠ g ∨ x.tag ≠ tag) →
       exec (.refused c tag cause) s = .next { s with
         vlc := { s.vlc with
           channels := heard
           groups := s.vlc.groups.set g strayed }
         sli := { s.sli with events := raised } }))

/-- STATUS (R131, R132) is stored as the channel's latest. From a group whose snapshot differs and whose latch is clear it sets the
latch and raises VALVE_STATUS_CHANGED; a group within its limits, or FAILED already, stays as it is, and an AVAILABLE one with its
cooling lost or too many failed levels fails, by COOLING before REDUNDANCY. -/
def Obligations.StatusIsStoredAndChecked : Prop :=
  ∀ (s : State) (c : ValveChannel) (st : ValveStatus), inReset s = false → MapInjective s →
    let latest : ChannelState := { s.vlc.channels.get c with link := .active, silence := 0, status := some st }
    let raised := s.sli.events.set .valveStatusChanged ⟨true, bump 255 (s.sli.events.get .valveStatusChanged).count⟩
    let stored := s.vlc.channels.set c latest
    ((∀ g, s.vlc.map.get g ≠ c) → exec (.status c st) s = .next { s with vlc := { s.vlc with channels := stored } }) ∧
    (∀ g, s.vlc.map.get g = c →
      let r := s.vlc.groups.get g
      let news := r.snapshot ≠ some st ∧ r.changed = false
      let fine := r.failure ≠ none ∨ (st.coolingOk = true ∧ st.failedLevels.toNat ≤ s.vlc.settings.redundancyLimit)
      (news → fine → exec (.status c st) s = .next { s with
        vlc := { s.vlc with channels := stored, groups := s.vlc.groups.set g { r with changed := true } }
        sli := { s.sli with events := raised } }) ∧
      (¬ news → fine → exec (.status c st) s = .next { s with vlc := { s.vlc with channels := stored } }) ∧
      (¬ fine → ∃ t, exec (.status c st) s = .next t ∧
        (t.vlc.groups.get g).failure = some (if st.coolingOk = false then .cooling else .redundancy) ∧
        (t.vlc.groups.get g).ready = false ∧ (t.vlc.groups.get g).credit = false ∧ t.vlc.channels = stored ∧
        (t.causes.get g.branch).valve = true ∧
        (t.sli.events.get .groupFailed).count = bump 255 (s.sli.events.get .groupFailed).count))

/-- A group failure in RUN (R7, R134, R146, R152), of each of the five causes (COOLING, REDUNDANCY, REFUSALS, MISFIRES, CHANNEL_SILENT)
and whatever other causes the branch holds: where VALVE is new to it and trip_on_block is yes, the device halts, names branch, group and
cause, and requests a trip; with trip_on_block no it runs on, and a branch whose set was empty is BLOCKED, its transaction OVERTAKEN
(R150). That the halt abandons the transaction of another branch whose own failure would fall in the same moment is the model's choice
(log entry 32). -/
def Obligations.GroupFailureHaltsOrBlocks : Prop :=
  (∀ (s : State) (g : Group) (st : ValveStatus), inReset s = false → MapInjective s → s.oc.device = .run →
     (s.vlc.groups.get g).failure = none → st.coolingOk = false → s.causes.get g.branch = .empty →
     (s.vlc.settings.tripOnBlock = true → ∃ t, exec (.status (s.vlc.map.get g) st) s = .next t ∧ t.oc.device = .halted ∧
       t.oc.halt = ⟨.valveFailed, some g.branch, some g, some .cooling, some s.slr.frameIndex⟩ ∧ t.oc.tripRequest = true ∧
       t.oc.fallbackActive = true ∧ t.causes = s.causes.set g.branch ⟨false, true, false, false⟩ ∧ (∀ b, BranchIdle t b) ∧
       t.pli.latch = none ∧ t.hr.ring = s.hr.ring) ∧
     (s.vlc.settings.tripOnBlock = false → ∃ t, exec (.status (s.vlc.map.get g) st) s = .next t ∧ t.oc.device = .run ∧
       t.oc.fallbackActive = true ∧ t.oc.halt = s.oc.halt ∧ t.causes = s.causes.set g.branch ⟨false, true, false, false⟩ ∧
       (t.bdu.branches.get g.branch).state = .blocked ∧ (t.bdu.branches.get g.branch).decision = some ⟨0, 2048⟩ ∧
       (t.vlc.firing.get g.branch).armed = none ∧ (t.vlc.firing.get g.branch).transaction = none ∧
       (∀ x, (s.vlc.firing.get g.branch).transaction = some x →
         (t.vlc.firing.get g.branch).outcome = some ⟨.overtaken, some x.attempts⟩) ∧ t.ct = s.ct ∧ t.pli.latch = s.pli.latch)) ∧
  (∀ (s : State) (g : Group) (i : Instr) (f : FailureCause), inReset s = false → MapInjective s → s.oc.device = .run →
     (s.vlc.groups.get g).failure = none → (s.causes.get g.branch).valve = false →
     let c := s.vlc.map.get g
     let r := s.vlc.groups.get g
     let v := s.vlc.settings
     let open_ := (s.vlc.firing.get g.branch).transaction
     ((∃ st, i = .status c st ∧ st.coolingOk = false ∧ f = .cooling) ∨
      (∃ st, i = .status c st ∧ st.coolingOk = true ∧ v.redundancyLimit < st.failedLevels.toNat ∧ f = .redundancy) ∨
      (i = .channelSilent c ∧ (s.vlc.channels.get c).link = .active ∧ f = .channelSilent) ∨
      (∃ tag cause x, i = .refused c tag cause ∧ open_ = some x ∧ x.group = g ∧ x.tag = tag ∧
        v.refusalLimit ≤ r.refusalRun + 1 ∧ f = .refusals) ∨
      (∃ a x, i = .guardExpiry g.branch ∧ (s.ct.tracks.get g.branch).counter = some a ∧ open_ = some x ∧ x.group = g ∧
        x.phase = .waiting ∧ x.guardEnd ≤ 2048 + s.ct.settings.halfWidth ∧ 1 + x.retries ≤ x.attempts ∧
        v.misfireLimit ≤ r.misfireRun + 1 ∧ f = .misfires)) →
     ∃ t, exec i s = .next t ∧ (t.vlc.groups.get g).failure = some f ∧
       t.causes = s.causes.set g.branch { s.causes.get g.branch with valve := true } ∧ t.hr.ring = s.hr.ring ∧
       (t.sli.events.get .groupFailed).count = bump 255 (s.sli.events.get .groupFailed).count ∧
       (v.tripOnBlock = true → t.pli.latch = none ∧ (∀ b, BranchIdle t b) ∧
         t.oc = ⟨.halted, ⟨.valveFailed, some g.branch, some g, some f, some s.slr.frameIndex⟩, true, true, s.oc.lockFrequency⟩) ∧
       (v.tripOnBlock = false → t.oc.device = .run ∧ t.oc.halt = s.oc.halt ∧ t.pli.latch = s.pli.latch ∧
         (s.causes.get g.branch = .empty → (t.bdu.branches.get g.branch).state = .blocked ∧
           (t.bdu.branches.get g.branch).decision = some ⟨0, 2048⟩ ∧ (t.vlc.firing.get g.branch).armed = none ∧
           (t.vlc.firing.get g.branch).transaction = none) ∧
         (s.causes.get g.branch ≠ .empty → t.bdu = s.bdu)))

/-- A channel's silence (R115): an ACTIVE channel enters SILENT, is counted and raised, and the AVAILABLE group it carries fails; a
SILENT one makes no second entry. That the command brings the silence timer to 384 is the model's choice (log entry 3). -/
def Obligations.SilentChannelFailsItsGroup : Prop :=
  ∀ (s : State) (c : ValveChannel), inReset s = false → MapInjective s →
    ((s.vlc.channels.get c).link = .silent → exec (.channelSilent c) s = .next s) ∧
    ((s.vlc.channels.get c).link = .active → ∃ t, exec (.channelSilent c) s = .next t ∧
      t.vlc.channels = s.vlc.channels.set c { s.vlc.channels.get c with
        link := .silent, silence := 384, silences := count16 (s.vlc.channels.get c).silences } ∧
      (t.sli.events.get .channelSilent).count = bump 255 (s.sli.events.get .channelSilent).count ∧
      (∀ g, s.vlc.map.get g = c → (s.vlc.groups.get g).failure = none →
        (t.vlc.groups.get g).failure = some .channelSilent ∧ (t.causes.get g.branch).valve = true) ∧
      (∀ g, s.vlc.map.get g ≠ c ∨ (s.vlc.groups.get g).failure ≠ none →
        (t.vlc.groups.get g).failure = (s.vlc.groups.get g).failure) ∧
      ((∀ g, s.vlc.map.get g ≠ c) → t = { s with vlc := { s.vlc with channels := t.vlc.channels }, sli := t.sli }))

/-! ## Plant lines -/

/-- A raw level moves, and restarts its stability timer (R155); the same level again is no change; that pins move in a device held in
reset too is the model's reading (log entry 14). The initial settling ends (R156): every debounced level takes its raw level, with no
event and no count, and an EXT_BLOCK found asserted adds PLANT to all three sets. That the command brings the 8th frame interval is the
model's choice (log entry 3). -/
def Obligations.RawLevelsAndSettling : Prop :=
  (∀ (s : State) (i : PlantInput) (l : Bool),
     exec (.rawLevelChange i l) s = .next
       (if s.pins.raw.get i = l then s
        else { s with
         pins := { s.pins with raw := s.pins.raw.set i l }
         pli := { s.pli with inputs := s.pli.inputs.set i { s.pli.inputs.get i with stability := 0 } } })) ∧
  (∀ s : State, inReset s = false → s.pli.settling = true → s.oc.device ≠ .run →
     ∃ t, exec .initialSettlingEnd s = .next t ∧
       (∀ i, t.pli.inputs.get i = { s.pli.inputs.get i with debounced := s.pins.raw.get i }) ∧
       (∀ b, t.causes.get b = if s.pins.raw.get .extBlock = true then { s.causes.get b with plant := true } else s.causes.get b) ∧
       t.pli = { s.pli with settling := false, inputs := t.pli.inputs } ∧
       t = { s with clock := t.clock, causes := t.causes, pli := t.pli })

/-- A level change outside the initial settling (R155, R157, R158): the debounced level takes the raw level, is counted and raised.
A filter bank and an opening breaker do nothing else; EXT_BLOCK adds PLANT to, or removes it from, all three sets; a closing breaker with
the latch NOT_ARMED takes the trigger BREAKER_CLOSE where it is enabled (R157, R171, R172). During the settling, or without a
difference, nothing happens. That the command brings the stability timer to 8 is the model's choice (log entry 3). -/
def Obligations.LevelChangeActs : Prop :=
  (∀ (s : State) (i : PlantInput), inReset s = false →
     let l := s.pins.raw.get i
     let took : InputState := ⟨l, 8, count16 (s.pli.inputs.get i).changes⟩
     let moved : PlantInterface := { s.pli with inputs := s.pli.inputs.set i took }
     let changed : EventCell := ⟨true, bump 255 (s.sli.events.get .plantLineChanged).count⟩
     let raised : Supervisory := { s.sli with events := s.sli.events.set .plantLineChanged changed }
     (s.pli.settling = true ∨ (s.pli.inputs.get i).debounced = l → exec (.plantLineChanged i) s = .next s) ∧
     (s.pli.settling = false → (s.pli.inputs.get i).debounced ≠ l →
       (i ≠ .extBlock → (i = .furnaceBreaker → l = false) →
         exec (.plantLineChanged i) s = .next { s with pli := moved, sli := raised }) ∧
       (i = .extBlock → ∃ t, exec (.plantLineChanged i) s = .next t ∧ t.pli = moved ∧ t.sli = raised ∧
         (∀ b, t.causes.get b = { s.causes.get b with plant := l }) ∧ t.oc.device = s.oc.device ∧
         (s.oc.device ≠ .run → t = { s with pli := moved, sli := raised, causes := t.causes }) ∧
         (s.oc.device = .run → ∀ b, (t.bdu.branches.get b).state =
           if noCauses (s.causes.get b) = true ∧ l = true then .blocked
           else if noCauses (s.causes.get b) = false ∧ noCauses (t.causes.get b) = true then .fallback
           else (s.bdu.branches.get b).state)))) ∧
  (∀ s : State, inReset s = false → s.pli.settling = false → s.pli.latch = none →
     (s.pli.inputs.get .furnaceBreaker).debounced = false → s.pins.raw.get .furnaceBreaker = true →
     let took : InputState := ⟨true, 8, count16 (s.pli.inputs.get .furnaceBreaker).changes⟩
     let changed : EventCell := ⟨true, bump 255 (s.sli.events.get .plantLineChanged).count⟩
     let frozen : EventCell := ⟨true, bump 255 (s.sli.events.get .captureFrozen).count⟩
     let taken : History := { s.hr with
       trigger := some ⟨.breakerClose, newestSeq s.hr, s.slr.frameIndex⟩, remaining := s.hr.post, ignored := 0 }
     let moved : State := { s with
       pli := { s.pli with inputs := s.pli.inputs.set .furnaceBreaker took }
       sli := { s.sli with events := s.sli.events.set .plantLineChanged changed } }
     exec (.plantLineChanged .furnaceBreaker) s = .next
       (if s.hr.triggers.getLsbD 7 = false then moved
        else if s.hr.capture ≠ .free then { moved with hr := { s.hr with ignored := count16 s.hr.ignored } }
        else if s.hr.post ≠ 0 then { moved with hr := { taken with capture := .triggered } }
        else { moved with
         hr := { taken with capture := .frozen, suppressed := 0 }
         sli := { s.sli with events := (s.sli.events.set .plantLineChanged changed).set .captureFrozen frozen } }))

/-- A breaker close (R157, R160, R83): with an armed latch in RUN it is consumed: each branch that is not BLOCKED and not forced
enters PRESET with its value and count, keeping its decision and window; elsewhere an armed latch is cancelled. Armed or not, the close
takes the trigger BREAKER_CLOSE where it is enabled: in FREE the capture is TRIGGERED with its record, and otherwise the trigger
is counted as ignored (R171, R172). That the command acts at any count of the stability timer is the model's choice (log entry 3). -/
def Obligations.BreakerCloseAppliesPreset : Prop :=
  (∀ (s : State) (v : PresetValues), inReset s = false → s.pli.settling = false → s.pli.latch = some v →
     (s.pli.inputs.get .furnaceBreaker).debounced = false → s.pins.raw.get .furnaceBreaker = true →
     (s.oc.device = .run → ∃ t, exec (.plantLineChanged .furnaceBreaker) s = .next t ∧ t.pli.latch = none ∧
       t.pli.applications = count16 s.pli.applications ∧ t.pli.cancellations = s.pli.cancellations ∧
       (∀ b, let named := (s.bdu.branches.get b).state ≠ .blocked ∧ forced s.slr b = false
         (named → t.bdu.branches.get b = { s.bdu.branches.get b with
           state := .preset, preset := some ⟨v.closures, v.values.get b⟩, heldClosures := 0, validClosures := 0 }) ∧
         (¬ named → t.bdu.branches.get b = s.bdu.branches.get b) ∧
         ∃ x, t.pli.lastApplication = some x ∧ x.frameIndex = s.slr.frameIndex ∧ (x.named.get b = true ↔ named)) ∧
       (t.sli.events.get .presetApplied).count = bump 255 (s.sli.events.get .presetApplied).count ∧
       t.vlc = s.vlc ∧ t.ct = s.ct ∧ t.causes = s.causes ∧ t.oc.device = .run) ∧
     (s.oc.device ≠ .run → ∃ t, exec (.plantLineChanged .furnaceBreaker) s = .next t ∧ t.pli.latch = none ∧
       t.pli.lastCancel = some .breakerClose ∧ t.pli.cancellations = count16 s.pli.cancellations ∧
       (t.sli.events.get .presetCancelled).count = bump 255 (s.sli.events.get .presetCancelled).count ∧
       t.bdu = s.bdu ∧ t.oc = s.oc)) ∧
  (∀ s : State, inReset s = false → s.pli.settling = false →
     (s.pli.inputs.get .furnaceBreaker).debounced = false → s.pins.raw.get .furnaceBreaker = true →
     ∃ t, exec (.plantLineChanged .furnaceBreaker) s = .next t ∧
       (s.hr.triggers.getLsbD 7 = false → t.hr = s.hr) ∧
       (s.hr.triggers.getLsbD 7 = true → s.hr.capture = .free → s.hr.post ≠ 0 → t.hr = { s.hr with
         capture := .triggered, trigger := some ⟨.breakerClose, newestSeq s.hr, s.slr.frameIndex⟩
         remaining := s.hr.post, ignored := 0 }) ∧
       (s.hr.triggers.getLsbD 7 = true → s.hr.capture ≠ .free → t.hr = { s.hr with ignored := count16 s.hr.ignored }))

/-! ## Conversion and demand -/

/-- R105: the conversion of a susceptance of 1..4095 with a complete table: k, r, D and s as the rule names them; exact where r is 0
or the interval is flat. A larger susceptance never fires later, and every delay lies in 1024..2048 (R104 to R106). -/
def Obligations.ConversionInterpolatesAndFalls : Prop :=
  (∀ (t : List Nat) (b : Nat), t.length = 65 → firstFault t = none → 1 ≤ b → b ≤ 4095 →
     ∃ x y k r D st : Nat, k = b / 64 ∧ r = b - 64 * k ∧ k ≤ 63 ∧ r ≤ 63 ∧ t[k]? = some x ∧ t[k + 1]? = some y ∧
       D + y = x ∧ st = (D * r + 32) / 64 ∧ convert (some t) b + st = x ∧
       y ≤ convert (some t) b ∧ convert (some t) b ≤ x ∧ (r = 0 → convert (some t) b = x) ∧ (D = 0 → convert (some t) b = x)) ∧
  (∀ (t : List Nat) (b c : Nat), t.length = 65 → firstFault t = none → b ≤ c → c ≤ 4095 →
     convert (some t) c ≤ convert (some t) b ∧ 1024 ≤ convert (some t) c ∧ convert (some t) b ≤ 2048)

/-- The demand of a window (R75): the quotient rounded to nearest with halves to the greater magnitude, with the sign of the
product, saturated. The validity code of a closure (R73): the first of the nine conditions that holds, in the rule's order, else VALID.
The target (R76, R77): the shares of the banks that are on, summed up to 8191, plus the trim, minus the demand, within 0..4095. -/
def Obligations.DemandRoundsToNearest : Prop :=
  (∀ (gain : Nat) (w : Window), 0 < w.energy →
     let num := w.product * gain
     let den : Int := w.energy * 256
     ∃ q : Int, 2 * |num - q * den| ≤ den ∧ (2 * |num - q * den| = den → |num| ≤ |q * den|) ∧
       demandOf gain w = (if q < -16384 then -16384 else if 16383 < q then 16383 else q)) ∧
  (∀ (s : State) (b : Branch) (kind : ClosureKind) (w : Window),
     let n : Nat := if s.ct.nominal = some .hz60 then 80 else 96
     let k1 := w.first = true
     let k2 := measurementCondition s.slr ≠ .normal ∨ (s.slr.quantities.get b.voltage).diverged = true ∨
       (s.slr.quantities.get b.currentFrom).diverged = true ∨ (s.slr.quantities.get b.currentTo).diverged = true
     let k3 := w.gapMark = some .resync
     let k4 := w.gapMark = some .measGap
     let k5 := kind = .synthesized
     let k6 := w.frames + 12 < n ∨ n + 12 < w.frames
     let k7 := 4 < w.held
     let k8 := w.filling = true
     let k9 := w.energy = 0 ∨ w.energy / w.frames < (s.bdu.branches.get b).settings.floor
     judge s b kind w = (if k1 then .noWindow else if k2 then .measForced else if k3 then .resync else if k4 then .measGap
       else if k5 then .synth else if k6 then .length else if k7 then .heldWords else if k8 then .delayFilling
       else if k9 then .lowVoltage else .valid)) ∧
  (∀ (s : State) (b : Branch) (d : Int),
     let share (k : Bank) : Nat := if (s.pli.inputs.get k.input).debounced = true then (s.bdu.shares.get k).get b else 0
     let filters : Nat := min 8191 ((Bank.all.map share).sum)
     (saturate (rawTarget s b d) : Int) = max 0 (min 4095 (filters + (s.bdu.branches.get b).settings.trim - d)))

/-- The moves at a closure, gathered (the table of 4.6 and R79 to R86): in TRACK and HOLD with the susceptance held; in PRESET, FALLBACK
and BLOCKED, and for a forced measurement, whether or not one is held (R78, R86, R151). The step limit (R79): a branch in TRACK before
and after a closure changes its susceptance by at most the limit in force. The decision (R86, R88): b = 0 and α = 2048 in BLOCKED, else
the susceptance with its conversion. The branch's counters at a closure (R96): one more judged, one more of its code, one more saturated
high or low where the target is taken and lies outside 0..4095, one more entry into FALLBACK. That the closures of CROSSING_SYNTHESIZED and
DATA_FRAME do this is stated in CrossingIsSynthesized and PeriodMovesAnEighth. -/
def Obligations.BranchMovesAtClosure : Prop :=
  (∀ (d : BranchDemand) (code : ValidityCode) (target : Nat),
      let set := d.settings
      let m := nextMove d code target
      let falls := m.state = .fallback ∧ m.susceptance = set.fallback ∧ m.heldClosures = 0 ∧ m.validClosures = 0 ∧
        m.preset = none ∧ m.entersFallback = true
      let limited (from_ : Nat) := m.state = .track ∧ m.susceptance = max (from_ - set.step) (min (from_ + set.step) target) ∧
        m.heldClosures = 0 ∧ m.validClosures = 0 ∧ m.preset = none ∧ m.entersFallback = false ∧ m.takesTarget = true
      let holds (n x : Nat) :=
        (n < set.holdLimit → m.state = .hold ∧ m.susceptance = x ∧ m.heldClosures = n ∧ m.entersFallback = false ∧
          m.preset = none) ∧
        (set.holdLimit ≤ n → falls)
      (∀ p, d.previous = some p →
        (d.state = .track ∨ d.state = .hold → code = .valid → limited p) ∧
        (d.state = .track → code ≠ .valid → code ≠ .measForced → holds 1 p) ∧
        (d.state = .hold → code ≠ .valid → code ≠ .measForced → holds (d.heldClosures + 1) p)) ∧
      (d.state = .track ∨ d.state = .hold ∨ d.state = .preset → code = .measForced → falls) ∧
      (d.state = .fallback → (code ≠ .valid ∨ d.validClosures = 0) → m.state = .fallback ∧ m.susceptance = set.fallback ∧
        m.validClosures = (if code = .valid then 1 else 0) ∧ m.entersFallback = false) ∧
      (d.state = .fallback → code = .valid → d.validClosures ≠ 0 → limited set.fallback) ∧
      (∀ x, d.preset = some x → d.state = .preset → code ≠ .measForced →
        (x.remaining ≠ 0 → m.state = .preset ∧ m.susceptance = x.value ∧ m.preset = some ⟨x.remaining - 1, x.value⟩ ∧
          m.takesTarget = false) ∧
        (x.remaining = 0 → (code = .valid → limited x.value) ∧ (code ≠ .valid → holds 1 x.value))) ∧
      (d.state = .blocked → m.state = .blocked ∧ m.susceptance = 0 ∧ m.entersFallback = false ∧ m.takesTarget = false ∧
        m.preset = none)) ∧
  (∀ (s : State) (b : Branch) (kind : ClosureKind) (p : Nat),
     (s.bdu.branches.get b).state = .track → (s.bdu.branches.get b).previous = some p →
     (closedDemand s b kind).state = .track →
     ∃ d, (closedDemand s b kind).decision = some d ∧ (closedDemand s b kind).previous = some d.susceptance ∧
       d.susceptance ≤ p + (s.bdu.branches.get b).settings.step ∧ p ≤ d.susceptance + (s.bdu.branches.get b).settings.step) ∧
  (∀ (s : State) (b : Branch) (kind : ClosureKind),
     let d := s.bdu.branches.get b
     let e := closedDemand s b kind
     let m := closureMove s b kind
     let code := judge s b kind (endingWindow s b)
     let raw : Option Int := (closureDemand s b kind).map fun x =>
       (filterSusceptance s b : Int) + d.settings.trim - x
     let high := m.takesTarget = true ∧ 4095 < raw.getD 0
     let low := m.takesTarget = true ∧ raw.getD 0 < 0
     e.state = m.state ∧ e.settings = d.settings ∧ e.lastCode = some code ∧
     (d.state = .blocked → e.state = .blocked ∧ e.decision = some ⟨0, 2048⟩ ∧ e.previous = none) ∧
     (m.state ≠ .blocked → e.decision = some ⟨m.susceptance, convert s.table m.susceptance⟩ ∧ e.previous = some m.susceptance) ∧
     e.counters.judged = count32 d.counters.judged ∧
     (∀ c, e.counters.codes.get c = if c = code then count32 (d.counters.codes.get c) else d.counters.codes.get c) ∧
     e.counters.saturatedHigh = (if high then count32 d.counters.saturatedHigh else d.counters.saturatedHigh) ∧
     e.counters.saturatedLow = (if low then count32 d.counters.saturatedLow else d.counters.saturatedLow) ∧
     e.counters.fallbackEntries =
       (if m.entersFallback = true then count32 d.counters.fallbackEntries else d.counters.fallbackEntries))

/-! ## Invariants: each kept by every step, from every state that meets it -/

/-- The output lines agree with the device state (R15, R16); the device is outside UNSET exactly while it is configured, with a
complete table (R2, R97); outside RUN the control loop is idle (R13, R14); the latch is armed only in ACQUIRE and RUN (R159, R161); a
branch holds a decision from its first closure in RUN on (R93, R69). -/
def Obligations.StateRulesAreKept : Prop :=
  (∀ s t : State, LinesAgree s → step s = .next t → LinesAgree t) ∧
  (∀ s t : State, ConfiguredOutsideUnset s → step s = .next t → ConfiguredOutsideUnset t) ∧
  (∀ s t : State, IdleOutsideRun s → step s = .next t → IdleOutsideRun t) ∧
  (∀ s t : State, LatchOnlyWhileStarted s → step s = .next t → LatchOnlyWhileStarted t) ∧
  (∀ s t : State, DecidedAfterClosure s → step s = .next t → DecidedAfterClosure t)

/-- No two groups share a channel (R141); a FAILED group keeps VALVE in the set of its branch (R146); in RUN a branch is BLOCKED exactly
while its set is not empty, and then it has no delay armed, no transaction open and no decision but b = 0 and α = 2048 (R86, R119,
R150); a branch's open
transaction orders one of its own two groups (R119, R121). -/
def Obligations.ValveRulesAreKept : Prop :=
  (∀ s t : State, MapInjective s → step s = .next t → MapInjective t) ∧
  (∀ s t : State, FailedGroupBlocks s → step s = .next t → FailedGroupBlocks t) ∧
  (∀ s t : State, BlockedIsQuiet s → step s = .next t → BlockedIsQuiet t) ∧
  (∀ s t : State, TransactionsAtHome s → step s = .next t → TransactionsAtHome t)

/-- Event counts stay at or below 255 (R190), periods in their band (R58), angle counters at or below 2048 + W (R54), decisions in
the range of the susceptance and the delay (R88, R106); a link channel's status agrees with its count of failed blocks, which stops at 4
(R33); the tracking settings stay in their ranges (R64). -/
def Obligations.BoundsAreKept : Prop :=
  (∀ s t : State, EventCountsBounded s → step s = .next t → EventCountsBounded t) ∧
  (∀ s t : State, PeriodsInBand s → step s = .next t → PeriodsInBand t) ∧
  (∀ s t : State, CountersBounded s → step s = .next t → CountersBounded t) ∧
  (∀ s t : State, DecisionsInRange s → step s = .next t → DecisionsInRange t) ∧
  (∀ s t : State, ChainsAgree s → step s = .next t → ChainsAgree t) ∧
  (∀ s t : State, TrackingInRange s → step s = .next t → TrackingInRange t)

/-- The ring holds at most 512 records, numbered one after the other and ending with the newest (R169, R170). -/
def Obligations.RingStaysOrdered : Prop := ∀ s t : State, RingOrdered s → step s = .next t → RingOrdered t

/-- Every invariant holds right after reset. -/
def Obligations.InvariantsHoldAtReset : Prop :=
  LinesAgree .reset ∧ EventCountsBounded .reset ∧ MapInjective .reset ∧ FailedGroupBlocks .reset ∧ RingOrdered .reset ∧
    ConfiguredOutsideUnset .reset ∧ IdleOutsideRun .reset ∧ LatchOnlyWhileStarted .reset ∧ PeriodsInBand .reset ∧
    CountersBounded .reset ∧ DecisionsInRange .reset ∧ ChainsAgree .reset ∧ BlockedIsQuiet .reset ∧ TrackingInRange .reset ∧
    DecidedAfterClosure .reset ∧ TransactionsAtHome .reset

/-! ## Rules of the whole device -/

/-- The device state moves only as the table of 1.1 says, by any one command and by any tick: the pairs of states, and the Cause column
with the halt cause each move leaves. Only a reset's row leads to UNSET, LOAD_TABLE or SET_BRANCH from UNSET to READY, DISABLE to READY,
ENABLE to ACQUIRE, a crossing that a frame confirms to RUN; the acquisition limit or a crossing halts ACQUIRE, and a loss of sync or, with
trip_on_block yes, a group failure halts RUN. By itself, in a tick, the device only halts, in ACQUIRE without a trip and in RUN with one.
A request comes as its row or as the frame that holds it (log entry 12); the tick is the model's (log entry 1). -/
def Obligations.DeviceStateMovesByTheTable : Prop :=
  (∀ (c : Instr) (s t : State), wellFormed c = true → exec c s = .next t → DeviceMoves s.oc.device t.oc.device) ∧
  (∀ s : State, DeviceMoves s.oc.device (tick s).oc.device) ∧
  (∀ (c : Instr) (s t : State), wellFormed c = true → ConfiguredOutsideUnset s → exec c s = .next t →
     s.oc.device ≠ t.oc.device → MoveCause s c t) ∧
  (∀ s t : State, t = tick s → s.oc.device ≠ t.oc.device → t.oc.device = .halted ∧
     ((s.oc.device = .acquire ∧ t.oc.halt.cause = .acquireTimeout ∧ t.oc.tripRequest = false) ∨
      (s.oc.device = .run ∧ (t.oc.halt.cause = .syncLost ∨ t.oc.halt.cause = .valveFailed) ∧ t.oc.tripRequest = true)))

/-- R64, R97, R102: the tracking settings and the table stand from ENABLE until the device is READY again or reset, under every command
and in every tick. -/
def Obligations.SettingsStandWhileStarted : Prop :=
  (∀ (c : Instr) (s t : State), wellFormed c = true → exec c s = .next t → s.oc.device ≠ .unset → s.oc.device ≠ .ready →
     t.oc.device ≠ .unset → t.ct.settings = s.ct.settings ∧ t.table = s.table) ∧
  (∀ s : State, (tick s).ct.settings = s.ct.settings ∧ (tick s).table = s.table)

/-- R119: no step, by a command or by a tick, orders or retries a group unless the device is in RUN, the group AVAILABLE and its
branch's set empty: wherever the count of a group's orders or of its retries grows, these three held before the step. The premises, a
BLOCKED branch quiet and each transaction on a group of its own branch, are invariants that every step keeps (ValveRulesAreKept). And no
command puts a new FIRE frame on a channel that carries no such group; the frame last sent is the model's own field (log entry 5). -/
def Obligations.OrdersOnlyWhereAllowed : Prop :=
  (∀ (s t : State) (g : Group), BlockedIsQuiet s → TransactionsAtHome s → step s = .next t →
     (s.vlc.groups.get g).counters.orders < (t.vlc.groups.get g).counters.orders ∨
       (s.vlc.groups.get g).counters.retries < (t.vlc.groups.get g).counters.retries →
     s.oc.device = .run ∧ (s.vlc.groups.get g).failure = none ∧ noCauses (s.causes.get g.branch) = true) ∧
  (∀ (c : Instr) (s t : State) (ch : ValveChannel) (f : List Byte), exec c s = .next t →
     (t.vlc.channels.get ch).sent = some f → (s.vlc.channels.get ch).sent ≠ some f →
     s.oc.device = .run ∧ ∃ g tag, s.vlc.map.get g = ch ∧ s.causes.get g.branch = .empty ∧
       (s.vlc.groups.get g).failure = none ∧ f = fireFrame tag)
end

