-- ==== Sys2Proof/Laws/Index.lean ====
section
/-! SUPPORT. The read-after-write laws of the per-name records: reading the name just written gives what was written, and
every other name reads as before. -/

namespace Sys2Proof

@[simp] theorem PerBranch.get_set_self {α : Type} (t : PerBranch α) (k : Branch) (x : α) : (t.set k x).get k = x := by
  cases k <;> rfl

theorem PerBranch.get_set_ne {α : Type} (t : PerBranch α) (k j : Branch) (x : α) (h : j ≠ k) : (t.set k x).get j = t.get j := by
  cases k <;> cases j <;> first | rfl | exact absurd rfl h

theorem PerBranch.get_set {α : Type} (t : PerBranch α) (k j : Branch) (x : α) :
    (t.set k x).get j = if j = k then x else t.get j := by
  by_cases h : j = k
  · subst h; simp
  · simp [h, PerBranch.get_set_ne t k j x h]

@[simp] theorem PerBranch.get_fill {α : Type} (x : α) (k : Branch) : (PerBranch.fill x).get k = x := by cases k <;> rfl

@[simp] theorem PerBranch.get_mapKey {α β : Type} (t : PerBranch α) (f : Branch → α → β) (k : Branch) :
    (t.mapKey f).get k = f k (t.get k) := by cases k <;> rfl

@[simp] theorem PerGroup.get_set_self {α : Type} (t : PerGroup α) (k : Group) (x : α) : (t.set k x).get k = x := by
  cases k <;> rfl

theorem PerGroup.get_set_ne {α : Type} (t : PerGroup α) (k j : Group) (x : α) (h : j ≠ k) : (t.set k x).get j = t.get j := by
  cases k <;> cases j <;> first | rfl | exact absurd rfl h

theorem PerGroup.get_set {α : Type} (t : PerGroup α) (k j : Group) (x : α) :
    (t.set k x).get j = if j = k then x else t.get j := by
  by_cases h : j = k
  · subst h; simp
  · simp [h, PerGroup.get_set_ne t k j x h]

@[simp] theorem PerGroup.get_fill {α : Type} (x : α) (k : Group) : (PerGroup.fill x).get k = x := by cases k <;> rfl

@[simp] theorem PerGroup.get_mapKey {α β : Type} (t : PerGroup α) (f : Group → α → β) (k : Group) :
    (t.mapKey f).get k = f k (t.get k) := by cases k <;> rfl

@[simp] theorem PerQuantity.get_set_self {α : Type} (t : PerQuantity α) (k : Quantity) (x : α) : (t.set k x).get k = x := by
  cases k <;> rfl

theorem PerQuantity.get_set_ne {α : Type} (t : PerQuantity α) (k j : Quantity) (x : α) (h : j ≠ k) : (t.set k x).get j = t.get j := by
  cases k <;> cases j <;> first | rfl | exact absurd rfl h

theorem PerQuantity.get_set {α : Type} (t : PerQuantity α) (k j : Quantity) (x : α) :
    (t.set k x).get j = if j = k then x else t.get j := by
  by_cases h : j = k
  · subst h; simp
  · simp [h, PerQuantity.get_set_ne t k j x h]

@[simp] theorem PerQuantity.get_fill {α : Type} (x : α) (k : Quantity) : (PerQuantity.fill x).get k = x := by cases k <;> rfl

@[simp] theorem PerQuantity.get_mapKey {α β : Type} (t : PerQuantity α) (f : Quantity → α → β) (k : Quantity) :
    (t.mapKey f).get k = f k (t.get k) := by cases k <;> rfl

@[simp] theorem PerValve.get_set_self {α : Type} (t : PerValve α) (k : ValveChannel) (x : α) : (t.set k x).get k = x := by
  cases k <;> rfl

theorem PerValve.get_set_ne {α : Type} (t : PerValve α) (k j : ValveChannel) (x : α) (h : j ≠ k) : (t.set k x).get j = t.get j := by
  cases k <;> cases j <;> first | rfl | exact absurd rfl h

theorem PerValve.get_set {α : Type} (t : PerValve α) (k j : ValveChannel) (x : α) :
    (t.set k x).get j = if j = k then x else t.get j := by
  by_cases h : j = k
  · subst h; simp
  · simp [h, PerValve.get_set_ne t k j x h]

@[simp] theorem PerValve.get_fill {α : Type} (x : α) (k : ValveChannel) : (PerValve.fill x).get k = x := by cases k <;> rfl

@[simp] theorem PerValve.get_mapKey {α β : Type} (t : PerValve α) (f : ValveChannel → α → β) (k : ValveChannel) :
    (t.mapKey f).get k = f k (t.get k) := by cases k <;> rfl

@[simp] theorem PerLink.get_set_self {α : Type} (t : PerLink α) (k : LinkChannel) (x : α) : (t.set k x).get k = x := by
  cases k <;> rfl

theorem PerLink.get_set_ne {α : Type} (t : PerLink α) (k j : LinkChannel) (x : α) (h : j ≠ k) : (t.set k x).get j = t.get j := by
  cases k <;> cases j <;> first | rfl | exact absurd rfl h

theorem PerLink.get_set {α : Type} (t : PerLink α) (k j : LinkChannel) (x : α) :
    (t.set k x).get j = if j = k then x else t.get j := by
  by_cases h : j = k
  · subst h; simp
  · simp [h, PerLink.get_set_ne t k j x h]

@[simp] theorem PerLink.get_fill {α : Type} (x : α) (k : LinkChannel) : (PerLink.fill x).get k = x := by cases k <;> rfl

@[simp] theorem PerLink.get_mapKey {α β : Type} (t : PerLink α) (f : LinkChannel → α → β) (k : LinkChannel) :
    (t.mapKey f).get k = f k (t.get k) := by cases k <;> rfl

@[simp] theorem PerInput.get_set_self {α : Type} (t : PerInput α) (k : PlantInput) (x : α) : (t.set k x).get k = x := by
  cases k <;> rfl

theorem PerInput.get_set_ne {α : Type} (t : PerInput α) (k j : PlantInput) (x : α) (h : j ≠ k) : (t.set k x).get j = t.get j := by
  cases k <;> cases j <;> first | rfl | exact absurd rfl h

theorem PerInput.get_set {α : Type} (t : PerInput α) (k j : PlantInput) (x : α) :
    (t.set k x).get j = if j = k then x else t.get j := by
  by_cases h : j = k
  · subst h; simp
  · simp [h, PerInput.get_set_ne t k j x h]

@[simp] theorem PerInput.get_fill {α : Type} (x : α) (k : PlantInput) : (PerInput.fill x).get k = x := by cases k <;> rfl

@[simp] theorem PerInput.get_mapKey {α β : Type} (t : PerInput α) (f : PlantInput → α → β) (k : PlantInput) :
    (t.mapKey f).get k = f k (t.get k) := by cases k <;> rfl

@[simp] theorem PerBank.get_set_self {α : Type} (t : PerBank α) (k : Bank) (x : α) : (t.set k x).get k = x := by
  cases k <;> rfl

theorem PerBank.get_set_ne {α : Type} (t : PerBank α) (k j : Bank) (x : α) (h : j ≠ k) : (t.set k x).get j = t.get j := by
  cases k <;> cases j <;> first | rfl | exact absurd rfl h

theorem PerBank.get_set {α : Type} (t : PerBank α) (k j : Bank) (x : α) :
    (t.set k x).get j = if j = k then x else t.get j := by
  by_cases h : j = k
  · subst h; simp
  · simp [h, PerBank.get_set_ne t k j x h]

@[simp] theorem PerBank.get_fill {α : Type} (x : α) (k : Bank) : (PerBank.fill x).get k = x := by cases k <;> rfl

@[simp] theorem PerBank.get_mapKey {α β : Type} (t : PerBank α) (f : Bank → α → β) (k : Bank) :
    (t.mapKey f).get k = f k (t.get k) := by cases k <;> rfl

@[simp] theorem PerCode.get_set_self {α : Type} (t : PerCode α) (k : ValidityCode) (x : α) : (t.set k x).get k = x := by
  cases k <;> rfl

theorem PerCode.get_set_ne {α : Type} (t : PerCode α) (k j : ValidityCode) (x : α) (h : j ≠ k) : (t.set k x).get j = t.get j := by
  cases k <;> cases j <;> first | rfl | exact absurd rfl h

theorem PerCode.get_set {α : Type} (t : PerCode α) (k j : ValidityCode) (x : α) :
    (t.set k x).get j = if j = k then x else t.get j := by
  by_cases h : j = k
  · subst h; simp
  · simp [h, PerCode.get_set_ne t k j x h]

@[simp] theorem PerCode.get_fill {α : Type} (x : α) (k : ValidityCode) : (PerCode.fill x).get k = x := by cases k <;> rfl

@[simp] theorem PerCode.get_mapKey {α β : Type} (t : PerCode α) (f : ValidityCode → α → β) (k : ValidityCode) :
    (t.mapKey f).get k = f k (t.get k) := by cases k <;> rfl

@[simp] theorem PerEvent.get_set_self {α : Type} (t : PerEvent α) (k : EventKind) (x : α) : (t.set k x).get k = x := by
  cases k <;> rfl

theorem PerEvent.get_set_ne {α : Type} (t : PerEvent α) (k j : EventKind) (x : α) (h : j ≠ k) : (t.set k x).get j = t.get j := by
  cases k <;> cases j <;> first | rfl | exact absurd rfl h

theorem PerEvent.get_set {α : Type} (t : PerEvent α) (k j : EventKind) (x : α) :
    (t.set k x).get j = if j = k then x else t.get j := by
  by_cases h : j = k
  · subst h; simp
  · simp [h, PerEvent.get_set_ne t k j x h]

@[simp] theorem PerEvent.get_fill {α : Type} (x : α) (k : EventKind) : (PerEvent.fill x).get k = x := by cases k <;> rfl

@[simp] theorem PerEvent.get_mapKey {α β : Type} (t : PerEvent α) (f : EventKind → α → β) (k : EventKind) :
    (t.mapKey f).get k = f k (t.get k) := by cases k <;> rfl

/-- A group is the one its branch and its direction name. -/
@[simp] theorem Branch.group_branch_direction (g : Group) : g.branch.group g.direction = g := by cases g <;> rfl

@[simp] theorem Branch.branch_group (b : Branch) (d : Direction) : (b.group d).branch = b := by cases b <;> cases d <;> rfl

end Sys2Proof
end

