-- ==== Sys2Proof/Laws/State.lean ====
section
/-! SUPPORT. What each update of the state leaves as it was, one lemma per field, true by unfolding; and what it writes. -/

namespace Sys2Proof.Machine

/-! `modTrack`: one branch's tracking items. -/

@[simp] theorem modTrack_pins (b : Branch) (f : Track → Track) (s : State) : (modTrack b f s).pins = s.pins := rfl
@[simp] theorem modTrack_clock (b : Branch) (f : Track → Track) (s : State) : (modTrack b f s).clock = s.clock := rfl
@[simp] theorem modTrack_oc (b : Branch) (f : Track → Track) (s : State) : (modTrack b f s).oc = s.oc := rfl
@[simp] theorem modTrack_slr (b : Branch) (f : Track → Track) (s : State) : (modTrack b f s).slr = s.slr := rfl
@[simp] theorem modTrack_ct_settings (b : Branch) (f : Track → Track) (s : State) : (modTrack b f s).ct.settings = s.ct.settings :=
  rfl
@[simp] theorem modTrack_ct_nominal (b : Branch) (f : Track → Track) (s : State) : (modTrack b f s).ct.nominal = s.ct.nominal := rfl
@[simp] theorem modTrack_ct_progress (b : Branch) (f : Track → Track) (s : State) : (modTrack b f s).ct.progress = s.ct.progress :=
  rfl
@[simp] theorem modTrack_bdu (b : Branch) (f : Track → Track) (s : State) : (modTrack b f s).bdu = s.bdu := rfl
@[simp] theorem modTrack_table (b : Branch) (f : Track → Track) (s : State) : (modTrack b f s).table = s.table := rfl
@[simp] theorem modTrack_vlc (b : Branch) (f : Track → Track) (s : State) : (modTrack b f s).vlc = s.vlc := rfl
@[simp] theorem modTrack_causes (b : Branch) (f : Track → Track) (s : State) : (modTrack b f s).causes = s.causes := rfl
@[simp] theorem modTrack_pli (b : Branch) (f : Track → Track) (s : State) : (modTrack b f s).pli = s.pli := rfl
@[simp] theorem modTrack_hr (b : Branch) (f : Track → Track) (s : State) : (modTrack b f s).hr = s.hr := rfl
@[simp] theorem modTrack_sli (b : Branch) (f : Track → Track) (s : State) : (modTrack b f s).sli = s.sli := rfl
@[simp] theorem modTrack_pending (b : Branch) (f : Track → Track) (s : State) : (modTrack b f s).pending = s.pending := rfl

/-! `modDemand`: one branch's demand items. -/

@[simp] theorem modDemand_pins (b : Branch) (f : BranchDemand → BranchDemand) (s : State) : (modDemand b f s).pins = s.pins := rfl
@[simp] theorem modDemand_clock (b : Branch) (f : BranchDemand → BranchDemand) (s : State) : (modDemand b f s).clock = s.clock :=
  rfl
@[simp] theorem modDemand_oc (b : Branch) (f : BranchDemand → BranchDemand) (s : State) : (modDemand b f s).oc = s.oc := rfl
@[simp] theorem modDemand_slr (b : Branch) (f : BranchDemand → BranchDemand) (s : State) : (modDemand b f s).slr = s.slr := rfl
@[simp] theorem modDemand_ct (b : Branch) (f : BranchDemand → BranchDemand) (s : State) : (modDemand b f s).ct = s.ct := rfl
@[simp] theorem modDemand_bdu_shares (b : Branch) (f : BranchDemand → BranchDemand) (s : State) : (modDemand b f s).bdu.shares = s.bdu.shares :=
  rfl
@[simp] theorem modDemand_bdu_lines (b : Branch) (f : BranchDemand → BranchDemand) (s : State) : (modDemand b f s).bdu.lines = s.bdu.lines :=
  rfl
@[simp] theorem modDemand_table (b : Branch) (f : BranchDemand → BranchDemand) (s : State) : (modDemand b f s).table = s.table :=
  rfl
@[simp] theorem modDemand_vlc (b : Branch) (f : BranchDemand → BranchDemand) (s : State) : (modDemand b f s).vlc = s.vlc := rfl
@[simp] theorem modDemand_causes (b : Branch) (f : BranchDemand → BranchDemand) (s : State) : (modDemand b f s).causes = s.causes :=
  rfl
@[simp] theorem modDemand_pli (b : Branch) (f : BranchDemand → BranchDemand) (s : State) : (modDemand b f s).pli = s.pli := rfl
@[simp] theorem modDemand_hr (b : Branch) (f : BranchDemand → BranchDemand) (s : State) : (modDemand b f s).hr = s.hr := rfl
@[simp] theorem modDemand_sli (b : Branch) (f : BranchDemand → BranchDemand) (s : State) : (modDemand b f s).sli = s.sli := rfl
@[simp] theorem modDemand_pending (b : Branch) (f : BranchDemand → BranchDemand) (s : State) : (modDemand b f s).pending = s.pending :=
  rfl

/-! `modChannel`: one channel's items. -/

@[simp] theorem modChannel_pins (c : ValveChannel) (f : ChannelState → ChannelState) (s : State) : (modChannel c f s).pins = s.pins :=
  rfl
@[simp] theorem modChannel_clock (c : ValveChannel) (f : ChannelState → ChannelState) (s : State) : (modChannel c f s).clock = s.clock :=
  rfl
@[simp] theorem modChannel_oc (c : ValveChannel) (f : ChannelState → ChannelState) (s : State) : (modChannel c f s).oc = s.oc := rfl
@[simp] theorem modChannel_slr (c : ValveChannel) (f : ChannelState → ChannelState) (s : State) : (modChannel c f s).slr = s.slr :=
  rfl
@[simp] theorem modChannel_ct (c : ValveChannel) (f : ChannelState → ChannelState) (s : State) : (modChannel c f s).ct = s.ct := rfl
@[simp] theorem modChannel_bdu (c : ValveChannel) (f : ChannelState → ChannelState) (s : State) : (modChannel c f s).bdu = s.bdu :=
  rfl
@[simp] theorem modChannel_table (c : ValveChannel) (f : ChannelState → ChannelState) (s : State) : (modChannel c f s).table = s.table :=
  rfl
@[simp] theorem modChannel_vlc_map (c : ValveChannel) (f : ChannelState → ChannelState) (s : State) : (modChannel c f s).vlc.map = s.vlc.map :=
  rfl
@[simp] theorem modChannel_vlc_groups (c : ValveChannel) (f : ChannelState → ChannelState) (s : State) : (modChannel c f s).vlc.groups = s.vlc.groups :=
  rfl
@[simp] theorem modChannel_vlc_firing (c : ValveChannel) (f : ChannelState → ChannelState) (s : State) : (modChannel c f s).vlc.firing = s.vlc.firing :=
  rfl
@[simp] theorem modChannel_vlc_settings (c : ValveChannel) (f : ChannelState → ChannelState) (s : State) : (modChannel c f s).vlc.settings = s.vlc.settings :=
  rfl
@[simp] theorem modChannel_causes (c : ValveChannel) (f : ChannelState → ChannelState) (s : State) : (modChannel c f s).causes = s.causes :=
  rfl
@[simp] theorem modChannel_pli (c : ValveChannel) (f : ChannelState → ChannelState) (s : State) : (modChannel c f s).pli = s.pli :=
  rfl
@[simp] theorem modChannel_hr (c : ValveChannel) (f : ChannelState → ChannelState) (s : State) : (modChannel c f s).hr = s.hr := rfl
@[simp] theorem modChannel_sli (c : ValveChannel) (f : ChannelState → ChannelState) (s : State) : (modChannel c f s).sli = s.sli :=
  rfl
@[simp] theorem modChannel_pending (c : ValveChannel) (f : ChannelState → ChannelState) (s : State) : (modChannel c f s).pending = s.pending :=
  rfl

/-! `modGroup`: one group's items. -/

@[simp] theorem modGroup_pins (g : Group) (f : GroupState → GroupState) (s : State) : (modGroup g f s).pins = s.pins := rfl
@[simp] theorem modGroup_clock (g : Group) (f : GroupState → GroupState) (s : State) : (modGroup g f s).clock = s.clock := rfl
@[simp] theorem modGroup_oc (g : Group) (f : GroupState → GroupState) (s : State) : (modGroup g f s).oc = s.oc := rfl
@[simp] theorem modGroup_slr (g : Group) (f : GroupState → GroupState) (s : State) : (modGroup g f s).slr = s.slr := rfl
@[simp] theorem modGroup_ct (g : Group) (f : GroupState → GroupState) (s : State) : (modGroup g f s).ct = s.ct := rfl
@[simp] theorem modGroup_bdu (g : Group) (f : GroupState → GroupState) (s : State) : (modGroup g f s).bdu = s.bdu := rfl
@[simp] theorem modGroup_table (g : Group) (f : GroupState → GroupState) (s : State) : (modGroup g f s).table = s.table := rfl
@[simp] theorem modGroup_vlc_map (g : Group) (f : GroupState → GroupState) (s : State) : (modGroup g f s).vlc.map = s.vlc.map := rfl
@[simp] theorem modGroup_vlc_channels (g : Group) (f : GroupState → GroupState) (s : State) : (modGroup g f s).vlc.channels = s.vlc.channels :=
  rfl
@[simp] theorem modGroup_vlc_firing (g : Group) (f : GroupState → GroupState) (s : State) : (modGroup g f s).vlc.firing = s.vlc.firing :=
  rfl
@[simp] theorem modGroup_vlc_settings (g : Group) (f : GroupState → GroupState) (s : State) : (modGroup g f s).vlc.settings = s.vlc.settings :=
  rfl
@[simp] theorem modGroup_causes (g : Group) (f : GroupState → GroupState) (s : State) : (modGroup g f s).causes = s.causes := rfl
@[simp] theorem modGroup_pli (g : Group) (f : GroupState → GroupState) (s : State) : (modGroup g f s).pli = s.pli := rfl
@[simp] theorem modGroup_hr (g : Group) (f : GroupState → GroupState) (s : State) : (modGroup g f s).hr = s.hr := rfl
@[simp] theorem modGroup_sli (g : Group) (f : GroupState → GroupState) (s : State) : (modGroup g f s).sli = s.sli := rfl
@[simp] theorem modGroup_pending (g : Group) (f : GroupState → GroupState) (s : State) : (modGroup g f s).pending = s.pending := rfl

/-! `modGroupCounters`: one group's counters. -/

@[simp] theorem modGroupCounters_pins (g : Group) (f : GroupCounters → GroupCounters) (s : State) : (modGroupCounters g f s).pins = s.pins :=
  rfl
@[simp] theorem modGroupCounters_clock (g : Group) (f : GroupCounters → GroupCounters) (s : State) : (modGroupCounters g f s).clock = s.clock :=
  rfl
@[simp] theorem modGroupCounters_oc (g : Group) (f : GroupCounters → GroupCounters) (s : State) : (modGroupCounters g f s).oc = s.oc :=
  rfl
@[simp] theorem modGroupCounters_slr (g : Group) (f : GroupCounters → GroupCounters) (s : State) : (modGroupCounters g f s).slr = s.slr :=
  rfl
@[simp] theorem modGroupCounters_ct (g : Group) (f : GroupCounters → GroupCounters) (s : State) : (modGroupCounters g f s).ct = s.ct :=
  rfl
@[simp] theorem modGroupCounters_bdu (g : Group) (f : GroupCounters → GroupCounters) (s : State) : (modGroupCounters g f s).bdu = s.bdu :=
  rfl
@[simp] theorem modGroupCounters_table (g : Group) (f : GroupCounters → GroupCounters) (s : State) : (modGroupCounters g f s).table = s.table :=
  rfl
@[simp] theorem modGroupCounters_vlc_map (g : Group) (f : GroupCounters → GroupCounters) (s : State) : (modGroupCounters g f s).vlc.map = s.vlc.map :=
  rfl
@[simp] theorem modGroupCounters_vlc_channels (g : Group) (f : GroupCounters → GroupCounters) (s : State) : (modGroupCounters g f s).vlc.channels = s.vlc.channels :=
  rfl
@[simp] theorem modGroupCounters_vlc_firing (g : Group) (f : GroupCounters → GroupCounters) (s : State) : (modGroupCounters g f s).vlc.firing = s.vlc.firing :=
  rfl
@[simp] theorem modGroupCounters_vlc_settings (g : Group) (f : GroupCounters → GroupCounters) (s : State) : (modGroupCounters g f s).vlc.settings = s.vlc.settings :=
  rfl
@[simp] theorem modGroupCounters_causes (g : Group) (f : GroupCounters → GroupCounters) (s : State) : (modGroupCounters g f s).causes = s.causes :=
  rfl
@[simp] theorem modGroupCounters_pli (g : Group) (f : GroupCounters → GroupCounters) (s : State) : (modGroupCounters g f s).pli = s.pli :=
  rfl
@[simp] theorem modGroupCounters_hr (g : Group) (f : GroupCounters → GroupCounters) (s : State) : (modGroupCounters g f s).hr = s.hr :=
  rfl
@[simp] theorem modGroupCounters_sli (g : Group) (f : GroupCounters → GroupCounters) (s : State) : (modGroupCounters g f s).sli = s.sli :=
  rfl
@[simp] theorem modGroupCounters_pending (g : Group) (f : GroupCounters → GroupCounters) (s : State) : (modGroupCounters g f s).pending = s.pending :=
  rfl

/-! `modFiring`: one branch's firing items. -/

@[simp] theorem modFiring_pins (b : Branch) (f : Firing → Firing) (s : State) : (modFiring b f s).pins = s.pins := rfl
@[simp] theorem modFiring_clock (b : Branch) (f : Firing → Firing) (s : State) : (modFiring b f s).clock = s.clock := rfl
@[simp] theorem modFiring_oc (b : Branch) (f : Firing → Firing) (s : State) : (modFiring b f s).oc = s.oc := rfl
@[simp] theorem modFiring_slr (b : Branch) (f : Firing → Firing) (s : State) : (modFiring b f s).slr = s.slr := rfl
@[simp] theorem modFiring_ct (b : Branch) (f : Firing → Firing) (s : State) : (modFiring b f s).ct = s.ct := rfl
@[simp] theorem modFiring_bdu (b : Branch) (f : Firing → Firing) (s : State) : (modFiring b f s).bdu = s.bdu := rfl
@[simp] theorem modFiring_table (b : Branch) (f : Firing → Firing) (s : State) : (modFiring b f s).table = s.table := rfl
@[simp] theorem modFiring_vlc_map (b : Branch) (f : Firing → Firing) (s : State) : (modFiring b f s).vlc.map = s.vlc.map := rfl
@[simp] theorem modFiring_vlc_channels (b : Branch) (f : Firing → Firing) (s : State) : (modFiring b f s).vlc.channels = s.vlc.channels :=
  rfl
@[simp] theorem modFiring_vlc_groups (b : Branch) (f : Firing → Firing) (s : State) : (modFiring b f s).vlc.groups = s.vlc.groups :=
  rfl
@[simp] theorem modFiring_vlc_settings (b : Branch) (f : Firing → Firing) (s : State) : (modFiring b f s).vlc.settings = s.vlc.settings :=
  rfl
@[simp] theorem modFiring_causes (b : Branch) (f : Firing → Firing) (s : State) : (modFiring b f s).causes = s.causes := rfl
@[simp] theorem modFiring_pli (b : Branch) (f : Firing → Firing) (s : State) : (modFiring b f s).pli = s.pli := rfl
@[simp] theorem modFiring_hr (b : Branch) (f : Firing → Firing) (s : State) : (modFiring b f s).hr = s.hr := rfl
@[simp] theorem modFiring_sli (b : Branch) (f : Firing → Firing) (s : State) : (modFiring b f s).sli = s.sli := rfl
@[simp] theorem modFiring_pending (b : Branch) (f : Firing → Firing) (s : State) : (modFiring b f s).pending = s.pending := rfl

/-! `modInput`: one input's items. -/

@[simp] theorem modInput_pins (i : PlantInput) (f : InputState → InputState) (s : State) : (modInput i f s).pins = s.pins := rfl
@[simp] theorem modInput_clock (i : PlantInput) (f : InputState → InputState) (s : State) : (modInput i f s).clock = s.clock := rfl
@[simp] theorem modInput_oc (i : PlantInput) (f : InputState → InputState) (s : State) : (modInput i f s).oc = s.oc := rfl
@[simp] theorem modInput_slr (i : PlantInput) (f : InputState → InputState) (s : State) : (modInput i f s).slr = s.slr := rfl
@[simp] theorem modInput_ct (i : PlantInput) (f : InputState → InputState) (s : State) : (modInput i f s).ct = s.ct := rfl
@[simp] theorem modInput_bdu (i : PlantInput) (f : InputState → InputState) (s : State) : (modInput i f s).bdu = s.bdu := rfl
@[simp] theorem modInput_table (i : PlantInput) (f : InputState → InputState) (s : State) : (modInput i f s).table = s.table := rfl
@[simp] theorem modInput_vlc (i : PlantInput) (f : InputState → InputState) (s : State) : (modInput i f s).vlc = s.vlc := rfl
@[simp] theorem modInput_causes (i : PlantInput) (f : InputState → InputState) (s : State) : (modInput i f s).causes = s.causes :=
  rfl
@[simp] theorem modInput_pli_settling (i : PlantInput) (f : InputState → InputState) (s : State) : (modInput i f s).pli.settling = s.pli.settling :=
  rfl
@[simp] theorem modInput_pli_latch (i : PlantInput) (f : InputState → InputState) (s : State) : (modInput i f s).pli.latch = s.pli.latch :=
  rfl
@[simp] theorem modInput_pli_lastCancel (i : PlantInput) (f : InputState → InputState) (s : State) : (modInput i f s).pli.lastCancel = s.pli.lastCancel :=
  rfl
@[simp] theorem modInput_pli_lastApplication (i : PlantInput) (f : InputState → InputState) (s : State) : (modInput i f s).pli.lastApplication = s.pli.lastApplication :=
  rfl
@[simp] theorem modInput_pli_applications (i : PlantInput) (f : InputState → InputState) (s : State) : (modInput i f s).pli.applications = s.pli.applications :=
  rfl
@[simp] theorem modInput_pli_cancellations (i : PlantInput) (f : InputState → InputState) (s : State) : (modInput i f s).pli.cancellations = s.pli.cancellations :=
  rfl
@[simp] theorem modInput_hr (i : PlantInput) (f : InputState → InputState) (s : State) : (modInput i f s).hr = s.hr := rfl
@[simp] theorem modInput_sli (i : PlantInput) (f : InputState → InputState) (s : State) : (modInput i f s).sli = s.sli := rfl
@[simp] theorem modInput_pending (i : PlantInput) (f : InputState → InputState) (s : State) : (modInput i f s).pending = s.pending :=
  rfl

/-! `modLinkCounters`: the link counters. -/

@[simp] theorem modLinkCounters_pins (f : LinkCounters → LinkCounters) (s : State) : (modLinkCounters f s).pins = s.pins := rfl
@[simp] theorem modLinkCounters_clock (f : LinkCounters → LinkCounters) (s : State) : (modLinkCounters f s).clock = s.clock := rfl
@[simp] theorem modLinkCounters_oc (f : LinkCounters → LinkCounters) (s : State) : (modLinkCounters f s).oc = s.oc := rfl
@[simp] theorem modLinkCounters_slr_link (f : LinkCounters → LinkCounters) (s : State) : (modLinkCounters f s).slr.link = s.slr.link :=
  rfl
@[simp] theorem modLinkCounters_slr_expected (f : LinkCounters → LinkCounters) (s : State) : (modLinkCounters f s).slr.expected = s.slr.expected :=
  rfl
@[simp] theorem modLinkCounters_slr_frameIndex (f : LinkCounters → LinkCounters) (s : State) : (modLinkCounters f s).slr.frameIndex = s.slr.frameIndex :=
  rfl
@[simp] theorem modLinkCounters_slr_gap (f : LinkCounters → LinkCounters) (s : State) : (modLinkCounters f s).slr.gap = s.slr.gap :=
  rfl
@[simp] theorem modLinkCounters_slr_gapRunning (f : LinkCounters → LinkCounters) (s : State) : (modLinkCounters f s).slr.gapRunning = s.slr.gapRunning :=
  rfl
@[simp] theorem modLinkCounters_slr_primary (f : LinkCounters → LinkCounters) (s : State) : (modLinkCounters f s).slr.primary = s.slr.primary :=
  rfl
@[simp] theorem modLinkCounters_slr_chains (f : LinkCounters → LinkCounters) (s : State) : (modLinkCounters f s).slr.chains = s.slr.chains :=
  rfl
@[simp] theorem modLinkCounters_slr_quantities (f : LinkCounters → LinkCounters) (s : State) : (modLinkCounters f s).slr.quantities = s.slr.quantities :=
  rfl
@[simp] theorem modLinkCounters_slr_block (f : LinkCounters → LinkCounters) (s : State) : (modLinkCounters f s).slr.block = s.slr.block :=
  rfl
@[simp] theorem modLinkCounters_slr_tolerance (f : LinkCounters → LinkCounters) (s : State) : (modLinkCounters f s).slr.tolerance = s.slr.tolerance :=
  rfl
@[simp] theorem modLinkCounters_ct (f : LinkCounters → LinkCounters) (s : State) : (modLinkCounters f s).ct = s.ct := rfl
@[simp] theorem modLinkCounters_bdu (f : LinkCounters → LinkCounters) (s : State) : (modLinkCounters f s).bdu = s.bdu := rfl
@[simp] theorem modLinkCounters_table (f : LinkCounters → LinkCounters) (s : State) : (modLinkCounters f s).table = s.table := rfl
@[simp] theorem modLinkCounters_vlc (f : LinkCounters → LinkCounters) (s : State) : (modLinkCounters f s).vlc = s.vlc := rfl
@[simp] theorem modLinkCounters_causes (f : LinkCounters → LinkCounters) (s : State) : (modLinkCounters f s).causes = s.causes :=
  rfl
@[simp] theorem modLinkCounters_pli (f : LinkCounters → LinkCounters) (s : State) : (modLinkCounters f s).pli = s.pli := rfl
@[simp] theorem modLinkCounters_hr (f : LinkCounters → LinkCounters) (s : State) : (modLinkCounters f s).hr = s.hr := rfl
@[simp] theorem modLinkCounters_sli (f : LinkCounters → LinkCounters) (s : State) : (modLinkCounters f s).sli = s.sli := rfl
@[simp] theorem modLinkCounters_pending (f : LinkCounters → LinkCounters) (s : State) : (modLinkCounters f s).pending = s.pending :=
  rfl

/-! `modLineCounters`: the line counters. -/

@[simp] theorem modLineCounters_pins (f : LineCounters → LineCounters) (s : State) : (modLineCounters f s).pins = s.pins := rfl
@[simp] theorem modLineCounters_clock (f : LineCounters → LineCounters) (s : State) : (modLineCounters f s).clock = s.clock := rfl
@[simp] theorem modLineCounters_oc (f : LineCounters → LineCounters) (s : State) : (modLineCounters f s).oc = s.oc := rfl
@[simp] theorem modLineCounters_slr (f : LineCounters → LineCounters) (s : State) : (modLineCounters f s).slr = s.slr := rfl
@[simp] theorem modLineCounters_ct (f : LineCounters → LineCounters) (s : State) : (modLineCounters f s).ct = s.ct := rfl
@[simp] theorem modLineCounters_bdu (f : LineCounters → LineCounters) (s : State) : (modLineCounters f s).bdu = s.bdu := rfl
@[simp] theorem modLineCounters_table (f : LineCounters → LineCounters) (s : State) : (modLineCounters f s).table = s.table := rfl
@[simp] theorem modLineCounters_vlc (f : LineCounters → LineCounters) (s : State) : (modLineCounters f s).vlc = s.vlc := rfl
@[simp] theorem modLineCounters_causes (f : LineCounters → LineCounters) (s : State) : (modLineCounters f s).causes = s.causes :=
  rfl
@[simp] theorem modLineCounters_pli (f : LineCounters → LineCounters) (s : State) : (modLineCounters f s).pli = s.pli := rfl
@[simp] theorem modLineCounters_hr (f : LineCounters → LineCounters) (s : State) : (modLineCounters f s).hr = s.hr := rfl
@[simp] theorem modLineCounters_sli_address (f : LineCounters → LineCounters) (s : State) : (modLineCounters f s).sli.address = s.sli.address :=
  rfl
@[simp] theorem modLineCounters_sli_rate (f : LineCounters → LineCounters) (s : State) : (modLineCounters f s).sli.rate = s.sli.rate :=
  rfl
@[simp] theorem modLineCounters_sli_receive (f : LineCounters → LineCounters) (s : State) : (modLineCounters f s).sli.receive = s.sli.receive :=
  rfl
@[simp] theorem modLineCounters_sli_assembly (f : LineCounters → LineCounters) (s : State) : (modLineCounters f s).sli.assembly = s.sli.assembly :=
  rfl
@[simp] theorem modLineCounters_sli_events (f : LineCounters → LineCounters) (s : State) : (modLineCounters f s).sli.events = s.sli.events :=
  rfl
@[simp] theorem modLineCounters_sli_mask (f : LineCounters → LineCounters) (s : State) : (modLineCounters f s).sli.mask = s.sli.mask :=
  rfl
@[simp] theorem modLineCounters_sli_resetCause (f : LineCounters → LineCounters) (s : State) : (modLineCounters f s).sli.resetCause = s.sli.resetCause :=
  rfl
@[simp] theorem modLineCounters_sli_resetCount (f : LineCounters → LineCounters) (s : State) : (modLineCounters f s).sli.resetCount = s.sli.resetCount :=
  rfl
@[simp] theorem modLineCounters_sli_reply (f : LineCounters → LineCounters) (s : State) : (modLineCounters f s).sli.reply = s.sli.reply :=
  rfl
@[simp] theorem modLineCounters_sli_driving (f : LineCounters → LineCounters) (s : State) : (modLineCounters f s).sli.driving = s.sli.driving :=
  rfl
@[simp] theorem modLineCounters_sli_output (f : LineCounters → LineCounters) (s : State) : (modLineCounters f s).sli.output = s.sli.output :=
  rfl
@[simp] theorem modLineCounters_pending (f : LineCounters → LineCounters) (s : State) : (modLineCounters f s).pending = s.pending :=
  rfl

/-! `modWindow`: one branch's window. -/

@[simp] theorem modWindow_pins (b : Branch) (f : Window → Window) (s : State) : (modWindow b f s).pins = s.pins := rfl
@[simp] theorem modWindow_clock (b : Branch) (f : Window → Window) (s : State) : (modWindow b f s).clock = s.clock := rfl
@[simp] theorem modWindow_oc (b : Branch) (f : Window → Window) (s : State) : (modWindow b f s).oc = s.oc := rfl
@[simp] theorem modWindow_slr (b : Branch) (f : Window → Window) (s : State) : (modWindow b f s).slr = s.slr := rfl
@[simp] theorem modWindow_ct (b : Branch) (f : Window → Window) (s : State) : (modWindow b f s).ct = s.ct := rfl
@[simp] theorem modWindow_bdu_shares (b : Branch) (f : Window → Window) (s : State) : (modWindow b f s).bdu.shares = s.bdu.shares :=
  rfl
@[simp] theorem modWindow_bdu_lines (b : Branch) (f : Window → Window) (s : State) : (modWindow b f s).bdu.lines = s.bdu.lines :=
  rfl
@[simp] theorem modWindow_table (b : Branch) (f : Window → Window) (s : State) : (modWindow b f s).table = s.table := rfl
@[simp] theorem modWindow_vlc (b : Branch) (f : Window → Window) (s : State) : (modWindow b f s).vlc = s.vlc := rfl
@[simp] theorem modWindow_causes (b : Branch) (f : Window → Window) (s : State) : (modWindow b f s).causes = s.causes := rfl
@[simp] theorem modWindow_pli (b : Branch) (f : Window → Window) (s : State) : (modWindow b f s).pli = s.pli := rfl
@[simp] theorem modWindow_hr (b : Branch) (f : Window → Window) (s : State) : (modWindow b f s).hr = s.hr := rfl
@[simp] theorem modWindow_sli (b : Branch) (f : Window → Window) (s : State) : (modWindow b f s).sli = s.sli := rfl
@[simp] theorem modWindow_pending (b : Branch) (f : Window → Window) (s : State) : (modWindow b f s).pending = s.pending := rfl

/-! `noteEvent`: the event summary. -/

@[simp] theorem noteEvent_pins (k : EventKind) (s : State) : (noteEvent k s).pins = s.pins := rfl
@[simp] theorem noteEvent_clock (k : EventKind) (s : State) : (noteEvent k s).clock = s.clock := rfl
@[simp] theorem noteEvent_oc (k : EventKind) (s : State) : (noteEvent k s).oc = s.oc := rfl
@[simp] theorem noteEvent_slr (k : EventKind) (s : State) : (noteEvent k s).slr = s.slr := rfl
@[simp] theorem noteEvent_ct (k : EventKind) (s : State) : (noteEvent k s).ct = s.ct := rfl
@[simp] theorem noteEvent_bdu (k : EventKind) (s : State) : (noteEvent k s).bdu = s.bdu := rfl
@[simp] theorem noteEvent_table (k : EventKind) (s : State) : (noteEvent k s).table = s.table := rfl
@[simp] theorem noteEvent_vlc (k : EventKind) (s : State) : (noteEvent k s).vlc = s.vlc := rfl
@[simp] theorem noteEvent_causes (k : EventKind) (s : State) : (noteEvent k s).causes = s.causes := rfl
@[simp] theorem noteEvent_pli (k : EventKind) (s : State) : (noteEvent k s).pli = s.pli := rfl
@[simp] theorem noteEvent_hr (k : EventKind) (s : State) : (noteEvent k s).hr = s.hr := rfl
@[simp] theorem noteEvent_sli_address (k : EventKind) (s : State) : (noteEvent k s).sli.address = s.sli.address := rfl
@[simp] theorem noteEvent_sli_rate (k : EventKind) (s : State) : (noteEvent k s).sli.rate = s.sli.rate := rfl
@[simp] theorem noteEvent_sli_receive (k : EventKind) (s : State) : (noteEvent k s).sli.receive = s.sli.receive := rfl
@[simp] theorem noteEvent_sli_assembly (k : EventKind) (s : State) : (noteEvent k s).sli.assembly = s.sli.assembly := rfl
@[simp] theorem noteEvent_sli_mask (k : EventKind) (s : State) : (noteEvent k s).sli.mask = s.sli.mask := rfl
@[simp] theorem noteEvent_sli_counters (k : EventKind) (s : State) : (noteEvent k s).sli.counters = s.sli.counters := rfl
@[simp] theorem noteEvent_sli_resetCause (k : EventKind) (s : State) : (noteEvent k s).sli.resetCause = s.sli.resetCause := rfl
@[simp] theorem noteEvent_sli_resetCount (k : EventKind) (s : State) : (noteEvent k s).sli.resetCount = s.sli.resetCount := rfl
@[simp] theorem noteEvent_sli_reply (k : EventKind) (s : State) : (noteEvent k s).sli.reply = s.sli.reply := rfl
@[simp] theorem noteEvent_sli_driving (k : EventKind) (s : State) : (noteEvent k s).sli.driving = s.sli.driving := rfl
@[simp] theorem noteEvent_sli_output (k : EventKind) (s : State) : (noteEvent k s).sli.output = s.sli.output := rfl
@[simp] theorem noteEvent_pending (k : EventKind) (s : State) : (noteEvent k s).pending = s.pending := rfl

/-! `refreshLines`: FALLBACK_ACTIVE. -/

@[simp] theorem refreshLines_pins (s : State) : (refreshLines s).pins = s.pins := rfl
@[simp] theorem refreshLines_clock (s : State) : (refreshLines s).clock = s.clock := rfl
@[simp] theorem refreshLines_oc_device (s : State) : (refreshLines s).oc.device = s.oc.device := rfl
@[simp] theorem refreshLines_oc_halt (s : State) : (refreshLines s).oc.halt = s.oc.halt := rfl
@[simp] theorem refreshLines_oc_tripRequest (s : State) : (refreshLines s).oc.tripRequest = s.oc.tripRequest := rfl
@[simp] theorem refreshLines_oc_lockFrequency (s : State) : (refreshLines s).oc.lockFrequency = s.oc.lockFrequency := rfl
@[simp] theorem refreshLines_slr (s : State) : (refreshLines s).slr = s.slr := rfl
@[simp] theorem refreshLines_ct (s : State) : (refreshLines s).ct = s.ct := rfl
@[simp] theorem refreshLines_bdu (s : State) : (refreshLines s).bdu = s.bdu := rfl
@[simp] theorem refreshLines_table (s : State) : (refreshLines s).table = s.table := rfl
@[simp] theorem refreshLines_vlc (s : State) : (refreshLines s).vlc = s.vlc := rfl
@[simp] theorem refreshLines_causes (s : State) : (refreshLines s).causes = s.causes := rfl
@[simp] theorem refreshLines_pli (s : State) : (refreshLines s).pli = s.pli := rfl
@[simp] theorem refreshLines_hr (s : State) : (refreshLines s).hr = s.hr := rfl
@[simp] theorem refreshLines_sli (s : State) : (refreshLines s).sli = s.sli := rfl
@[simp] theorem refreshLines_pending (s : State) : (refreshLines s).pending = s.pending := rfl

/-! `flushLines`: the delay lines. -/

@[simp] theorem flushLines_pins (s : State) : (flushLines s).pins = s.pins := rfl
@[simp] theorem flushLines_clock (s : State) : (flushLines s).clock = s.clock := rfl
@[simp] theorem flushLines_oc (s : State) : (flushLines s).oc = s.oc := rfl
@[simp] theorem flushLines_slr (s : State) : (flushLines s).slr = s.slr := rfl
@[simp] theorem flushLines_ct (s : State) : (flushLines s).ct = s.ct := rfl
@[simp] theorem flushLines_bdu_shares (s : State) : (flushLines s).bdu.shares = s.bdu.shares := rfl
@[simp] theorem flushLines_bdu_branches (s : State) : (flushLines s).bdu.branches = s.bdu.branches := rfl
@[simp] theorem flushLines_table (s : State) : (flushLines s).table = s.table := rfl
@[simp] theorem flushLines_vlc (s : State) : (flushLines s).vlc = s.vlc := rfl
@[simp] theorem flushLines_causes (s : State) : (flushLines s).causes = s.causes := rfl
@[simp] theorem flushLines_pli (s : State) : (flushLines s).pli = s.pli := rfl
@[simp] theorem flushLines_hr (s : State) : (flushLines s).hr = s.hr := rfl
@[simp] theorem flushLines_sli (s : State) : (flushLines s).sli = s.sli := rfl
@[simp] theorem flushLines_pending (s : State) : (flushLines s).pending = s.pending := rfl

/-! `abandonFiring`: marks, credits and the firing items. -/

@[simp] theorem abandonFiring_pins (s : State) : (abandonFiring s).pins = s.pins := rfl
@[simp] theorem abandonFiring_clock (s : State) : (abandonFiring s).clock = s.clock := rfl
@[simp] theorem abandonFiring_oc (s : State) : (abandonFiring s).oc = s.oc := rfl
@[simp] theorem abandonFiring_slr (s : State) : (abandonFiring s).slr = s.slr := rfl
@[simp] theorem abandonFiring_ct (s : State) : (abandonFiring s).ct = s.ct := rfl
@[simp] theorem abandonFiring_bdu (s : State) : (abandonFiring s).bdu = s.bdu := rfl
@[simp] theorem abandonFiring_table (s : State) : (abandonFiring s).table = s.table := rfl
@[simp] theorem abandonFiring_vlc_map (s : State) : (abandonFiring s).vlc.map = s.vlc.map := rfl
@[simp] theorem abandonFiring_vlc_channels (s : State) : (abandonFiring s).vlc.channels = s.vlc.channels := rfl
@[simp] theorem abandonFiring_vlc_settings (s : State) : (abandonFiring s).vlc.settings = s.vlc.settings := rfl
@[simp] theorem abandonFiring_causes (s : State) : (abandonFiring s).causes = s.causes := rfl
@[simp] theorem abandonFiring_pli (s : State) : (abandonFiring s).pli = s.pli := rfl
@[simp] theorem abandonFiring_hr (s : State) : (abandonFiring s).hr = s.hr := rfl
@[simp] theorem abandonFiring_sli (s : State) : (abandonFiring s).sli = s.sli := rfl
@[simp] theorem abandonFiring_pending (s : State) : (abandonFiring s).pending = s.pending := rfl

/-! `freeze`: the capture and the summary. -/

@[simp] theorem freeze_pins (s : State) : (freeze s).pins = s.pins := rfl
@[simp] theorem freeze_clock (s : State) : (freeze s).clock = s.clock := rfl
@[simp] theorem freeze_oc (s : State) : (freeze s).oc = s.oc := rfl
@[simp] theorem freeze_slr (s : State) : (freeze s).slr = s.slr := rfl
@[simp] theorem freeze_ct (s : State) : (freeze s).ct = s.ct := rfl
@[simp] theorem freeze_bdu (s : State) : (freeze s).bdu = s.bdu := rfl
@[simp] theorem freeze_table (s : State) : (freeze s).table = s.table := rfl
@[simp] theorem freeze_vlc (s : State) : (freeze s).vlc = s.vlc := rfl
@[simp] theorem freeze_causes (s : State) : (freeze s).causes = s.causes := rfl
@[simp] theorem freeze_pli (s : State) : (freeze s).pli = s.pli := rfl
@[simp] theorem freeze_hr_ring (s : State) : (freeze s).hr.ring = s.hr.ring := rfl
@[simp] theorem freeze_hr_nextSeq (s : State) : (freeze s).hr.nextSeq = s.hr.nextSeq := rfl
@[simp] theorem freeze_hr_triggers (s : State) : (freeze s).hr.triggers = s.hr.triggers := rfl
@[simp] theorem freeze_hr_post (s : State) : (freeze s).hr.post = s.hr.post := rfl
@[simp] theorem freeze_hr_remaining (s : State) : (freeze s).hr.remaining = s.hr.remaining := rfl
@[simp] theorem freeze_hr_trigger (s : State) : (freeze s).hr.trigger = s.hr.trigger := rfl
@[simp] theorem freeze_hr_ignored (s : State) : (freeze s).hr.ignored = s.hr.ignored := rfl
@[simp] theorem freeze_hr_wraps (s : State) : (freeze s).hr.wraps = s.hr.wraps := rfl
@[simp] theorem freeze_sli_address (s : State) : (freeze s).sli.address = s.sli.address := rfl
@[simp] theorem freeze_sli_rate (s : State) : (freeze s).sli.rate = s.sli.rate := rfl
@[simp] theorem freeze_sli_receive (s : State) : (freeze s).sli.receive = s.sli.receive := rfl
@[simp] theorem freeze_sli_assembly (s : State) : (freeze s).sli.assembly = s.sli.assembly := rfl
@[simp] theorem freeze_sli_mask (s : State) : (freeze s).sli.mask = s.sli.mask := rfl
@[simp] theorem freeze_sli_counters (s : State) : (freeze s).sli.counters = s.sli.counters := rfl
@[simp] theorem freeze_sli_resetCause (s : State) : (freeze s).sli.resetCause = s.sli.resetCause := rfl
@[simp] theorem freeze_sli_resetCount (s : State) : (freeze s).sli.resetCount = s.sli.resetCount := rfl
@[simp] theorem freeze_sli_reply (s : State) : (freeze s).sli.reply = s.sli.reply := rfl
@[simp] theorem freeze_sli_driving (s : State) : (freeze s).sli.driving = s.sli.driving := rfl
@[simp] theorem freeze_sli_output (s : State) : (freeze s).sli.output = s.sli.output := rfl
@[simp] theorem freeze_pending (s : State) : (freeze s).pending = s.pending := rfl

/-! `closeOvertaken`: the group's counters and the firing items. -/

@[simp] theorem closeOvertaken_pins (b : Branch) (t : Transaction) (s : State) : (closeOvertaken b t s).pins = s.pins := rfl
@[simp] theorem closeOvertaken_clock (b : Branch) (t : Transaction) (s : State) : (closeOvertaken b t s).clock = s.clock := rfl
@[simp] theorem closeOvertaken_oc (b : Branch) (t : Transaction) (s : State) : (closeOvertaken b t s).oc = s.oc := rfl
@[simp] theorem closeOvertaken_slr (b : Branch) (t : Transaction) (s : State) : (closeOvertaken b t s).slr = s.slr := rfl
@[simp] theorem closeOvertaken_ct (b : Branch) (t : Transaction) (s : State) : (closeOvertaken b t s).ct = s.ct := rfl
@[simp] theorem closeOvertaken_bdu (b : Branch) (t : Transaction) (s : State) : (closeOvertaken b t s).bdu = s.bdu := rfl
@[simp] theorem closeOvertaken_table (b : Branch) (t : Transaction) (s : State) : (closeOvertaken b t s).table = s.table := rfl
@[simp] theorem closeOvertaken_vlc_map (b : Branch) (t : Transaction) (s : State) : (closeOvertaken b t s).vlc.map = s.vlc.map :=
  rfl
@[simp] theorem closeOvertaken_vlc_channels (b : Branch) (t : Transaction) (s : State) : (closeOvertaken b t s).vlc.channels = s.vlc.channels :=
  rfl
@[simp] theorem closeOvertaken_vlc_settings (b : Branch) (t : Transaction) (s : State) : (closeOvertaken b t s).vlc.settings = s.vlc.settings :=
  rfl
@[simp] theorem closeOvertaken_causes (b : Branch) (t : Transaction) (s : State) : (closeOvertaken b t s).causes = s.causes := rfl
@[simp] theorem closeOvertaken_pli (b : Branch) (t : Transaction) (s : State) : (closeOvertaken b t s).pli = s.pli := rfl
@[simp] theorem closeOvertaken_hr (b : Branch) (t : Transaction) (s : State) : (closeOvertaken b t s).hr = s.hr := rfl
@[simp] theorem closeOvertaken_sli (b : Branch) (t : Transaction) (s : State) : (closeOvertaken b t s).sli = s.sli := rfl
@[simp] theorem closeOvertaken_pending (b : Branch) (t : Transaction) (s : State) : (closeOvertaken b t s).pending = s.pending :=
  rfl

/-! `openWindow`: one branch's window. -/

@[simp] theorem openWindow_pins (b : Branch) (first : Bool) (s : State) : (openWindow b first s).pins = s.pins := rfl
@[simp] theorem openWindow_clock (b : Branch) (first : Bool) (s : State) : (openWindow b first s).clock = s.clock := rfl
@[simp] theorem openWindow_oc (b : Branch) (first : Bool) (s : State) : (openWindow b first s).oc = s.oc := rfl
@[simp] theorem openWindow_slr (b : Branch) (first : Bool) (s : State) : (openWindow b first s).slr = s.slr := rfl
@[simp] theorem openWindow_ct (b : Branch) (first : Bool) (s : State) : (openWindow b first s).ct = s.ct := rfl
@[simp] theorem openWindow_bdu_shares (b : Branch) (first : Bool) (s : State) : (openWindow b first s).bdu.shares = s.bdu.shares :=
  rfl
@[simp] theorem openWindow_bdu_lines (b : Branch) (first : Bool) (s : State) : (openWindow b first s).bdu.lines = s.bdu.lines := rfl
@[simp] theorem openWindow_table (b : Branch) (first : Bool) (s : State) : (openWindow b first s).table = s.table := rfl
@[simp] theorem openWindow_vlc (b : Branch) (first : Bool) (s : State) : (openWindow b first s).vlc = s.vlc := rfl
@[simp] theorem openWindow_causes (b : Branch) (first : Bool) (s : State) : (openWindow b first s).causes = s.causes := rfl
@[simp] theorem openWindow_pli (b : Branch) (first : Bool) (s : State) : (openWindow b first s).pli = s.pli := rfl
@[simp] theorem openWindow_hr (b : Branch) (first : Bool) (s : State) : (openWindow b first s).hr = s.hr := rfl
@[simp] theorem openWindow_sli (b : Branch) (first : Bool) (s : State) : (openWindow b first s).sli = s.sli := rfl
@[simp] theorem openWindow_pending (b : Branch) (first : Bool) (s : State) : (openWindow b first s).pending = s.pending := rfl

/-! `hearChannel`: one channel's items. -/

@[simp] theorem hearChannel_pins (c : ValveChannel) (s : State) : (hearChannel c s).pins = s.pins := rfl
@[simp] theorem hearChannel_clock (c : ValveChannel) (s : State) : (hearChannel c s).clock = s.clock := rfl
@[simp] theorem hearChannel_oc (c : ValveChannel) (s : State) : (hearChannel c s).oc = s.oc := rfl
@[simp] theorem hearChannel_slr (c : ValveChannel) (s : State) : (hearChannel c s).slr = s.slr := rfl
@[simp] theorem hearChannel_ct (c : ValveChannel) (s : State) : (hearChannel c s).ct = s.ct := rfl
@[simp] theorem hearChannel_bdu (c : ValveChannel) (s : State) : (hearChannel c s).bdu = s.bdu := rfl
@[simp] theorem hearChannel_table (c : ValveChannel) (s : State) : (hearChannel c s).table = s.table := rfl
@[simp] theorem hearChannel_vlc_map (c : ValveChannel) (s : State) : (hearChannel c s).vlc.map = s.vlc.map := rfl
@[simp] theorem hearChannel_vlc_groups (c : ValveChannel) (s : State) : (hearChannel c s).vlc.groups = s.vlc.groups := rfl
@[simp] theorem hearChannel_vlc_firing (c : ValveChannel) (s : State) : (hearChannel c s).vlc.firing = s.vlc.firing := rfl
@[simp] theorem hearChannel_vlc_settings (c : ValveChannel) (s : State) : (hearChannel c s).vlc.settings = s.vlc.settings := rfl
@[simp] theorem hearChannel_causes (c : ValveChannel) (s : State) : (hearChannel c s).causes = s.causes := rfl
@[simp] theorem hearChannel_pli (c : ValveChannel) (s : State) : (hearChannel c s).pli = s.pli := rfl
@[simp] theorem hearChannel_hr (c : ValveChannel) (s : State) : (hearChannel c s).hr = s.hr := rfl
@[simp] theorem hearChannel_sli (c : ValveChannel) (s : State) : (hearChannel c s).sli = s.sli := rfl
@[simp] theorem hearChannel_pending (c : ValveChannel) (s : State) : (hearChannel c s).pending = s.pending := rfl

/-! `countFrameError`: one channel's items. -/

@[simp] theorem countFrameError_pins (c : ValveChannel) (s : State) : (countFrameError c s).pins = s.pins := rfl
@[simp] theorem countFrameError_clock (c : ValveChannel) (s : State) : (countFrameError c s).clock = s.clock := rfl
@[simp] theorem countFrameError_oc (c : ValveChannel) (s : State) : (countFrameError c s).oc = s.oc := rfl
@[simp] theorem countFrameError_slr (c : ValveChannel) (s : State) : (countFrameError c s).slr = s.slr := rfl
@[simp] theorem countFrameError_ct (c : ValveChannel) (s : State) : (countFrameError c s).ct = s.ct := rfl
@[simp] theorem countFrameError_bdu (c : ValveChannel) (s : State) : (countFrameError c s).bdu = s.bdu := rfl
@[simp] theorem countFrameError_table (c : ValveChannel) (s : State) : (countFrameError c s).table = s.table := rfl
@[simp] theorem countFrameError_vlc_map (c : ValveChannel) (s : State) : (countFrameError c s).vlc.map = s.vlc.map := rfl
@[simp] theorem countFrameError_vlc_groups (c : ValveChannel) (s : State) : (countFrameError c s).vlc.groups = s.vlc.groups := rfl
@[simp] theorem countFrameError_vlc_firing (c : ValveChannel) (s : State) : (countFrameError c s).vlc.firing = s.vlc.firing := rfl
@[simp] theorem countFrameError_vlc_settings (c : ValveChannel) (s : State) : (countFrameError c s).vlc.settings = s.vlc.settings :=
  rfl
@[simp] theorem countFrameError_causes (c : ValveChannel) (s : State) : (countFrameError c s).causes = s.causes := rfl
@[simp] theorem countFrameError_pli (c : ValveChannel) (s : State) : (countFrameError c s).pli = s.pli := rfl
@[simp] theorem countFrameError_hr (c : ValveChannel) (s : State) : (countFrameError c s).hr = s.hr := rfl
@[simp] theorem countFrameError_sli (c : ValveChannel) (s : State) : (countFrameError c s).sli = s.sli := rfl
@[simp] theorem countFrameError_pending (c : ValveChannel) (s : State) : (countFrameError c s).pending = s.pending := rfl

/-! `sendFire`: one channel's items. -/

@[simp] theorem sendFire_pins (g : Group) (tag : BitVec 4) (s : State) : (sendFire g tag s).pins = s.pins := rfl
@[simp] theorem sendFire_clock (g : Group) (tag : BitVec 4) (s : State) : (sendFire g tag s).clock = s.clock := rfl
@[simp] theorem sendFire_oc (g : Group) (tag : BitVec 4) (s : State) : (sendFire g tag s).oc = s.oc := rfl
@[simp] theorem sendFire_slr (g : Group) (tag : BitVec 4) (s : State) : (sendFire g tag s).slr = s.slr := rfl
@[simp] theorem sendFire_ct (g : Group) (tag : BitVec 4) (s : State) : (sendFire g tag s).ct = s.ct := rfl
@[simp] theorem sendFire_bdu (g : Group) (tag : BitVec 4) (s : State) : (sendFire g tag s).bdu = s.bdu := rfl
@[simp] theorem sendFire_table (g : Group) (tag : BitVec 4) (s : State) : (sendFire g tag s).table = s.table := rfl
@[simp] theorem sendFire_vlc_map (g : Group) (tag : BitVec 4) (s : State) : (sendFire g tag s).vlc.map = s.vlc.map := rfl
@[simp] theorem sendFire_vlc_groups (g : Group) (tag : BitVec 4) (s : State) : (sendFire g tag s).vlc.groups = s.vlc.groups := rfl
@[simp] theorem sendFire_vlc_firing (g : Group) (tag : BitVec 4) (s : State) : (sendFire g tag s).vlc.firing = s.vlc.firing := rfl
@[simp] theorem sendFire_vlc_settings (g : Group) (tag : BitVec 4) (s : State) : (sendFire g tag s).vlc.settings = s.vlc.settings :=
  rfl
@[simp] theorem sendFire_causes (g : Group) (tag : BitVec 4) (s : State) : (sendFire g tag s).causes = s.causes := rfl
@[simp] theorem sendFire_pli (g : Group) (tag : BitVec 4) (s : State) : (sendFire g tag s).pli = s.pli := rfl
@[simp] theorem sendFire_hr (g : Group) (tag : BitVec 4) (s : State) : (sendFire g tag s).hr = s.hr := rfl
@[simp] theorem sendFire_sli (g : Group) (tag : BitVec 4) (s : State) : (sendFire g tag s).sli = s.sli := rfl
@[simp] theorem sendFire_pending (g : Group) (tag : BitVec 4) (s : State) : (sendFire g tag s).pending = s.pending := rfl

/-! `settle`: one branch's firing items. -/

@[simp] theorem settle_pins (b : Branch) (o : Outcome) (n : Option Nat) (s : State) : (settle b o n s).pins = s.pins := rfl
@[simp] theorem settle_clock (b : Branch) (o : Outcome) (n : Option Nat) (s : State) : (settle b o n s).clock = s.clock := rfl
@[simp] theorem settle_oc (b : Branch) (o : Outcome) (n : Option Nat) (s : State) : (settle b o n s).oc = s.oc := rfl
@[simp] theorem settle_slr (b : Branch) (o : Outcome) (n : Option Nat) (s : State) : (settle b o n s).slr = s.slr := rfl
@[simp] theorem settle_ct (b : Branch) (o : Outcome) (n : Option Nat) (s : State) : (settle b o n s).ct = s.ct := rfl
@[simp] theorem settle_bdu (b : Branch) (o : Outcome) (n : Option Nat) (s : State) : (settle b o n s).bdu = s.bdu := rfl
@[simp] theorem settle_table (b : Branch) (o : Outcome) (n : Option Nat) (s : State) : (settle b o n s).table = s.table := rfl
@[simp] theorem settle_vlc_map (b : Branch) (o : Outcome) (n : Option Nat) (s : State) : (settle b o n s).vlc.map = s.vlc.map := rfl
@[simp] theorem settle_vlc_channels (b : Branch) (o : Outcome) (n : Option Nat) (s : State) : (settle b o n s).vlc.channels = s.vlc.channels :=
  rfl
@[simp] theorem settle_vlc_groups (b : Branch) (o : Outcome) (n : Option Nat) (s : State) : (settle b o n s).vlc.groups = s.vlc.groups :=
  rfl
@[simp] theorem settle_vlc_settings (b : Branch) (o : Outcome) (n : Option Nat) (s : State) : (settle b o n s).vlc.settings = s.vlc.settings :=
  rfl
@[simp] theorem settle_causes (b : Branch) (o : Outcome) (n : Option Nat) (s : State) : (settle b o n s).causes = s.causes := rfl
@[simp] theorem settle_pli (b : Branch) (o : Outcome) (n : Option Nat) (s : State) : (settle b o n s).pli = s.pli := rfl
@[simp] theorem settle_hr (b : Branch) (o : Outcome) (n : Option Nat) (s : State) : (settle b o n s).hr = s.hr := rfl
@[simp] theorem settle_sli (b : Branch) (o : Outcome) (n : Option Nat) (s : State) : (settle b o n s).sli = s.sli := rfl
@[simp] theorem settle_pending (b : Branch) (o : Outcome) (n : Option Nat) (s : State) : (settle b o n s).pending = s.pending := rfl

/-! `openTransaction`: channel, group and firing items. -/

@[simp] theorem openTransaction_pins (b : Branch) (g : Group) (n : Nat) (s : State) : (openTransaction b g n s).pins = s.pins := rfl
@[simp] theorem openTransaction_clock (b : Branch) (g : Group) (n : Nat) (s : State) : (openTransaction b g n s).clock = s.clock :=
  rfl
@[simp] theorem openTransaction_oc (b : Branch) (g : Group) (n : Nat) (s : State) : (openTransaction b g n s).oc = s.oc := rfl
@[simp] theorem openTransaction_slr (b : Branch) (g : Group) (n : Nat) (s : State) : (openTransaction b g n s).slr = s.slr := rfl
@[simp] theorem openTransaction_ct (b : Branch) (g : Group) (n : Nat) (s : State) : (openTransaction b g n s).ct = s.ct := rfl
@[simp] theorem openTransaction_bdu (b : Branch) (g : Group) (n : Nat) (s : State) : (openTransaction b g n s).bdu = s.bdu := rfl
@[simp] theorem openTransaction_table (b : Branch) (g : Group) (n : Nat) (s : State) : (openTransaction b g n s).table = s.table :=
  rfl
@[simp] theorem openTransaction_vlc_map (b : Branch) (g : Group) (n : Nat) (s : State) : (openTransaction b g n s).vlc.map = s.vlc.map :=
  rfl
@[simp] theorem openTransaction_vlc_settings (b : Branch) (g : Group) (n : Nat) (s : State) : (openTransaction b g n s).vlc.settings = s.vlc.settings :=
  rfl
@[simp] theorem openTransaction_causes (b : Branch) (g : Group) (n : Nat) (s : State) : (openTransaction b g n s).causes = s.causes :=
  rfl
@[simp] theorem openTransaction_pli (b : Branch) (g : Group) (n : Nat) (s : State) : (openTransaction b g n s).pli = s.pli := rfl
@[simp] theorem openTransaction_hr (b : Branch) (g : Group) (n : Nat) (s : State) : (openTransaction b g n s).hr = s.hr := rfl
@[simp] theorem openTransaction_sli (b : Branch) (g : Group) (n : Nat) (s : State) : (openTransaction b g n s).sli = s.sli := rfl
@[simp] theorem openTransaction_pending (b : Branch) (g : Group) (n : Nat) (s : State) : (openTransaction b g n s).pending = s.pending :=
  rfl

/-! `closeFired`: the group's items and the firing items. -/

@[simp] theorem closeFired_pins (b : Branch) (t : Transaction) (s : State) : (closeFired b t s).pins = s.pins := rfl
@[simp] theorem closeFired_clock (b : Branch) (t : Transaction) (s : State) : (closeFired b t s).clock = s.clock := rfl
@[simp] theorem closeFired_oc (b : Branch) (t : Transaction) (s : State) : (closeFired b t s).oc = s.oc := rfl
@[simp] theorem closeFired_slr (b : Branch) (t : Transaction) (s : State) : (closeFired b t s).slr = s.slr := rfl
@[simp] theorem closeFired_ct (b : Branch) (t : Transaction) (s : State) : (closeFired b t s).ct = s.ct := rfl
@[simp] theorem closeFired_bdu (b : Branch) (t : Transaction) (s : State) : (closeFired b t s).bdu = s.bdu := rfl
@[simp] theorem closeFired_table (b : Branch) (t : Transaction) (s : State) : (closeFired b t s).table = s.table := rfl
@[simp] theorem closeFired_vlc_map (b : Branch) (t : Transaction) (s : State) : (closeFired b t s).vlc.map = s.vlc.map := rfl
@[simp] theorem closeFired_vlc_channels (b : Branch) (t : Transaction) (s : State) : (closeFired b t s).vlc.channels = s.vlc.channels :=
  rfl
@[simp] theorem closeFired_vlc_settings (b : Branch) (t : Transaction) (s : State) : (closeFired b t s).vlc.settings = s.vlc.settings :=
  rfl
@[simp] theorem closeFired_causes (b : Branch) (t : Transaction) (s : State) : (closeFired b t s).causes = s.causes := rfl
@[simp] theorem closeFired_pli (b : Branch) (t : Transaction) (s : State) : (closeFired b t s).pli = s.pli := rfl
@[simp] theorem closeFired_hr (b : Branch) (t : Transaction) (s : State) : (closeFired b t s).hr = s.hr := rfl
@[simp] theorem closeFired_sli (b : Branch) (t : Transaction) (s : State) : (closeFired b t s).sli = s.sli := rfl
@[simp] theorem closeFired_pending (b : Branch) (t : Transaction) (s : State) : (closeFired b t s).pending = s.pending := rfl

/-! `moveReadiness`: the branch's two groups. -/

@[simp] theorem moveReadiness_pins (b : Branch) (p : Polarity) (s : State) : (moveReadiness b p s).pins = s.pins := rfl
@[simp] theorem moveReadiness_clock (b : Branch) (p : Polarity) (s : State) : (moveReadiness b p s).clock = s.clock := rfl
@[simp] theorem moveReadiness_oc (b : Branch) (p : Polarity) (s : State) : (moveReadiness b p s).oc = s.oc := rfl
@[simp] theorem moveReadiness_slr (b : Branch) (p : Polarity) (s : State) : (moveReadiness b p s).slr = s.slr := rfl
@[simp] theorem moveReadiness_ct (b : Branch) (p : Polarity) (s : State) : (moveReadiness b p s).ct = s.ct := rfl
@[simp] theorem moveReadiness_bdu (b : Branch) (p : Polarity) (s : State) : (moveReadiness b p s).bdu = s.bdu := rfl
@[simp] theorem moveReadiness_table (b : Branch) (p : Polarity) (s : State) : (moveReadiness b p s).table = s.table := rfl
@[simp] theorem moveReadiness_vlc_map (b : Branch) (p : Polarity) (s : State) : (moveReadiness b p s).vlc.map = s.vlc.map := rfl
@[simp] theorem moveReadiness_vlc_channels (b : Branch) (p : Polarity) (s : State) : (moveReadiness b p s).vlc.channels = s.vlc.channels :=
  rfl
@[simp] theorem moveReadiness_vlc_firing (b : Branch) (p : Polarity) (s : State) : (moveReadiness b p s).vlc.firing = s.vlc.firing :=
  rfl
@[simp] theorem moveReadiness_vlc_settings (b : Branch) (p : Polarity) (s : State) : (moveReadiness b p s).vlc.settings = s.vlc.settings :=
  rfl
@[simp] theorem moveReadiness_causes (b : Branch) (p : Polarity) (s : State) : (moveReadiness b p s).causes = s.causes := rfl
@[simp] theorem moveReadiness_pli (b : Branch) (p : Polarity) (s : State) : (moveReadiness b p s).pli = s.pli := rfl
@[simp] theorem moveReadiness_hr (b : Branch) (p : Polarity) (s : State) : (moveReadiness b p s).hr = s.hr := rfl
@[simp] theorem moveReadiness_sli (b : Branch) (p : Polarity) (s : State) : (moveReadiness b p s).sli = s.sli := rfl
@[simp] theorem moveReadiness_pending (b : Branch) (p : Polarity) (s : State) : (moveReadiness b p s).pending = s.pending := rfl

/-! `clearBranchReadiness`: the branch's two groups. -/

@[simp] theorem clearBranchReadiness_pins (b : Branch) (s : State) : (clearBranchReadiness b s).pins = s.pins := rfl
@[simp] theorem clearBranchReadiness_clock (b : Branch) (s : State) : (clearBranchReadiness b s).clock = s.clock := rfl
@[simp] theorem clearBranchReadiness_oc (b : Branch) (s : State) : (clearBranchReadiness b s).oc = s.oc := rfl
@[simp] theorem clearBranchReadiness_slr (b : Branch) (s : State) : (clearBranchReadiness b s).slr = s.slr := rfl
@[simp] theorem clearBranchReadiness_ct (b : Branch) (s : State) : (clearBranchReadiness b s).ct = s.ct := rfl
@[simp] theorem clearBranchReadiness_bdu (b : Branch) (s : State) : (clearBranchReadiness b s).bdu = s.bdu := rfl
@[simp] theorem clearBranchReadiness_table (b : Branch) (s : State) : (clearBranchReadiness b s).table = s.table := rfl
@[simp] theorem clearBranchReadiness_vlc_map (b : Branch) (s : State) : (clearBranchReadiness b s).vlc.map = s.vlc.map := rfl
@[simp] theorem clearBranchReadiness_vlc_channels (b : Branch) (s : State) : (clearBranchReadiness b s).vlc.channels = s.vlc.channels :=
  rfl
@[simp] theorem clearBranchReadiness_vlc_firing (b : Branch) (s : State) : (clearBranchReadiness b s).vlc.firing = s.vlc.firing :=
  rfl
@[simp] theorem clearBranchReadiness_vlc_settings (b : Branch) (s : State) : (clearBranchReadiness b s).vlc.settings = s.vlc.settings :=
  rfl
@[simp] theorem clearBranchReadiness_causes (b : Branch) (s : State) : (clearBranchReadiness b s).causes = s.causes := rfl
@[simp] theorem clearBranchReadiness_pli (b : Branch) (s : State) : (clearBranchReadiness b s).pli = s.pli := rfl
@[simp] theorem clearBranchReadiness_hr (b : Branch) (s : State) : (clearBranchReadiness b s).hr = s.hr := rfl
@[simp] theorem clearBranchReadiness_sli (b : Branch) (s : State) : (clearBranchReadiness b s).sli = s.sli := rfl
@[simp] theorem clearBranchReadiness_pending (b : Branch) (s : State) : (clearBranchReadiness b s).pending = s.pending := rfl

/-! `reachCount`: one branch's counter. -/

@[simp] theorem reachCount_pins (b : Branch) (n : Nat) (s : State) : (reachCount b n s).pins = s.pins := rfl
@[simp] theorem reachCount_clock (b : Branch) (n : Nat) (s : State) : (reachCount b n s).clock = s.clock := rfl
@[simp] theorem reachCount_oc (b : Branch) (n : Nat) (s : State) : (reachCount b n s).oc = s.oc := rfl
@[simp] theorem reachCount_slr (b : Branch) (n : Nat) (s : State) : (reachCount b n s).slr = s.slr := rfl
@[simp] theorem reachCount_ct_settings (b : Branch) (n : Nat) (s : State) : (reachCount b n s).ct.settings = s.ct.settings := rfl
@[simp] theorem reachCount_ct_nominal (b : Branch) (n : Nat) (s : State) : (reachCount b n s).ct.nominal = s.ct.nominal := rfl
@[simp] theorem reachCount_ct_progress (b : Branch) (n : Nat) (s : State) : (reachCount b n s).ct.progress = s.ct.progress := rfl
@[simp] theorem reachCount_bdu (b : Branch) (n : Nat) (s : State) : (reachCount b n s).bdu = s.bdu := rfl
@[simp] theorem reachCount_table (b : Branch) (n : Nat) (s : State) : (reachCount b n s).table = s.table := rfl
@[simp] theorem reachCount_vlc (b : Branch) (n : Nat) (s : State) : (reachCount b n s).vlc = s.vlc := rfl
@[simp] theorem reachCount_causes (b : Branch) (n : Nat) (s : State) : (reachCount b n s).causes = s.causes := rfl
@[simp] theorem reachCount_pli (b : Branch) (n : Nat) (s : State) : (reachCount b n s).pli = s.pli := rfl
@[simp] theorem reachCount_hr (b : Branch) (n : Nat) (s : State) : (reachCount b n s).hr = s.hr := rfl
@[simp] theorem reachCount_sli (b : Branch) (n : Nat) (s : State) : (reachCount b n s).sli = s.sli := rfl
@[simp] theorem reachCount_pending (b : Branch) (n : Nat) (s : State) : (reachCount b n s).pending = s.pending := rfl

/-! `leaveBlocked`: the branch's demand items and FALLBACK_ACTIVE. -/

@[simp] theorem leaveBlocked_pins (b : Branch) (s : State) : (leaveBlocked b s).pins = s.pins := rfl
@[simp] theorem leaveBlocked_clock (b : Branch) (s : State) : (leaveBlocked b s).clock = s.clock := rfl
@[simp] theorem leaveBlocked_oc_device (b : Branch) (s : State) : (leaveBlocked b s).oc.device = s.oc.device := rfl
@[simp] theorem leaveBlocked_oc_halt (b : Branch) (s : State) : (leaveBlocked b s).oc.halt = s.oc.halt := rfl
@[simp] theorem leaveBlocked_oc_tripRequest (b : Branch) (s : State) : (leaveBlocked b s).oc.tripRequest = s.oc.tripRequest := rfl
@[simp] theorem leaveBlocked_oc_lockFrequency (b : Branch) (s : State) : (leaveBlocked b s).oc.lockFrequency = s.oc.lockFrequency :=
  rfl
@[simp] theorem leaveBlocked_slr (b : Branch) (s : State) : (leaveBlocked b s).slr = s.slr := rfl
@[simp] theorem leaveBlocked_ct (b : Branch) (s : State) : (leaveBlocked b s).ct = s.ct := rfl
@[simp] theorem leaveBlocked_bdu_shares (b : Branch) (s : State) : (leaveBlocked b s).bdu.shares = s.bdu.shares := rfl
@[simp] theorem leaveBlocked_bdu_lines (b : Branch) (s : State) : (leaveBlocked b s).bdu.lines = s.bdu.lines := rfl
@[simp] theorem leaveBlocked_table (b : Branch) (s : State) : (leaveBlocked b s).table = s.table := rfl
@[simp] theorem leaveBlocked_vlc (b : Branch) (s : State) : (leaveBlocked b s).vlc = s.vlc := rfl
@[simp] theorem leaveBlocked_causes (b : Branch) (s : State) : (leaveBlocked b s).causes = s.causes := rfl
@[simp] theorem leaveBlocked_pli (b : Branch) (s : State) : (leaveBlocked b s).pli = s.pli := rfl
@[simp] theorem leaveBlocked_hr (b : Branch) (s : State) : (leaveBlocked b s).hr = s.hr := rfl
@[simp] theorem leaveBlocked_sli (b : Branch) (s : State) : (leaveBlocked b s).sli = s.sli := rfl
@[simp] theorem leaveBlocked_pending (b : Branch) (s : State) : (leaveBlocked b s).pending = s.pending := rfl

/-! `markWindows`: the three windows. -/

@[simp] theorem markWindows_pins (f : Window → Window) (s : State) : (markWindows f s).pins = s.pins := rfl
@[simp] theorem markWindows_clock (f : Window → Window) (s : State) : (markWindows f s).clock = s.clock := rfl
@[simp] theorem markWindows_oc (f : Window → Window) (s : State) : (markWindows f s).oc = s.oc := rfl
@[simp] theorem markWindows_slr (f : Window → Window) (s : State) : (markWindows f s).slr = s.slr := rfl
@[simp] theorem markWindows_ct (f : Window → Window) (s : State) : (markWindows f s).ct = s.ct := rfl
@[simp] theorem markWindows_bdu_shares (f : Window → Window) (s : State) : (markWindows f s).bdu.shares = s.bdu.shares := rfl
@[simp] theorem markWindows_bdu_lines (f : Window → Window) (s : State) : (markWindows f s).bdu.lines = s.bdu.lines := rfl
@[simp] theorem markWindows_table (f : Window → Window) (s : State) : (markWindows f s).table = s.table := rfl
@[simp] theorem markWindows_vlc (f : Window → Window) (s : State) : (markWindows f s).vlc = s.vlc := rfl
@[simp] theorem markWindows_causes (f : Window → Window) (s : State) : (markWindows f s).causes = s.causes := rfl
@[simp] theorem markWindows_pli (f : Window → Window) (s : State) : (markWindows f s).pli = s.pli := rfl
@[simp] theorem markWindows_hr (f : Window → Window) (s : State) : (markWindows f s).hr = s.hr := rfl
@[simp] theorem markWindows_sli (f : Window → Window) (s : State) : (markWindows f s).sli = s.sli := rfl
@[simp] theorem markWindows_pending (f : Window → Window) (s : State) : (markWindows f s).pending = s.pending := rfl

/-! `breakTracking`: progress and tracking items. -/

@[simp] theorem breakTracking_pins (s : State) : (breakTracking s).pins = s.pins := rfl
@[simp] theorem breakTracking_clock (s : State) : (breakTracking s).clock = s.clock := rfl
@[simp] theorem breakTracking_oc (s : State) : (breakTracking s).oc = s.oc := rfl
@[simp] theorem breakTracking_slr (s : State) : (breakTracking s).slr = s.slr := rfl
@[simp] theorem breakTracking_ct_settings (s : State) : (breakTracking s).ct.settings = s.ct.settings := rfl
@[simp] theorem breakTracking_ct_nominal (s : State) : (breakTracking s).ct.nominal = s.ct.nominal := rfl
@[simp] theorem breakTracking_bdu (s : State) : (breakTracking s).bdu = s.bdu := rfl
@[simp] theorem breakTracking_table (s : State) : (breakTracking s).table = s.table := rfl
@[simp] theorem breakTracking_vlc (s : State) : (breakTracking s).vlc = s.vlc := rfl
@[simp] theorem breakTracking_causes (s : State) : (breakTracking s).causes = s.causes := rfl
@[simp] theorem breakTracking_pli (s : State) : (breakTracking s).pli = s.pli := rfl
@[simp] theorem breakTracking_hr (s : State) : (breakTracking s).hr = s.hr := rfl
@[simp] theorem breakTracking_sli (s : State) : (breakTracking s).sli = s.sli := rfl
@[simp] theorem breakTracking_pending (s : State) : (breakTracking s).pending = s.pending := rfl

/-! `setGap`: the gap counter. -/

@[simp] theorem setGap_pins (n : Nat) (s : State) : (setGap n s).pins = s.pins := rfl
@[simp] theorem setGap_clock (n : Nat) (s : State) : (setGap n s).clock = s.clock := rfl
@[simp] theorem setGap_oc (n : Nat) (s : State) : (setGap n s).oc = s.oc := rfl
@[simp] theorem setGap_slr_link (n : Nat) (s : State) : (setGap n s).slr.link = s.slr.link := rfl
@[simp] theorem setGap_slr_expected (n : Nat) (s : State) : (setGap n s).slr.expected = s.slr.expected := rfl
@[simp] theorem setGap_slr_frameIndex (n : Nat) (s : State) : (setGap n s).slr.frameIndex = s.slr.frameIndex := rfl
@[simp] theorem setGap_slr_gapRunning (n : Nat) (s : State) : (setGap n s).slr.gapRunning = s.slr.gapRunning := rfl
@[simp] theorem setGap_slr_primary (n : Nat) (s : State) : (setGap n s).slr.primary = s.slr.primary := rfl
@[simp] theorem setGap_slr_chains (n : Nat) (s : State) : (setGap n s).slr.chains = s.slr.chains := rfl
@[simp] theorem setGap_slr_quantities (n : Nat) (s : State) : (setGap n s).slr.quantities = s.slr.quantities := rfl
@[simp] theorem setGap_slr_block (n : Nat) (s : State) : (setGap n s).slr.block = s.slr.block := rfl
@[simp] theorem setGap_slr_tolerance (n : Nat) (s : State) : (setGap n s).slr.tolerance = s.slr.tolerance := rfl
@[simp] theorem setGap_slr_counters (n : Nat) (s : State) : (setGap n s).slr.counters = s.slr.counters := rfl
@[simp] theorem setGap_ct (n : Nat) (s : State) : (setGap n s).ct = s.ct := rfl
@[simp] theorem setGap_bdu (n : Nat) (s : State) : (setGap n s).bdu = s.bdu := rfl
@[simp] theorem setGap_table (n : Nat) (s : State) : (setGap n s).table = s.table := rfl
@[simp] theorem setGap_vlc (n : Nat) (s : State) : (setGap n s).vlc = s.vlc := rfl
@[simp] theorem setGap_causes (n : Nat) (s : State) : (setGap n s).causes = s.causes := rfl
@[simp] theorem setGap_pli (n : Nat) (s : State) : (setGap n s).pli = s.pli := rfl
@[simp] theorem setGap_hr (n : Nat) (s : State) : (setGap n s).hr = s.hr := rfl
@[simp] theorem setGap_sli (n : Nat) (s : State) : (setGap n s).sli = s.sli := rfl
@[simp] theorem setGap_pending (n : Nat) (s : State) : (setGap n s).pending = s.pending := rfl

/-! `acceptFrame`: receive state, assembly and line counters. -/

@[simp] theorem acceptFrame_pins (s : State) : (acceptFrame s).pins = s.pins := rfl
@[simp] theorem acceptFrame_clock (s : State) : (acceptFrame s).clock = s.clock := rfl
@[simp] theorem acceptFrame_oc (s : State) : (acceptFrame s).oc = s.oc := rfl
@[simp] theorem acceptFrame_slr (s : State) : (acceptFrame s).slr = s.slr := rfl
@[simp] theorem acceptFrame_ct (s : State) : (acceptFrame s).ct = s.ct := rfl
@[simp] theorem acceptFrame_bdu (s : State) : (acceptFrame s).bdu = s.bdu := rfl
@[simp] theorem acceptFrame_table (s : State) : (acceptFrame s).table = s.table := rfl
@[simp] theorem acceptFrame_vlc (s : State) : (acceptFrame s).vlc = s.vlc := rfl
@[simp] theorem acceptFrame_causes (s : State) : (acceptFrame s).causes = s.causes := rfl
@[simp] theorem acceptFrame_pli (s : State) : (acceptFrame s).pli = s.pli := rfl
@[simp] theorem acceptFrame_hr (s : State) : (acceptFrame s).hr = s.hr := rfl
@[simp] theorem acceptFrame_sli_address (s : State) : (acceptFrame s).sli.address = s.sli.address := rfl
@[simp] theorem acceptFrame_sli_rate (s : State) : (acceptFrame s).sli.rate = s.sli.rate := rfl
@[simp] theorem acceptFrame_sli_events (s : State) : (acceptFrame s).sli.events = s.sli.events := rfl
@[simp] theorem acceptFrame_sli_mask (s : State) : (acceptFrame s).sli.mask = s.sli.mask := rfl
@[simp] theorem acceptFrame_sli_resetCause (s : State) : (acceptFrame s).sli.resetCause = s.sli.resetCause := rfl
@[simp] theorem acceptFrame_sli_resetCount (s : State) : (acceptFrame s).sli.resetCount = s.sli.resetCount := rfl
@[simp] theorem acceptFrame_sli_reply (s : State) : (acceptFrame s).sli.reply = s.sli.reply := rfl
@[simp] theorem acceptFrame_sli_driving (s : State) : (acceptFrame s).sli.driving = s.sli.driving := rfl
@[simp] theorem acceptFrame_sli_output (s : State) : (acceptFrame s).sli.output = s.sli.output := rfl
@[simp] theorem acceptFrame_pending (s : State) : (acceptFrame s).pending = s.pending := rfl

/-! `buildReply`: the reply. -/

@[simp] theorem buildReply_pins (code : Byte) (st : Status) (p : List Byte) (s : State) : (buildReply code st p s).pins = s.pins :=
  rfl
@[simp] theorem buildReply_clock (code : Byte) (st : Status) (p : List Byte) (s : State) : (buildReply code st p s).clock = s.clock :=
  rfl
@[simp] theorem buildReply_oc (code : Byte) (st : Status) (p : List Byte) (s : State) : (buildReply code st p s).oc = s.oc := rfl
@[simp] theorem buildReply_slr (code : Byte) (st : Status) (p : List Byte) (s : State) : (buildReply code st p s).slr = s.slr := rfl
@[simp] theorem buildReply_ct (code : Byte) (st : Status) (p : List Byte) (s : State) : (buildReply code st p s).ct = s.ct := rfl
@[simp] theorem buildReply_bdu (code : Byte) (st : Status) (p : List Byte) (s : State) : (buildReply code st p s).bdu = s.bdu := rfl
@[simp] theorem buildReply_table (code : Byte) (st : Status) (p : List Byte) (s : State) : (buildReply code st p s).table = s.table :=
  rfl
@[simp] theorem buildReply_vlc (code : Byte) (st : Status) (p : List Byte) (s : State) : (buildReply code st p s).vlc = s.vlc := rfl
@[simp] theorem buildReply_causes (code : Byte) (st : Status) (p : List Byte) (s : State) : (buildReply code st p s).causes = s.causes :=
  rfl
@[simp] theorem buildReply_pli (code : Byte) (st : Status) (p : List Byte) (s : State) : (buildReply code st p s).pli = s.pli := rfl
@[simp] theorem buildReply_hr (code : Byte) (st : Status) (p : List Byte) (s : State) : (buildReply code st p s).hr = s.hr := rfl
@[simp] theorem buildReply_sli_address (code : Byte) (st : Status) (p : List Byte) (s : State) : (buildReply code st p s).sli.address = s.sli.address :=
  rfl
@[simp] theorem buildReply_sli_rate (code : Byte) (st : Status) (p : List Byte) (s : State) : (buildReply code st p s).sli.rate = s.sli.rate :=
  rfl
@[simp] theorem buildReply_sli_receive (code : Byte) (st : Status) (p : List Byte) (s : State) : (buildReply code st p s).sli.receive = s.sli.receive :=
  rfl
@[simp] theorem buildReply_sli_assembly (code : Byte) (st : Status) (p : List Byte) (s : State) : (buildReply code st p s).sli.assembly = s.sli.assembly :=
  rfl
@[simp] theorem buildReply_sli_events (code : Byte) (st : Status) (p : List Byte) (s : State) : (buildReply code st p s).sli.events = s.sli.events :=
  rfl
@[simp] theorem buildReply_sli_mask (code : Byte) (st : Status) (p : List Byte) (s : State) : (buildReply code st p s).sli.mask = s.sli.mask :=
  rfl
@[simp] theorem buildReply_sli_counters (code : Byte) (st : Status) (p : List Byte) (s : State) : (buildReply code st p s).sli.counters = s.sli.counters :=
  rfl
@[simp] theorem buildReply_sli_resetCause (code : Byte) (st : Status) (p : List Byte) (s : State) : (buildReply code st p s).sli.resetCause = s.sli.resetCause :=
  rfl
@[simp] theorem buildReply_sli_resetCount (code : Byte) (st : Status) (p : List Byte) (s : State) : (buildReply code st p s).sli.resetCount = s.sli.resetCount :=
  rfl
@[simp] theorem buildReply_sli_driving (code : Byte) (st : Status) (p : List Byte) (s : State) : (buildReply code st p s).sli.driving = s.sli.driving :=
  rfl
@[simp] theorem buildReply_sli_output (code : Byte) (st : Status) (p : List Byte) (s : State) : (buildReply code st p s).sli.output = s.sli.output :=
  rfl
@[simp] theorem buildReply_pending (code : Byte) (st : Status) (p : List Byte) (s : State) : (buildReply code st p s).pending = s.pending :=
  rfl

/-! `becomeMute`: receive state and assembly. -/

@[simp] theorem becomeMute_pins (s : State) : (becomeMute s).pins = s.pins := rfl
@[simp] theorem becomeMute_clock (s : State) : (becomeMute s).clock = s.clock := rfl
@[simp] theorem becomeMute_oc (s : State) : (becomeMute s).oc = s.oc := rfl
@[simp] theorem becomeMute_slr (s : State) : (becomeMute s).slr = s.slr := rfl
@[simp] theorem becomeMute_ct (s : State) : (becomeMute s).ct = s.ct := rfl
@[simp] theorem becomeMute_bdu (s : State) : (becomeMute s).bdu = s.bdu := rfl
@[simp] theorem becomeMute_table (s : State) : (becomeMute s).table = s.table := rfl
@[simp] theorem becomeMute_vlc (s : State) : (becomeMute s).vlc = s.vlc := rfl
@[simp] theorem becomeMute_causes (s : State) : (becomeMute s).causes = s.causes := rfl
@[simp] theorem becomeMute_pli (s : State) : (becomeMute s).pli = s.pli := rfl
@[simp] theorem becomeMute_hr (s : State) : (becomeMute s).hr = s.hr := rfl
@[simp] theorem becomeMute_sli_address (s : State) : (becomeMute s).sli.address = s.sli.address := rfl
@[simp] theorem becomeMute_sli_rate (s : State) : (becomeMute s).sli.rate = s.sli.rate := rfl
@[simp] theorem becomeMute_sli_events (s : State) : (becomeMute s).sli.events = s.sli.events := rfl
@[simp] theorem becomeMute_sli_mask (s : State) : (becomeMute s).sli.mask = s.sli.mask := rfl
@[simp] theorem becomeMute_sli_counters (s : State) : (becomeMute s).sli.counters = s.sli.counters := rfl
@[simp] theorem becomeMute_sli_resetCause (s : State) : (becomeMute s).sli.resetCause = s.sli.resetCause := rfl
@[simp] theorem becomeMute_sli_resetCount (s : State) : (becomeMute s).sli.resetCount = s.sli.resetCount := rfl
@[simp] theorem becomeMute_sli_reply (s : State) : (becomeMute s).sli.reply = s.sli.reply := rfl
@[simp] theorem becomeMute_sli_driving (s : State) : (becomeMute s).sli.driving = s.sli.driving := rfl
@[simp] theorem becomeMute_sli_output (s : State) : (becomeMute s).sli.output = s.sli.output := rfl
@[simp] theorem becomeMute_pending (s : State) : (becomeMute s).pending = s.pending := rfl

/-! `takeSnapshots`: the groups' snapshots and latches. -/

@[simp] theorem takeSnapshots_pins (s : State) : (takeSnapshots s).pins = s.pins := rfl
@[simp] theorem takeSnapshots_clock (s : State) : (takeSnapshots s).clock = s.clock := rfl
@[simp] theorem takeSnapshots_oc (s : State) : (takeSnapshots s).oc = s.oc := rfl
@[simp] theorem takeSnapshots_slr (s : State) : (takeSnapshots s).slr = s.slr := rfl
@[simp] theorem takeSnapshots_ct (s : State) : (takeSnapshots s).ct = s.ct := rfl
@[simp] theorem takeSnapshots_bdu (s : State) : (takeSnapshots s).bdu = s.bdu := rfl
@[simp] theorem takeSnapshots_table (s : State) : (takeSnapshots s).table = s.table := rfl
@[simp] theorem takeSnapshots_vlc_map (s : State) : (takeSnapshots s).vlc.map = s.vlc.map := rfl
@[simp] theorem takeSnapshots_vlc_channels (s : State) : (takeSnapshots s).vlc.channels = s.vlc.channels := rfl
@[simp] theorem takeSnapshots_vlc_firing (s : State) : (takeSnapshots s).vlc.firing = s.vlc.firing := rfl
@[simp] theorem takeSnapshots_vlc_settings (s : State) : (takeSnapshots s).vlc.settings = s.vlc.settings := rfl
@[simp] theorem takeSnapshots_causes (s : State) : (takeSnapshots s).causes = s.causes := rfl
@[simp] theorem takeSnapshots_pli (s : State) : (takeSnapshots s).pli = s.pli := rfl
@[simp] theorem takeSnapshots_hr (s : State) : (takeSnapshots s).hr = s.hr := rfl
@[simp] theorem takeSnapshots_sli (s : State) : (takeSnapshots s).sli = s.sli := rfl
@[simp] theorem takeSnapshots_pending (s : State) : (takeSnapshots s).pending = s.pending := rfl

/-! `clearValveCounters`: the valve counters. -/

@[simp] theorem clearValveCounters_pins (s : State) : (clearValveCounters s).pins = s.pins := rfl
@[simp] theorem clearValveCounters_clock (s : State) : (clearValveCounters s).clock = s.clock := rfl
@[simp] theorem clearValveCounters_oc (s : State) : (clearValveCounters s).oc = s.oc := rfl
@[simp] theorem clearValveCounters_slr (s : State) : (clearValveCounters s).slr = s.slr := rfl
@[simp] theorem clearValveCounters_ct (s : State) : (clearValveCounters s).ct = s.ct := rfl
@[simp] theorem clearValveCounters_bdu (s : State) : (clearValveCounters s).bdu = s.bdu := rfl
@[simp] theorem clearValveCounters_table (s : State) : (clearValveCounters s).table = s.table := rfl
@[simp] theorem clearValveCounters_vlc_map (s : State) : (clearValveCounters s).vlc.map = s.vlc.map := rfl
@[simp] theorem clearValveCounters_vlc_firing (s : State) : (clearValveCounters s).vlc.firing = s.vlc.firing := rfl
@[simp] theorem clearValveCounters_vlc_settings (s : State) : (clearValveCounters s).vlc.settings = s.vlc.settings := rfl
@[simp] theorem clearValveCounters_causes (s : State) : (clearValveCounters s).causes = s.causes := rfl
@[simp] theorem clearValveCounters_pli (s : State) : (clearValveCounters s).pli = s.pli := rfl
@[simp] theorem clearValveCounters_hr (s : State) : (clearValveCounters s).hr = s.hr := rfl
@[simp] theorem clearValveCounters_sli (s : State) : (clearValveCounters s).sli = s.sli := rfl
@[simp] theorem clearValveCounters_pending (s : State) : (clearValveCounters s).pending = s.pending := rfl

/-! `beginAcquisition`: device state, lock frequency, progress, samples. -/

@[simp] theorem beginAcquisition_pins (s : State) : (beginAcquisition s).pins = s.pins := rfl
@[simp] theorem beginAcquisition_clock (s : State) : (beginAcquisition s).clock = s.clock := rfl
@[simp] theorem beginAcquisition_oc_halt (s : State) : (beginAcquisition s).oc.halt = s.oc.halt := rfl
@[simp] theorem beginAcquisition_oc_tripRequest (s : State) : (beginAcquisition s).oc.tripRequest = s.oc.tripRequest := rfl
@[simp] theorem beginAcquisition_oc_fallbackActive (s : State) : (beginAcquisition s).oc.fallbackActive = s.oc.fallbackActive := rfl
@[simp] theorem beginAcquisition_slr (s : State) : (beginAcquisition s).slr = s.slr := rfl
@[simp] theorem beginAcquisition_ct_settings (s : State) : (beginAcquisition s).ct.settings = s.ct.settings := rfl
@[simp] theorem beginAcquisition_ct_nominal (s : State) : (beginAcquisition s).ct.nominal = s.ct.nominal := rfl
@[simp] theorem beginAcquisition_bdu (s : State) : (beginAcquisition s).bdu = s.bdu := rfl
@[simp] theorem beginAcquisition_table (s : State) : (beginAcquisition s).table = s.table := rfl
@[simp] theorem beginAcquisition_vlc (s : State) : (beginAcquisition s).vlc = s.vlc := rfl
@[simp] theorem beginAcquisition_causes (s : State) : (beginAcquisition s).causes = s.causes := rfl
@[simp] theorem beginAcquisition_pli (s : State) : (beginAcquisition s).pli = s.pli := rfl
@[simp] theorem beginAcquisition_hr (s : State) : (beginAcquisition s).hr = s.hr := rfl
@[simp] theorem beginAcquisition_sli (s : State) : (beginAcquisition s).sli = s.sli := rfl
@[simp] theorem beginAcquisition_pending (s : State) : (beginAcquisition s).pending = s.pending := rfl

/-! `advanceInterval`: the interval timers. -/

@[simp] theorem advanceInterval_pins (s : State) : (advanceInterval s).pins = s.pins := rfl
@[simp] theorem advanceInterval_oc (s : State) : (advanceInterval s).oc = s.oc := rfl
@[simp] theorem advanceInterval_slr_link (s : State) : (advanceInterval s).slr.link = s.slr.link := rfl
@[simp] theorem advanceInterval_slr_expected (s : State) : (advanceInterval s).slr.expected = s.slr.expected := rfl
@[simp] theorem advanceInterval_slr_frameIndex (s : State) : (advanceInterval s).slr.frameIndex = s.slr.frameIndex := rfl
@[simp] theorem advanceInterval_slr_gapRunning (s : State) : (advanceInterval s).slr.gapRunning = s.slr.gapRunning := rfl
@[simp] theorem advanceInterval_slr_primary (s : State) : (advanceInterval s).slr.primary = s.slr.primary := rfl
@[simp] theorem advanceInterval_slr_chains (s : State) : (advanceInterval s).slr.chains = s.slr.chains := rfl
@[simp] theorem advanceInterval_slr_quantities (s : State) : (advanceInterval s).slr.quantities = s.slr.quantities := rfl
@[simp] theorem advanceInterval_slr_block (s : State) : (advanceInterval s).slr.block = s.slr.block := rfl
@[simp] theorem advanceInterval_slr_tolerance (s : State) : (advanceInterval s).slr.tolerance = s.slr.tolerance := rfl
@[simp] theorem advanceInterval_slr_counters (s : State) : (advanceInterval s).slr.counters = s.slr.counters := rfl
@[simp] theorem advanceInterval_ct_settings (s : State) : (advanceInterval s).ct.settings = s.ct.settings := rfl
@[simp] theorem advanceInterval_ct_nominal (s : State) : (advanceInterval s).ct.nominal = s.ct.nominal := rfl
@[simp] theorem advanceInterval_ct_tracks (s : State) : (advanceInterval s).ct.tracks = s.ct.tracks := rfl
@[simp] theorem advanceInterval_bdu (s : State) : (advanceInterval s).bdu = s.bdu := rfl
@[simp] theorem advanceInterval_table (s : State) : (advanceInterval s).table = s.table := rfl
@[simp] theorem advanceInterval_vlc_map (s : State) : (advanceInterval s).vlc.map = s.vlc.map := rfl
@[simp] theorem advanceInterval_vlc_groups (s : State) : (advanceInterval s).vlc.groups = s.vlc.groups := rfl
@[simp] theorem advanceInterval_vlc_firing (s : State) : (advanceInterval s).vlc.firing = s.vlc.firing := rfl
@[simp] theorem advanceInterval_vlc_settings (s : State) : (advanceInterval s).vlc.settings = s.vlc.settings := rfl
@[simp] theorem advanceInterval_causes (s : State) : (advanceInterval s).causes = s.causes := rfl
@[simp] theorem advanceInterval_pli_settling (s : State) : (advanceInterval s).pli.settling = s.pli.settling := rfl
@[simp] theorem advanceInterval_pli_latch (s : State) : (advanceInterval s).pli.latch = s.pli.latch := rfl
@[simp] theorem advanceInterval_pli_lastCancel (s : State) : (advanceInterval s).pli.lastCancel = s.pli.lastCancel := rfl
@[simp] theorem advanceInterval_pli_lastApplication (s : State) : (advanceInterval s).pli.lastApplication = s.pli.lastApplication :=
  rfl
@[simp] theorem advanceInterval_pli_applications (s : State) : (advanceInterval s).pli.applications = s.pli.applications := rfl
@[simp] theorem advanceInterval_pli_cancellations (s : State) : (advanceInterval s).pli.cancellations = s.pli.cancellations := rfl
@[simp] theorem advanceInterval_hr (s : State) : (advanceInterval s).hr = s.hr := rfl
@[simp] theorem advanceInterval_sli (s : State) : (advanceInterval s).sli = s.sli := rfl
@[simp] theorem advanceInterval_pending (s : State) : (advanceInterval s).pending = s.pending := rfl

/-! `modLink`: the receiver's items. -/

@[simp] theorem modLink_pins (f : SampleLink → SampleLink) (s : State) : (modLink f s).pins = s.pins := rfl
@[simp] theorem modLink_clock (f : SampleLink → SampleLink) (s : State) : (modLink f s).clock = s.clock := rfl
@[simp] theorem modLink_oc (f : SampleLink → SampleLink) (s : State) : (modLink f s).oc = s.oc := rfl
@[simp] theorem modLink_ct (f : SampleLink → SampleLink) (s : State) : (modLink f s).ct = s.ct := rfl
@[simp] theorem modLink_bdu (f : SampleLink → SampleLink) (s : State) : (modLink f s).bdu = s.bdu := rfl
@[simp] theorem modLink_table (f : SampleLink → SampleLink) (s : State) : (modLink f s).table = s.table := rfl
@[simp] theorem modLink_vlc (f : SampleLink → SampleLink) (s : State) : (modLink f s).vlc = s.vlc := rfl
@[simp] theorem modLink_causes (f : SampleLink → SampleLink) (s : State) : (modLink f s).causes = s.causes := rfl
@[simp] theorem modLink_pli (f : SampleLink → SampleLink) (s : State) : (modLink f s).pli = s.pli := rfl
@[simp] theorem modLink_hr (f : SampleLink → SampleLink) (s : State) : (modLink f s).hr = s.hr := rfl
@[simp] theorem modLink_sli (f : SampleLink → SampleLink) (s : State) : (modLink f s).sli = s.sli := rfl
@[simp] theorem modLink_pending (f : SampleLink → SampleLink) (s : State) : (modLink f s).pending = s.pending := rfl

/-! What the updates write, item by item. -/

@[simp] theorem modTrack_tracks (b : Branch) (f : Track → Track) (s : State) :
    (modTrack b f s).ct.tracks = s.ct.tracks.set b (f (s.ct.tracks.get b)) := rfl
@[simp] theorem modDemand_branches (b : Branch) (f : BranchDemand → BranchDemand) (s : State) :
    (modDemand b f s).bdu.branches = s.bdu.branches.set b (f (s.bdu.branches.get b)) := rfl
@[simp] theorem modChannel_channels (c : ValveChannel) (f : ChannelState → ChannelState) (s : State) :
    (modChannel c f s).vlc.channels = s.vlc.channels.set c (f (s.vlc.channels.get c)) := rfl
@[simp] theorem modGroup_groups (g : Group) (f : GroupState → GroupState) (s : State) :
    (modGroup g f s).vlc.groups = s.vlc.groups.set g (f (s.vlc.groups.get g)) := rfl
@[simp] theorem modFiring_firing (b : Branch) (f : Firing → Firing) (s : State) :
    (modFiring b f s).vlc.firing = s.vlc.firing.set b (f (s.vlc.firing.get b)) := rfl
@[simp] theorem modInput_inputs (i : PlantInput) (f : InputState → InputState) (s : State) :
    (modInput i f s).pli.inputs = s.pli.inputs.set i (f (s.pli.inputs.get i)) := rfl
@[simp] theorem modLinkCounters_counters (f : LinkCounters → LinkCounters) (s : State) :
    (modLinkCounters f s).slr.counters = f s.slr.counters := rfl
@[simp] theorem modLineCounters_counters (f : LineCounters → LineCounters) (s : State) :
    (modLineCounters f s).sli.counters = f s.sli.counters := rfl
@[simp] theorem modLink_slr (f : SampleLink → SampleLink) (s : State) : (modLink f s).slr = f s.slr := rfl
@[simp] theorem noteEvent_events (k : EventKind) (s : State) :
    (noteEvent k s).sli.events = s.sli.events.set k ⟨true, bump 255 (s.sli.events.get k).count⟩ := rfl
@[simp] theorem flushLines_lines (s : State) : (flushLines s).bdu.lines = [] := rfl
@[simp] theorem refreshLines_fallbackActive (s : State) : (refreshLines s).oc.fallbackActive = fallbackLevel s := rfl
@[simp] theorem abandonFiring_firing (s : State) : (abandonFiring s).vlc.firing = .fill .clear := rfl
@[simp] theorem abandonFiring_groups (s : State) :
    (abandonFiring s).vlc.groups = s.vlc.groups.mapKey fun _ => clearReadiness := rfl

end Sys2Proof.Machine
end

