-- ==== Sys2Proof/Laws/Frames.lean ====
section
/-! SUPPORT. What the shared operations leave as it was: for each, every item outside the ones its rule names reads after it as
before. The docstring of each says which items may differ. -/

namespace Sys2Proof.Machine

/-- May differ: the count of free choices alone. -/
@[simp] theorem takePicks_frame (n : Nat) (s : State) :
    (takePicks n s).pins = s.pins ∧ (takePicks n s).clock.phase = s.clock.phase ∧
    (takePicks n s).clock.sinceReset = s.clock.sinceReset ∧ (takePicks n s).oc = s.oc ∧ (takePicks n s).slr = s.slr ∧
    (takePicks n s).ct = s.ct ∧ (takePicks n s).bdu = s.bdu ∧ (takePicks n s).table = s.table ∧ (takePicks n s).vlc = s.vlc ∧
    (takePicks n s).causes = s.causes ∧ (takePicks n s).pli = s.pli ∧ (takePicks n s).hr = s.hr ∧
    (takePicks n s).sli = s.sli ∧ (takePicks n s).pending = s.pending := by
  unfold takePicks; simp

/-- May differ: the capture and the summary. -/
@[simp] theorem takeTrigger_frame (c : TriggerCause) (s : State) :
    (takeTrigger c s).pins = s.pins ∧ (takeTrigger c s).clock = s.clock ∧ (takeTrigger c s).oc = s.oc ∧
    (takeTrigger c s).slr = s.slr ∧ (takeTrigger c s).ct = s.ct ∧ (takeTrigger c s).bdu = s.bdu ∧
    (takeTrigger c s).table = s.table ∧ (takeTrigger c s).vlc = s.vlc ∧ (takeTrigger c s).causes = s.causes ∧
    (takeTrigger c s).pli = s.pli ∧ (takeTrigger c s).hr.ring = s.hr.ring ∧ (takeTrigger c s).hr.nextSeq = s.hr.nextSeq ∧
    (takeTrigger c s).hr.triggers = s.hr.triggers ∧ (takeTrigger c s).hr.post = s.hr.post ∧
    (takeTrigger c s).hr.wraps = s.hr.wraps ∧ (takeTrigger c s).sli.address = s.sli.address ∧
    (takeTrigger c s).sli.rate = s.sli.rate ∧ (takeTrigger c s).sli.receive = s.sli.receive ∧
    (takeTrigger c s).sli.assembly = s.sli.assembly ∧ (takeTrigger c s).sli.mask = s.sli.mask ∧
    (takeTrigger c s).sli.counters = s.sli.counters ∧ (takeTrigger c s).sli.resetCause = s.sli.resetCause ∧
    (takeTrigger c s).sli.resetCount = s.sli.resetCount ∧ (takeTrigger c s).sli.reply = s.sli.reply ∧
    (takeTrigger c s).sli.driving = s.sli.driving ∧ (takeTrigger c s).sli.output = s.sli.output ∧
    (takeTrigger c s).pending = s.pending := by
  unfold takeTrigger; dsimp only; (repeat' split) <;> simp

/-- May differ: the capture and the summary. -/
@[simp] theorem offerTrigger_frame (c : TriggerCause) (s : State) :
    (offerTrigger c s).pins = s.pins ∧ (offerTrigger c s).clock = s.clock ∧ (offerTrigger c s).oc = s.oc ∧
    (offerTrigger c s).slr = s.slr ∧ (offerTrigger c s).ct = s.ct ∧ (offerTrigger c s).bdu = s.bdu ∧
    (offerTrigger c s).table = s.table ∧ (offerTrigger c s).vlc = s.vlc ∧ (offerTrigger c s).causes = s.causes ∧
    (offerTrigger c s).pli = s.pli ∧ (offerTrigger c s).hr.ring = s.hr.ring ∧ (offerTrigger c s).hr.nextSeq = s.hr.nextSeq ∧
    (offerTrigger c s).hr.triggers = s.hr.triggers ∧ (offerTrigger c s).hr.post = s.hr.post ∧
    (offerTrigger c s).hr.wraps = s.hr.wraps ∧ (offerTrigger c s).sli.address = s.sli.address ∧
    (offerTrigger c s).sli.rate = s.sli.rate ∧ (offerTrigger c s).sli.receive = s.sli.receive ∧
    (offerTrigger c s).sli.assembly = s.sli.assembly ∧ (offerTrigger c s).sli.mask = s.sli.mask ∧
    (offerTrigger c s).sli.counters = s.sli.counters ∧ (offerTrigger c s).sli.resetCause = s.sli.resetCause ∧
    (offerTrigger c s).sli.resetCount = s.sli.resetCount ∧ (offerTrigger c s).sli.reply = s.sli.reply ∧
    (offerTrigger c s).sli.driving = s.sli.driving ∧ (offerTrigger c s).sli.output = s.sli.output ∧
    (offerTrigger c s).pending = s.pending := by
  unfold offerTrigger; (repeat' split) <;> simp

/-- May differ: the summary and the capture. -/
@[simp] theorem raise_frame (k : EventKind) (s : State) :
    (raise k s).pins = s.pins ∧ (raise k s).clock = s.clock ∧ (raise k s).oc = s.oc ∧ (raise k s).slr = s.slr ∧
    (raise k s).ct = s.ct ∧ (raise k s).bdu = s.bdu ∧ (raise k s).table = s.table ∧ (raise k s).vlc = s.vlc ∧
    (raise k s).causes = s.causes ∧ (raise k s).pli = s.pli ∧ (raise k s).hr.ring = s.hr.ring ∧
    (raise k s).hr.nextSeq = s.hr.nextSeq ∧ (raise k s).hr.triggers = s.hr.triggers ∧ (raise k s).hr.post = s.hr.post ∧
    (raise k s).hr.wraps = s.hr.wraps ∧ (raise k s).sli.address = s.sli.address ∧ (raise k s).sli.rate = s.sli.rate ∧
    (raise k s).sli.receive = s.sli.receive ∧ (raise k s).sli.assembly = s.sli.assembly ∧ (raise k s).sli.mask = s.sli.mask ∧
    (raise k s).sli.counters = s.sli.counters ∧ (raise k s).sli.resetCause = s.sli.resetCause ∧
    (raise k s).sli.resetCount = s.sli.resetCount ∧ (raise k s).sli.reply = s.sli.reply ∧
    (raise k s).sli.driving = s.sli.driving ∧ (raise k s).sli.output = s.sli.output ∧ (raise k s).pending = s.pending := by
  unfold raise; (repeat' split) <;> simp

/-- May differ: the latch, the summary and the capture. -/
@[simp] theorem cancelLatch_frame (c : CancelCause) (s : State) :
    (cancelLatch c s).pins = s.pins ∧ (cancelLatch c s).clock = s.clock ∧ (cancelLatch c s).oc = s.oc ∧
    (cancelLatch c s).slr = s.slr ∧ (cancelLatch c s).ct = s.ct ∧ (cancelLatch c s).bdu = s.bdu ∧
    (cancelLatch c s).table = s.table ∧ (cancelLatch c s).vlc = s.vlc ∧ (cancelLatch c s).causes = s.causes ∧
    (cancelLatch c s).pli.inputs = s.pli.inputs ∧ (cancelLatch c s).pli.settling = s.pli.settling ∧
    (cancelLatch c s).pli.lastApplication = s.pli.lastApplication ∧ (cancelLatch c s).pli.applications = s.pli.applications ∧
    (cancelLatch c s).hr.ring = s.hr.ring ∧ (cancelLatch c s).hr.nextSeq = s.hr.nextSeq ∧
    (cancelLatch c s).hr.triggers = s.hr.triggers ∧ (cancelLatch c s).hr.post = s.hr.post ∧
    (cancelLatch c s).hr.wraps = s.hr.wraps ∧ (cancelLatch c s).sli.address = s.sli.address ∧
    (cancelLatch c s).sli.rate = s.sli.rate ∧ (cancelLatch c s).sli.receive = s.sli.receive ∧
    (cancelLatch c s).sli.assembly = s.sli.assembly ∧ (cancelLatch c s).sli.mask = s.sli.mask ∧
    (cancelLatch c s).sli.counters = s.sli.counters ∧ (cancelLatch c s).sli.resetCause = s.sli.resetCause ∧
    (cancelLatch c s).sli.resetCount = s.sli.resetCount ∧ (cancelLatch c s).sli.reply = s.sli.reply ∧
    (cancelLatch c s).sli.driving = s.sli.driving ∧ (cancelLatch c s).sli.output = s.sli.output ∧
    (cancelLatch c s).pending = s.pending := by
  unfold cancelLatch; dsimp only; (repeat' split) <;> simp

/-- May differ: what R8 names. -/
@[simp] theorem enterHalted_frame (c : HaltCause) (b : Option Branch) (g : Option Group) (f : Option FailureCause) (s : State) :
    (enterHalted c b g f s).pins = s.pins ∧ (enterHalted c b g f s).clock = s.clock ∧ (enterHalted c b g f s).slr = s.slr ∧
    (enterHalted c b g f s).ct.settings = s.ct.settings ∧ (enterHalted c b g f s).bdu.shares = s.bdu.shares ∧
    (enterHalted c b g f s).bdu.lines = s.bdu.lines ∧ (enterHalted c b g f s).table = s.table ∧
    (enterHalted c b g f s).vlc.map = s.vlc.map ∧ (enterHalted c b g f s).vlc.channels = s.vlc.channels ∧
    (enterHalted c b g f s).vlc.settings = s.vlc.settings ∧ (enterHalted c b g f s).causes = s.causes ∧
    (enterHalted c b g f s).pli.inputs = s.pli.inputs ∧ (enterHalted c b g f s).pli.settling = s.pli.settling ∧
    (enterHalted c b g f s).pli.lastApplication = s.pli.lastApplication ∧
    (enterHalted c b g f s).pli.applications = s.pli.applications ∧ (enterHalted c b g f s).hr.ring = s.hr.ring ∧
    (enterHalted c b g f s).hr.nextSeq = s.hr.nextSeq ∧ (enterHalted c b g f s).hr.triggers = s.hr.triggers ∧
    (enterHalted c b g f s).hr.post = s.hr.post ∧ (enterHalted c b g f s).hr.wraps = s.hr.wraps ∧
    (enterHalted c b g f s).sli.address = s.sli.address ∧ (enterHalted c b g f s).sli.rate = s.sli.rate ∧
    (enterHalted c b g f s).sli.receive = s.sli.receive ∧ (enterHalted c b g f s).sli.assembly = s.sli.assembly ∧
    (enterHalted c b g f s).sli.mask = s.sli.mask ∧ (enterHalted c b g f s).sli.counters = s.sli.counters ∧
    (enterHalted c b g f s).sli.resetCause = s.sli.resetCause ∧ (enterHalted c b g f s).sli.resetCount = s.sli.resetCount ∧
    (enterHalted c b g f s).sli.reply = s.sli.reply ∧ (enterHalted c b g f s).sli.driving = s.sli.driving ∧
    (enterHalted c b g f s).sli.output = s.sli.output ∧ (enterHalted c b g f s).pending = s.pending := by
  unfold enterHalted; dsimp only; (repeat' split) <;> simp

/-- May differ: what R10 names. -/
@[simp] theorem disableDevice_frame (s : State) :
    (disableDevice s).pins = s.pins ∧ (disableDevice s).clock = s.clock ∧ (disableDevice s).slr = s.slr ∧
    (disableDevice s).ct.settings = s.ct.settings ∧ (disableDevice s).bdu.shares = s.bdu.shares ∧
    (disableDevice s).table = s.table ∧ (disableDevice s).vlc.map = s.vlc.map ∧
    (disableDevice s).vlc.channels = s.vlc.channels ∧ (disableDevice s).vlc.settings = s.vlc.settings ∧
    (disableDevice s).pli.inputs = s.pli.inputs ∧ (disableDevice s).pli.settling = s.pli.settling ∧
    (disableDevice s).pli.lastApplication = s.pli.lastApplication ∧ (disableDevice s).pli.applications = s.pli.applications ∧
    (disableDevice s).hr.ring = s.hr.ring ∧ (disableDevice s).hr.nextSeq = s.hr.nextSeq ∧
    (disableDevice s).hr.triggers = s.hr.triggers ∧ (disableDevice s).hr.post = s.hr.post ∧
    (disableDevice s).hr.wraps = s.hr.wraps ∧ (disableDevice s).sli.address = s.sli.address ∧
    (disableDevice s).sli.rate = s.sli.rate ∧ (disableDevice s).sli.receive = s.sli.receive ∧
    (disableDevice s).sli.assembly = s.sli.assembly ∧ (disableDevice s).sli.mask = s.sli.mask ∧
    (disableDevice s).sli.counters = s.sli.counters ∧ (disableDevice s).sli.resetCause = s.sli.resetCause ∧
    (disableDevice s).sli.resetCount = s.sli.resetCount ∧ (disableDevice s).sli.reply = s.sli.reply ∧
    (disableDevice s).sli.driving = s.sli.driving ∧ (disableDevice s).sli.output = s.sli.output ∧
    (disableDevice s).pending = s.pending := by
  unfold disableDevice; dsimp only; (repeat' split) <;> simp

/-- May differ: the device state. -/
@[simp] theorem evaluateConfiguration_frame (s : State) :
    (evaluateConfiguration s).pins = s.pins ∧ (evaluateConfiguration s).clock = s.clock ∧
    (evaluateConfiguration s).oc.halt = s.oc.halt ∧ (evaluateConfiguration s).oc.tripRequest = s.oc.tripRequest ∧
    (evaluateConfiguration s).oc.fallbackActive = s.oc.fallbackActive ∧
    (evaluateConfiguration s).oc.lockFrequency = s.oc.lockFrequency ∧ (evaluateConfiguration s).slr = s.slr ∧
    (evaluateConfiguration s).ct = s.ct ∧ (evaluateConfiguration s).bdu = s.bdu ∧ (evaluateConfiguration s).table = s.table ∧
    (evaluateConfiguration s).vlc = s.vlc ∧ (evaluateConfiguration s).causes = s.causes ∧
    (evaluateConfiguration s).pli = s.pli ∧ (evaluateConfiguration s).hr = s.hr ∧ (evaluateConfiguration s).sli = s.sli ∧
    (evaluateConfiguration s).pending = s.pending := by
  unfold evaluateConfiguration; dsimp only; (repeat' split) <;> simp

/-- May differ: what R150 names. -/
@[simp] theorem enterBlocked_frame (b : Branch) (s : State) :
    (enterBlocked b s).pins = s.pins ∧ (enterBlocked b s).clock = s.clock ∧ (enterBlocked b s).oc.device = s.oc.device ∧
    (enterBlocked b s).oc.halt = s.oc.halt ∧ (enterBlocked b s).oc.tripRequest = s.oc.tripRequest ∧
    (enterBlocked b s).oc.lockFrequency = s.oc.lockFrequency ∧ (enterBlocked b s).slr = s.slr ∧ (enterBlocked b s).ct = s.ct ∧
    (enterBlocked b s).bdu.shares = s.bdu.shares ∧ (enterBlocked b s).bdu.lines = s.bdu.lines ∧
    (enterBlocked b s).table = s.table ∧ (enterBlocked b s).vlc.map = s.vlc.map ∧
    (enterBlocked b s).vlc.channels = s.vlc.channels ∧ (enterBlocked b s).vlc.settings = s.vlc.settings ∧
    (enterBlocked b s).causes = s.causes ∧ (enterBlocked b s).pli = s.pli ∧ (enterBlocked b s).hr = s.hr ∧
    (enterBlocked b s).sli = s.sli ∧ (enterBlocked b s).pending = s.pending := by
  unfold enterBlocked; dsimp only; (repeat' split) <;> simp

/-- May differ: the cause sets and what R150, R151 name. -/
@[simp] theorem changeCauses_frame (b : Branch) (f : CauseSet → CauseSet) (s : State) :
    (changeCauses b f s).pins = s.pins ∧ (changeCauses b f s).clock = s.clock ∧ (changeCauses b f s).oc.device = s.oc.device ∧
    (changeCauses b f s).oc.halt = s.oc.halt ∧ (changeCauses b f s).oc.tripRequest = s.oc.tripRequest ∧
    (changeCauses b f s).oc.lockFrequency = s.oc.lockFrequency ∧ (changeCauses b f s).slr = s.slr ∧
    (changeCauses b f s).ct = s.ct ∧ (changeCauses b f s).bdu.shares = s.bdu.shares ∧
    (changeCauses b f s).bdu.lines = s.bdu.lines ∧ (changeCauses b f s).table = s.table ∧
    (changeCauses b f s).vlc.map = s.vlc.map ∧ (changeCauses b f s).vlc.channels = s.vlc.channels ∧
    (changeCauses b f s).vlc.settings = s.vlc.settings ∧ (changeCauses b f s).pli = s.pli ∧ (changeCauses b f s).hr = s.hr ∧
    (changeCauses b f s).sli = s.sli ∧ (changeCauses b f s).pending = s.pending := by
  unfold changeCauses; dsimp only; (repeat' split) <;> simp

/-- May differ: the cause sets and what R150 names. -/
@[simp] theorem addCause_frame (b : Branch) (c : BlockCause) (s : State) :
    (addCause b c s).pins = s.pins ∧ (addCause b c s).clock = s.clock ∧ (addCause b c s).oc.device = s.oc.device ∧
    (addCause b c s).oc.halt = s.oc.halt ∧ (addCause b c s).oc.tripRequest = s.oc.tripRequest ∧
    (addCause b c s).oc.lockFrequency = s.oc.lockFrequency ∧ (addCause b c s).slr = s.slr ∧ (addCause b c s).ct = s.ct ∧
    (addCause b c s).bdu.shares = s.bdu.shares ∧ (addCause b c s).bdu.lines = s.bdu.lines ∧ (addCause b c s).table = s.table ∧
    (addCause b c s).vlc.map = s.vlc.map ∧ (addCause b c s).vlc.channels = s.vlc.channels ∧
    (addCause b c s).vlc.settings = s.vlc.settings ∧ (addCause b c s).pli = s.pli ∧ (addCause b c s).hr = s.hr ∧
    (addCause b c s).sli = s.sli ∧ (addCause b c s).pending = s.pending := by
  unfold addCause; simp

/-- May differ: what R146, R152 and a halt name. -/
@[simp] theorem failGroup_frame (g : Group) (c : FailureCause) (s : State) :
    (failGroup g c s).pins = s.pins ∧ (failGroup g c s).clock = s.clock ∧ (failGroup g c s).slr = s.slr ∧
    (failGroup g c s).ct.settings = s.ct.settings ∧ (failGroup g c s).bdu.shares = s.bdu.shares ∧
    (failGroup g c s).bdu.lines = s.bdu.lines ∧ (failGroup g c s).table = s.table ∧ (failGroup g c s).vlc.map = s.vlc.map ∧
    (failGroup g c s).vlc.channels = s.vlc.channels ∧ (failGroup g c s).vlc.settings = s.vlc.settings ∧
    (failGroup g c s).pli.inputs = s.pli.inputs ∧ (failGroup g c s).pli.settling = s.pli.settling ∧
    (failGroup g c s).pli.lastApplication = s.pli.lastApplication ∧ (failGroup g c s).pli.applications = s.pli.applications ∧
    (failGroup g c s).hr.ring = s.hr.ring ∧ (failGroup g c s).hr.nextSeq = s.hr.nextSeq ∧
    (failGroup g c s).hr.triggers = s.hr.triggers ∧ (failGroup g c s).hr.post = s.hr.post ∧
    (failGroup g c s).hr.wraps = s.hr.wraps ∧ (failGroup g c s).sli.address = s.sli.address ∧
    (failGroup g c s).sli.rate = s.sli.rate ∧ (failGroup g c s).sli.receive = s.sli.receive ∧
    (failGroup g c s).sli.assembly = s.sli.assembly ∧ (failGroup g c s).sli.mask = s.sli.mask ∧
    (failGroup g c s).sli.counters = s.sli.counters ∧ (failGroup g c s).sli.resetCause = s.sli.resetCause ∧
    (failGroup g c s).sli.resetCount = s.sli.resetCount ∧ (failGroup g c s).sli.reply = s.sli.reply ∧
    (failGroup g c s).sli.driving = s.sli.driving ∧ (failGroup g c s).sli.output = s.sli.output ∧
    (failGroup g c s).pending = s.pending := by
  unfold failGroup; dsimp only; (repeat' split) <;> simp

/-- May differ: a channel, and a failure's items. -/
@[simp] theorem enterSilent_frame (c : ValveChannel) (s : State) :
    (enterSilent c s).pins = s.pins ∧ (enterSilent c s).clock = s.clock ∧ (enterSilent c s).slr = s.slr ∧
    (enterSilent c s).ct.settings = s.ct.settings ∧ (enterSilent c s).bdu.shares = s.bdu.shares ∧
    (enterSilent c s).bdu.lines = s.bdu.lines ∧ (enterSilent c s).table = s.table ∧ (enterSilent c s).vlc.map = s.vlc.map ∧
    (enterSilent c s).vlc.settings = s.vlc.settings ∧ (enterSilent c s).pli.inputs = s.pli.inputs ∧
    (enterSilent c s).pli.settling = s.pli.settling ∧ (enterSilent c s).pli.lastApplication = s.pli.lastApplication ∧
    (enterSilent c s).pli.applications = s.pli.applications ∧ (enterSilent c s).hr.ring = s.hr.ring ∧
    (enterSilent c s).hr.nextSeq = s.hr.nextSeq ∧ (enterSilent c s).hr.triggers = s.hr.triggers ∧
    (enterSilent c s).hr.post = s.hr.post ∧ (enterSilent c s).hr.wraps = s.hr.wraps ∧
    (enterSilent c s).sli.address = s.sli.address ∧ (enterSilent c s).sli.rate = s.sli.rate ∧
    (enterSilent c s).sli.receive = s.sli.receive ∧ (enterSilent c s).sli.assembly = s.sli.assembly ∧
    (enterSilent c s).sli.mask = s.sli.mask ∧ (enterSilent c s).sli.counters = s.sli.counters ∧
    (enterSilent c s).sli.resetCause = s.sli.resetCause ∧ (enterSilent c s).sli.resetCount = s.sli.resetCount ∧
    (enterSilent c s).sli.reply = s.sli.reply ∧ (enterSilent c s).sli.driving = s.sli.driving ∧
    (enterSilent c s).sli.output = s.sli.output ∧ (enterSilent c s).pending = s.pending := by
  unfold enterSilent; dsimp only; (repeat' split) <;> simp

/-- May differ: a group's items. -/
@[simp] theorem takeFv_frame (g : Group) (s : State) :
    (takeFv g s).pins = s.pins ∧ (takeFv g s).clock = s.clock ∧ (takeFv g s).oc = s.oc ∧ (takeFv g s).slr = s.slr ∧
    (takeFv g s).ct = s.ct ∧ (takeFv g s).bdu = s.bdu ∧ (takeFv g s).table = s.table ∧ (takeFv g s).vlc.map = s.vlc.map ∧
    (takeFv g s).vlc.channels = s.vlc.channels ∧ (takeFv g s).vlc.firing = s.vlc.firing ∧
    (takeFv g s).vlc.settings = s.vlc.settings ∧ (takeFv g s).causes = s.causes ∧ (takeFv g s).pli = s.pli ∧
    (takeFv g s).hr.ring = s.hr.ring ∧ (takeFv g s).hr.nextSeq = s.hr.nextSeq ∧ (takeFv g s).hr.triggers = s.hr.triggers ∧
    (takeFv g s).hr.post = s.hr.post ∧ (takeFv g s).hr.wraps = s.hr.wraps ∧ (takeFv g s).sli.address = s.sli.address ∧
    (takeFv g s).sli.rate = s.sli.rate ∧ (takeFv g s).sli.receive = s.sli.receive ∧
    (takeFv g s).sli.assembly = s.sli.assembly ∧ (takeFv g s).sli.mask = s.sli.mask ∧
    (takeFv g s).sli.counters = s.sli.counters ∧ (takeFv g s).sli.resetCause = s.sli.resetCause ∧
    (takeFv g s).sli.resetCount = s.sli.resetCount ∧ (takeFv g s).sli.reply = s.sli.reply ∧
    (takeFv g s).sli.driving = s.sli.driving ∧ (takeFv g s).sli.output = s.sli.output ∧ (takeFv g s).pending = s.pending := by
  unfold takeFv; dsimp only; (repeat' split) <;> simp

/-- May differ: a transaction, and a failure's items. -/
@[simp] theorem closeRefused_frame (b : Branch) (t : Transaction) (c : RefusalCause) (s : State) :
    (closeRefused b t c s).pins = s.pins ∧ (closeRefused b t c s).clock = s.clock ∧ (closeRefused b t c s).slr = s.slr ∧
    (closeRefused b t c s).ct.settings = s.ct.settings ∧ (closeRefused b t c s).bdu.shares = s.bdu.shares ∧
    (closeRefused b t c s).bdu.lines = s.bdu.lines ∧ (closeRefused b t c s).table = s.table ∧
    (closeRefused b t c s).vlc.map = s.vlc.map ∧ (closeRefused b t c s).vlc.channels = s.vlc.channels ∧
    (closeRefused b t c s).vlc.settings = s.vlc.settings ∧ (closeRefused b t c s).pli.inputs = s.pli.inputs ∧
    (closeRefused b t c s).pli.settling = s.pli.settling ∧ (closeRefused b t c s).pli.lastApplication = s.pli.lastApplication ∧
    (closeRefused b t c s).pli.applications = s.pli.applications ∧ (closeRefused b t c s).hr.ring = s.hr.ring ∧
    (closeRefused b t c s).hr.nextSeq = s.hr.nextSeq ∧ (closeRefused b t c s).hr.triggers = s.hr.triggers ∧
    (closeRefused b t c s).hr.post = s.hr.post ∧ (closeRefused b t c s).hr.wraps = s.hr.wraps ∧
    (closeRefused b t c s).sli.address = s.sli.address ∧ (closeRefused b t c s).sli.rate = s.sli.rate ∧
    (closeRefused b t c s).sli.receive = s.sli.receive ∧ (closeRefused b t c s).sli.assembly = s.sli.assembly ∧
    (closeRefused b t c s).sli.mask = s.sli.mask ∧ (closeRefused b t c s).sli.counters = s.sli.counters ∧
    (closeRefused b t c s).sli.resetCause = s.sli.resetCause ∧ (closeRefused b t c s).sli.resetCount = s.sli.resetCount ∧
    (closeRefused b t c s).sli.reply = s.sli.reply ∧ (closeRefused b t c s).sli.driving = s.sli.driving ∧
    (closeRefused b t c s).sli.output = s.sli.output ∧ (closeRefused b t c s).pending = s.pending := by
  unfold closeRefused; dsimp only; (repeat' split) <;> simp

/-- May differ: a transaction, and a failure's items. -/
@[simp] theorem closeMisfire_frame (b : Branch) (t : Transaction) (s : State) :
    (closeMisfire b t s).pins = s.pins ∧ (closeMisfire b t s).clock = s.clock ∧ (closeMisfire b t s).slr = s.slr ∧
    (closeMisfire b t s).ct.settings = s.ct.settings ∧ (closeMisfire b t s).bdu.shares = s.bdu.shares ∧
    (closeMisfire b t s).bdu.lines = s.bdu.lines ∧ (closeMisfire b t s).table = s.table ∧
    (closeMisfire b t s).vlc.map = s.vlc.map ∧ (closeMisfire b t s).vlc.channels = s.vlc.channels ∧
    (closeMisfire b t s).vlc.settings = s.vlc.settings ∧ (closeMisfire b t s).pli.inputs = s.pli.inputs ∧
    (closeMisfire b t s).pli.settling = s.pli.settling ∧ (closeMisfire b t s).pli.lastApplication = s.pli.lastApplication ∧
    (closeMisfire b t s).pli.applications = s.pli.applications ∧ (closeMisfire b t s).hr.ring = s.hr.ring ∧
    (closeMisfire b t s).hr.nextSeq = s.hr.nextSeq ∧ (closeMisfire b t s).hr.triggers = s.hr.triggers ∧
    (closeMisfire b t s).hr.post = s.hr.post ∧ (closeMisfire b t s).hr.wraps = s.hr.wraps ∧
    (closeMisfire b t s).sli.address = s.sli.address ∧ (closeMisfire b t s).sli.rate = s.sli.rate ∧
    (closeMisfire b t s).sli.receive = s.sli.receive ∧ (closeMisfire b t s).sli.assembly = s.sli.assembly ∧
    (closeMisfire b t s).sli.mask = s.sli.mask ∧ (closeMisfire b t s).sli.counters = s.sli.counters ∧
    (closeMisfire b t s).sli.resetCause = s.sli.resetCause ∧ (closeMisfire b t s).sli.resetCount = s.sli.resetCount ∧
    (closeMisfire b t s).sli.reply = s.sli.reply ∧ (closeMisfire b t s).sli.driving = s.sli.driving ∧
    (closeMisfire b t s).sli.output = s.sli.output ∧ (closeMisfire b t s).pending = s.pending := by
  unfold closeMisfire; dsimp only; (repeat' split) <;> simp

/-- May differ: a group's counters. -/
@[simp] theorem countStray_frame (g : Group) (s : State) :
    (countStray g s).pins = s.pins ∧ (countStray g s).clock = s.clock ∧ (countStray g s).oc = s.oc ∧
    (countStray g s).slr = s.slr ∧ (countStray g s).ct = s.ct ∧ (countStray g s).bdu = s.bdu ∧
    (countStray g s).table = s.table ∧ (countStray g s).vlc.map = s.vlc.map ∧ (countStray g s).vlc.channels = s.vlc.channels ∧
    (countStray g s).vlc.firing = s.vlc.firing ∧ (countStray g s).vlc.settings = s.vlc.settings ∧
    (countStray g s).causes = s.causes ∧ (countStray g s).pli = s.pli ∧ (countStray g s).hr.ring = s.hr.ring ∧
    (countStray g s).hr.nextSeq = s.hr.nextSeq ∧ (countStray g s).hr.triggers = s.hr.triggers ∧
    (countStray g s).hr.post = s.hr.post ∧ (countStray g s).hr.wraps = s.hr.wraps ∧
    (countStray g s).sli.address = s.sli.address ∧ (countStray g s).sli.rate = s.sli.rate ∧
    (countStray g s).sli.receive = s.sli.receive ∧ (countStray g s).sli.assembly = s.sli.assembly ∧
    (countStray g s).sli.mask = s.sli.mask ∧ (countStray g s).sli.counters = s.sli.counters ∧
    (countStray g s).sli.resetCause = s.sli.resetCause ∧ (countStray g s).sli.resetCount = s.sli.resetCount ∧
    (countStray g s).sli.reply = s.sli.reply ∧ (countStray g s).sli.driving = s.sli.driving ∧
    (countStray g s).sli.output = s.sli.output ∧ (countStray g s).pending = s.pending := by
  unfold countStray; simp

/-- May differ: a group's items and the firing items. -/
@[simp] theorem takeFired_frame (g : Group) (tag : BitVec 4) (s : State) :
    (takeFired g tag s).pins = s.pins ∧ (takeFired g tag s).clock = s.clock ∧ (takeFired g tag s).oc = s.oc ∧
    (takeFired g tag s).slr = s.slr ∧ (takeFired g tag s).ct = s.ct ∧ (takeFired g tag s).bdu = s.bdu ∧
    (takeFired g tag s).table = s.table ∧ (takeFired g tag s).vlc.map = s.vlc.map ∧
    (takeFired g tag s).vlc.channels = s.vlc.channels ∧ (takeFired g tag s).vlc.settings = s.vlc.settings ∧
    (takeFired g tag s).causes = s.causes ∧ (takeFired g tag s).pli = s.pli ∧ (takeFired g tag s).hr.ring = s.hr.ring ∧
    (takeFired g tag s).hr.nextSeq = s.hr.nextSeq ∧ (takeFired g tag s).hr.triggers = s.hr.triggers ∧
    (takeFired g tag s).hr.post = s.hr.post ∧ (takeFired g tag s).hr.wraps = s.hr.wraps ∧
    (takeFired g tag s).sli.address = s.sli.address ∧ (takeFired g tag s).sli.rate = s.sli.rate ∧
    (takeFired g tag s).sli.receive = s.sli.receive ∧ (takeFired g tag s).sli.assembly = s.sli.assembly ∧
    (takeFired g tag s).sli.mask = s.sli.mask ∧ (takeFired g tag s).sli.counters = s.sli.counters ∧
    (takeFired g tag s).sli.resetCause = s.sli.resetCause ∧ (takeFired g tag s).sli.resetCount = s.sli.resetCount ∧
    (takeFired g tag s).sli.reply = s.sli.reply ∧ (takeFired g tag s).sli.driving = s.sli.driving ∧
    (takeFired g tag s).sli.output = s.sli.output ∧ (takeFired g tag s).pending = s.pending := by
  unfold takeFired; (repeat' split) <;> simp

/-- May differ: a transaction, and a failure's items. -/
@[simp] theorem takeRefused_frame (g : Group) (tag : BitVec 4) (c : RefusalCause) (s : State) :
    (takeRefused g tag c s).pins = s.pins ∧ (takeRefused g tag c s).clock = s.clock ∧ (takeRefused g tag c s).slr = s.slr ∧
    (takeRefused g tag c s).ct.settings = s.ct.settings ∧ (takeRefused g tag c s).bdu.shares = s.bdu.shares ∧
    (takeRefused g tag c s).bdu.lines = s.bdu.lines ∧ (takeRefused g tag c s).table = s.table ∧
    (takeRefused g tag c s).vlc.map = s.vlc.map ∧ (takeRefused g tag c s).vlc.channels = s.vlc.channels ∧
    (takeRefused g tag c s).vlc.settings = s.vlc.settings ∧ (takeRefused g tag c s).pli.inputs = s.pli.inputs ∧
    (takeRefused g tag c s).pli.settling = s.pli.settling ∧
    (takeRefused g tag c s).pli.lastApplication = s.pli.lastApplication ∧
    (takeRefused g tag c s).pli.applications = s.pli.applications ∧ (takeRefused g tag c s).hr.ring = s.hr.ring ∧
    (takeRefused g tag c s).hr.nextSeq = s.hr.nextSeq ∧ (takeRefused g tag c s).hr.triggers = s.hr.triggers ∧
    (takeRefused g tag c s).hr.post = s.hr.post ∧ (takeRefused g tag c s).hr.wraps = s.hr.wraps ∧
    (takeRefused g tag c s).sli.address = s.sli.address ∧ (takeRefused g tag c s).sli.rate = s.sli.rate ∧
    (takeRefused g tag c s).sli.receive = s.sli.receive ∧ (takeRefused g tag c s).sli.assembly = s.sli.assembly ∧
    (takeRefused g tag c s).sli.mask = s.sli.mask ∧ (takeRefused g tag c s).sli.counters = s.sli.counters ∧
    (takeRefused g tag c s).sli.resetCause = s.sli.resetCause ∧ (takeRefused g tag c s).sli.resetCount = s.sli.resetCount ∧
    (takeRefused g tag c s).sli.reply = s.sli.reply ∧ (takeRefused g tag c s).sli.driving = s.sli.driving ∧
    (takeRefused g tag c s).sli.output = s.sli.output ∧ (takeRefused g tag c s).pending = s.pending := by
  unfold takeRefused; (repeat' split) <;> simp

/-- May differ: a group's counters. -/
@[simp] theorem takeSelfFired_frame (g : Group) (s : State) :
    (takeSelfFired g s).pins = s.pins ∧ (takeSelfFired g s).clock = s.clock ∧ (takeSelfFired g s).oc = s.oc ∧
    (takeSelfFired g s).slr = s.slr ∧ (takeSelfFired g s).ct = s.ct ∧ (takeSelfFired g s).bdu = s.bdu ∧
    (takeSelfFired g s).table = s.table ∧ (takeSelfFired g s).vlc.map = s.vlc.map ∧
    (takeSelfFired g s).vlc.channels = s.vlc.channels ∧ (takeSelfFired g s).vlc.firing = s.vlc.firing ∧
    (takeSelfFired g s).vlc.settings = s.vlc.settings ∧ (takeSelfFired g s).causes = s.causes ∧
    (takeSelfFired g s).pli = s.pli ∧ (takeSelfFired g s).hr.ring = s.hr.ring ∧ (takeSelfFired g s).hr.nextSeq = s.hr.nextSeq ∧
    (takeSelfFired g s).hr.triggers = s.hr.triggers ∧ (takeSelfFired g s).hr.post = s.hr.post ∧
    (takeSelfFired g s).hr.wraps = s.hr.wraps ∧ (takeSelfFired g s).sli.address = s.sli.address ∧
    (takeSelfFired g s).sli.rate = s.sli.rate ∧ (takeSelfFired g s).sli.receive = s.sli.receive ∧
    (takeSelfFired g s).sli.assembly = s.sli.assembly ∧ (takeSelfFired g s).sli.mask = s.sli.mask ∧
    (takeSelfFired g s).sli.counters = s.sli.counters ∧ (takeSelfFired g s).sli.resetCause = s.sli.resetCause ∧
    (takeSelfFired g s).sli.resetCount = s.sli.resetCount ∧ (takeSelfFired g s).sli.reply = s.sli.reply ∧
    (takeSelfFired g s).sli.driving = s.sli.driving ∧ (takeSelfFired g s).sli.output = s.sli.output ∧
    (takeSelfFired g s).pending = s.pending := by
  unfold takeSelfFired; simp

/-- May differ: a failure's items. -/
@[simp] theorem checkLimits_frame (g : Group) (st : ValveStatus) (s : State) :
    (checkLimits g st s).pins = s.pins ∧ (checkLimits g st s).clock = s.clock ∧ (checkLimits g st s).slr = s.slr ∧
    (checkLimits g st s).ct.settings = s.ct.settings ∧ (checkLimits g st s).bdu.shares = s.bdu.shares ∧
    (checkLimits g st s).bdu.lines = s.bdu.lines ∧ (checkLimits g st s).table = s.table ∧
    (checkLimits g st s).vlc.map = s.vlc.map ∧ (checkLimits g st s).vlc.channels = s.vlc.channels ∧
    (checkLimits g st s).vlc.settings = s.vlc.settings ∧ (checkLimits g st s).pli.inputs = s.pli.inputs ∧
    (checkLimits g st s).pli.settling = s.pli.settling ∧ (checkLimits g st s).pli.lastApplication = s.pli.lastApplication ∧
    (checkLimits g st s).pli.applications = s.pli.applications ∧ (checkLimits g st s).hr.ring = s.hr.ring ∧
    (checkLimits g st s).hr.nextSeq = s.hr.nextSeq ∧ (checkLimits g st s).hr.triggers = s.hr.triggers ∧
    (checkLimits g st s).hr.post = s.hr.post ∧ (checkLimits g st s).hr.wraps = s.hr.wraps ∧
    (checkLimits g st s).sli.address = s.sli.address ∧ (checkLimits g st s).sli.rate = s.sli.rate ∧
    (checkLimits g st s).sli.receive = s.sli.receive ∧ (checkLimits g st s).sli.assembly = s.sli.assembly ∧
    (checkLimits g st s).sli.mask = s.sli.mask ∧ (checkLimits g st s).sli.counters = s.sli.counters ∧
    (checkLimits g st s).sli.resetCause = s.sli.resetCause ∧ (checkLimits g st s).sli.resetCount = s.sli.resetCount ∧
    (checkLimits g st s).sli.reply = s.sli.reply ∧ (checkLimits g st s).sli.driving = s.sli.driving ∧
    (checkLimits g st s).sli.output = s.sli.output ∧ (checkLimits g st s).pending = s.pending := by
  unfold checkLimits; (repeat' split) <;> simp

/-- May differ: a group's change latch. -/
@[simp] theorem compareStatus_frame (g : Group) (st : ValveStatus) (s : State) :
    (compareStatus g st s).pins = s.pins ∧ (compareStatus g st s).clock = s.clock ∧ (compareStatus g st s).oc = s.oc ∧
    (compareStatus g st s).slr = s.slr ∧ (compareStatus g st s).ct = s.ct ∧ (compareStatus g st s).bdu = s.bdu ∧
    (compareStatus g st s).table = s.table ∧ (compareStatus g st s).vlc.map = s.vlc.map ∧
    (compareStatus g st s).vlc.channels = s.vlc.channels ∧ (compareStatus g st s).vlc.firing = s.vlc.firing ∧
    (compareStatus g st s).vlc.settings = s.vlc.settings ∧ (compareStatus g st s).causes = s.causes ∧
    (compareStatus g st s).pli = s.pli ∧ (compareStatus g st s).hr.ring = s.hr.ring ∧
    (compareStatus g st s).hr.nextSeq = s.hr.nextSeq ∧ (compareStatus g st s).hr.triggers = s.hr.triggers ∧
    (compareStatus g st s).hr.post = s.hr.post ∧ (compareStatus g st s).hr.wraps = s.hr.wraps ∧
    (compareStatus g st s).sli.address = s.sli.address ∧ (compareStatus g st s).sli.rate = s.sli.rate ∧
    (compareStatus g st s).sli.receive = s.sli.receive ∧ (compareStatus g st s).sli.assembly = s.sli.assembly ∧
    (compareStatus g st s).sli.mask = s.sli.mask ∧ (compareStatus g st s).sli.counters = s.sli.counters ∧
    (compareStatus g st s).sli.resetCause = s.sli.resetCause ∧ (compareStatus g st s).sli.resetCount = s.sli.resetCount ∧
    (compareStatus g st s).sli.reply = s.sli.reply ∧ (compareStatus g st s).sli.driving = s.sli.driving ∧
    (compareStatus g st s).sli.output = s.sli.output ∧ (compareStatus g st s).pending = s.pending := by
  unfold compareStatus; dsimp only; (repeat' split) <;> simp

/-- May differ: a group's latch, and a failure's items. -/
@[simp] theorem takeStatus_frame (g : Group) (st : ValveStatus) (s : State) :
    (takeStatus g st s).pins = s.pins ∧ (takeStatus g st s).clock = s.clock ∧ (takeStatus g st s).slr = s.slr ∧
    (takeStatus g st s).ct.settings = s.ct.settings ∧ (takeStatus g st s).bdu.shares = s.bdu.shares ∧
    (takeStatus g st s).bdu.lines = s.bdu.lines ∧ (takeStatus g st s).table = s.table ∧
    (takeStatus g st s).vlc.map = s.vlc.map ∧ (takeStatus g st s).vlc.channels = s.vlc.channels ∧
    (takeStatus g st s).vlc.settings = s.vlc.settings ∧ (takeStatus g st s).pli.inputs = s.pli.inputs ∧
    (takeStatus g st s).pli.settling = s.pli.settling ∧ (takeStatus g st s).pli.lastApplication = s.pli.lastApplication ∧
    (takeStatus g st s).pli.applications = s.pli.applications ∧ (takeStatus g st s).hr.ring = s.hr.ring ∧
    (takeStatus g st s).hr.nextSeq = s.hr.nextSeq ∧ (takeStatus g st s).hr.triggers = s.hr.triggers ∧
    (takeStatus g st s).hr.post = s.hr.post ∧ (takeStatus g st s).hr.wraps = s.hr.wraps ∧
    (takeStatus g st s).sli.address = s.sli.address ∧ (takeStatus g st s).sli.rate = s.sli.rate ∧
    (takeStatus g st s).sli.receive = s.sli.receive ∧ (takeStatus g st s).sli.assembly = s.sli.assembly ∧
    (takeStatus g st s).sli.mask = s.sli.mask ∧ (takeStatus g st s).sli.counters = s.sli.counters ∧
    (takeStatus g st s).sli.resetCause = s.sli.resetCause ∧ (takeStatus g st s).sli.resetCount = s.sli.resetCount ∧
    (takeStatus g st s).sli.reply = s.sli.reply ∧ (takeStatus g st s).sli.driving = s.sli.driving ∧
    (takeStatus g st s).sli.output = s.sli.output ∧ (takeStatus g st s).pending = s.pending := by
  unfold takeStatus; simp

/-- May differ: a channel, and what the indication does. -/
@[simp] theorem takeIndication_frame (c : ValveChannel) (i : Indication) (s : State) :
    (takeIndication c i s).pins = s.pins ∧ (takeIndication c i s).clock = s.clock ∧ (takeIndication c i s).slr = s.slr ∧
    (takeIndication c i s).ct.settings = s.ct.settings ∧ (takeIndication c i s).bdu.shares = s.bdu.shares ∧
    (takeIndication c i s).bdu.lines = s.bdu.lines ∧ (takeIndication c i s).table = s.table ∧
    (takeIndication c i s).vlc.map = s.vlc.map ∧ (takeIndication c i s).vlc.settings = s.vlc.settings ∧
    (takeIndication c i s).pli.inputs = s.pli.inputs ∧ (takeIndication c i s).pli.settling = s.pli.settling ∧
    (takeIndication c i s).pli.lastApplication = s.pli.lastApplication ∧
    (takeIndication c i s).pli.applications = s.pli.applications ∧ (takeIndication c i s).hr.ring = s.hr.ring ∧
    (takeIndication c i s).hr.nextSeq = s.hr.nextSeq ∧ (takeIndication c i s).hr.triggers = s.hr.triggers ∧
    (takeIndication c i s).hr.post = s.hr.post ∧ (takeIndication c i s).hr.wraps = s.hr.wraps ∧
    (takeIndication c i s).sli.address = s.sli.address ∧ (takeIndication c i s).sli.rate = s.sli.rate ∧
    (takeIndication c i s).sli.receive = s.sli.receive ∧ (takeIndication c i s).sli.assembly = s.sli.assembly ∧
    (takeIndication c i s).sli.mask = s.sli.mask ∧ (takeIndication c i s).sli.counters = s.sli.counters ∧
    (takeIndication c i s).sli.resetCause = s.sli.resetCause ∧ (takeIndication c i s).sli.resetCount = s.sli.resetCount ∧
    (takeIndication c i s).sli.reply = s.sli.reply ∧ (takeIndication c i s).sli.driving = s.sli.driving ∧
    (takeIndication c i s).sli.output = s.sli.output ∧ (takeIndication c i s).pending = s.pending := by
  unfold takeIndication; dsimp only; (repeat' split) <;> simp

/-- May differ: a channel, and what the indication does. -/
@[simp] theorem takeValveFrame_frame (c : ValveChannel) (l : List Byte) (s : State) :
    (takeValveFrame c l s).pins = s.pins ∧ (takeValveFrame c l s).clock = s.clock ∧ (takeValveFrame c l s).slr = s.slr ∧
    (takeValveFrame c l s).ct.settings = s.ct.settings ∧ (takeValveFrame c l s).bdu.shares = s.bdu.shares ∧
    (takeValveFrame c l s).bdu.lines = s.bdu.lines ∧ (takeValveFrame c l s).table = s.table ∧
    (takeValveFrame c l s).vlc.map = s.vlc.map ∧ (takeValveFrame c l s).vlc.settings = s.vlc.settings ∧
    (takeValveFrame c l s).pli.inputs = s.pli.inputs ∧ (takeValveFrame c l s).pli.settling = s.pli.settling ∧
    (takeValveFrame c l s).pli.lastApplication = s.pli.lastApplication ∧
    (takeValveFrame c l s).pli.applications = s.pli.applications ∧ (takeValveFrame c l s).hr.ring = s.hr.ring ∧
    (takeValveFrame c l s).hr.nextSeq = s.hr.nextSeq ∧ (takeValveFrame c l s).hr.triggers = s.hr.triggers ∧
    (takeValveFrame c l s).hr.post = s.hr.post ∧ (takeValveFrame c l s).hr.wraps = s.hr.wraps ∧
    (takeValveFrame c l s).sli.address = s.sli.address ∧ (takeValveFrame c l s).sli.rate = s.sli.rate ∧
    (takeValveFrame c l s).sli.receive = s.sli.receive ∧ (takeValveFrame c l s).sli.assembly = s.sli.assembly ∧
    (takeValveFrame c l s).sli.mask = s.sli.mask ∧ (takeValveFrame c l s).sli.counters = s.sli.counters ∧
    (takeValveFrame c l s).sli.resetCause = s.sli.resetCause ∧ (takeValveFrame c l s).sli.resetCount = s.sli.resetCount ∧
    (takeValveFrame c l s).sli.reply = s.sli.reply ∧ (takeValveFrame c l s).sli.driving = s.sli.driving ∧
    (takeValveFrame c l s).sli.output = s.sli.output ∧ (takeValveFrame c l s).pending = s.pending := by
  unfold takeValveFrame; (repeat' split) <;> simp

/-- May differ: counter, channel, group and firing items. -/
@[simp] theorem reachDelay_frame (b : Branch) (s : State) :
    (reachDelay b s).pins = s.pins ∧ (reachDelay b s).clock = s.clock ∧ (reachDelay b s).oc = s.oc ∧
    (reachDelay b s).slr = s.slr ∧ (reachDelay b s).ct.settings = s.ct.settings ∧ (reachDelay b s).ct.nominal = s.ct.nominal ∧
    (reachDelay b s).ct.progress = s.ct.progress ∧ (reachDelay b s).bdu = s.bdu ∧ (reachDelay b s).table = s.table ∧
    (reachDelay b s).vlc.map = s.vlc.map ∧ (reachDelay b s).vlc.settings = s.vlc.settings ∧
    (reachDelay b s).causes = s.causes ∧ (reachDelay b s).pli = s.pli ∧ (reachDelay b s).hr = s.hr ∧
    (reachDelay b s).sli = s.sli ∧ (reachDelay b s).pending = s.pending := by
  unfold reachDelay; dsimp only; (repeat' split) <;> simp

/-- May differ: counter, transaction, and a failure's items. -/
@[simp] theorem reachGuardEnd_frame (b : Branch) (s : State) :
    (reachGuardEnd b s).pins = s.pins ∧ (reachGuardEnd b s).clock = s.clock ∧ (reachGuardEnd b s).slr = s.slr ∧
    (reachGuardEnd b s).ct.settings = s.ct.settings ∧ (reachGuardEnd b s).bdu.shares = s.bdu.shares ∧
    (reachGuardEnd b s).bdu.lines = s.bdu.lines ∧ (reachGuardEnd b s).table = s.table ∧
    (reachGuardEnd b s).vlc.map = s.vlc.map ∧ (reachGuardEnd b s).vlc.channels = s.vlc.channels ∧
    (reachGuardEnd b s).vlc.settings = s.vlc.settings ∧ (reachGuardEnd b s).pli.inputs = s.pli.inputs ∧
    (reachGuardEnd b s).pli.settling = s.pli.settling ∧ (reachGuardEnd b s).pli.lastApplication = s.pli.lastApplication ∧
    (reachGuardEnd b s).pli.applications = s.pli.applications ∧ (reachGuardEnd b s).hr.ring = s.hr.ring ∧
    (reachGuardEnd b s).hr.nextSeq = s.hr.nextSeq ∧ (reachGuardEnd b s).hr.triggers = s.hr.triggers ∧
    (reachGuardEnd b s).hr.post = s.hr.post ∧ (reachGuardEnd b s).hr.wraps = s.hr.wraps ∧
    (reachGuardEnd b s).sli.address = s.sli.address ∧ (reachGuardEnd b s).sli.rate = s.sli.rate ∧
    (reachGuardEnd b s).sli.receive = s.sli.receive ∧ (reachGuardEnd b s).sli.assembly = s.sli.assembly ∧
    (reachGuardEnd b s).sli.mask = s.sli.mask ∧ (reachGuardEnd b s).sli.counters = s.sli.counters ∧
    (reachGuardEnd b s).sli.resetCause = s.sli.resetCause ∧ (reachGuardEnd b s).sli.resetCount = s.sli.resetCount ∧
    (reachGuardEnd b s).sli.reply = s.sli.reply ∧ (reachGuardEnd b s).sli.driving = s.sli.driving ∧
    (reachGuardEnd b s).sli.output = s.sli.output ∧ (reachGuardEnd b s).pending = s.pending := by
  unfold reachGuardEnd; dsimp only; (repeat' split) <;> simp

/-- May differ: counter, channel, transaction, and a failure's items. -/
@[simp] theorem reachRetry_frame (b : Branch) (s : State) :
    (reachRetry b s).pins = s.pins ∧ (reachRetry b s).clock = s.clock ∧ (reachRetry b s).slr = s.slr ∧
    (reachRetry b s).ct.settings = s.ct.settings ∧ (reachRetry b s).bdu.shares = s.bdu.shares ∧
    (reachRetry b s).bdu.lines = s.bdu.lines ∧ (reachRetry b s).table = s.table ∧ (reachRetry b s).vlc.map = s.vlc.map ∧
    (reachRetry b s).vlc.settings = s.vlc.settings ∧ (reachRetry b s).pli.inputs = s.pli.inputs ∧
    (reachRetry b s).pli.settling = s.pli.settling ∧ (reachRetry b s).pli.lastApplication = s.pli.lastApplication ∧
    (reachRetry b s).pli.applications = s.pli.applications ∧ (reachRetry b s).hr.ring = s.hr.ring ∧
    (reachRetry b s).hr.nextSeq = s.hr.nextSeq ∧ (reachRetry b s).hr.triggers = s.hr.triggers ∧
    (reachRetry b s).hr.post = s.hr.post ∧ (reachRetry b s).hr.wraps = s.hr.wraps ∧
    (reachRetry b s).sli.address = s.sli.address ∧ (reachRetry b s).sli.rate = s.sli.rate ∧
    (reachRetry b s).sli.receive = s.sli.receive ∧ (reachRetry b s).sli.assembly = s.sli.assembly ∧
    (reachRetry b s).sli.mask = s.sli.mask ∧ (reachRetry b s).sli.counters = s.sli.counters ∧
    (reachRetry b s).sli.resetCause = s.sli.resetCause ∧ (reachRetry b s).sli.resetCount = s.sli.resetCount ∧
    (reachRetry b s).sli.reply = s.sli.reply ∧ (reachRetry b s).sli.driving = s.sli.driving ∧
    (reachRetry b s).sli.output = s.sli.output ∧ (reachRetry b s).pending = s.pending := by
  unfold reachRetry; dsimp only; (repeat' split) <;> simp

/-- May differ: the firing items, and a failure's items. -/
@[simp] theorem settleHalfCycle_frame (b : Branch) (s : State) :
    (settleHalfCycle b s).pins = s.pins ∧ (settleHalfCycle b s).clock = s.clock ∧ (settleHalfCycle b s).slr = s.slr ∧
    (settleHalfCycle b s).ct.settings = s.ct.settings ∧ (settleHalfCycle b s).bdu.shares = s.bdu.shares ∧
    (settleHalfCycle b s).bdu.lines = s.bdu.lines ∧ (settleHalfCycle b s).table = s.table ∧
    (settleHalfCycle b s).vlc.map = s.vlc.map ∧ (settleHalfCycle b s).vlc.channels = s.vlc.channels ∧
    (settleHalfCycle b s).vlc.settings = s.vlc.settings ∧ (settleHalfCycle b s).pli.inputs = s.pli.inputs ∧
    (settleHalfCycle b s).pli.settling = s.pli.settling ∧ (settleHalfCycle b s).pli.lastApplication = s.pli.lastApplication ∧
    (settleHalfCycle b s).pli.applications = s.pli.applications ∧ (settleHalfCycle b s).hr.ring = s.hr.ring ∧
    (settleHalfCycle b s).hr.nextSeq = s.hr.nextSeq ∧ (settleHalfCycle b s).hr.triggers = s.hr.triggers ∧
    (settleHalfCycle b s).hr.post = s.hr.post ∧ (settleHalfCycle b s).hr.wraps = s.hr.wraps ∧
    (settleHalfCycle b s).sli.address = s.sli.address ∧ (settleHalfCycle b s).sli.rate = s.sli.rate ∧
    (settleHalfCycle b s).sli.receive = s.sli.receive ∧ (settleHalfCycle b s).sli.assembly = s.sli.assembly ∧
    (settleHalfCycle b s).sli.mask = s.sli.mask ∧ (settleHalfCycle b s).sli.counters = s.sli.counters ∧
    (settleHalfCycle b s).sli.resetCause = s.sli.resetCause ∧ (settleHalfCycle b s).sli.resetCount = s.sli.resetCount ∧
    (settleHalfCycle b s).sli.reply = s.sli.reply ∧ (settleHalfCycle b s).sli.driving = s.sli.driving ∧
    (settleHalfCycle b s).sli.output = s.sli.output ∧ (settleHalfCycle b s).pending = s.pending := by
  unfold settleHalfCycle; dsimp only; (repeat' split) <;> simp

/-- May differ: the firing items and a group's counters. -/
@[simp] theorem handOver_frame (b : Branch) (p : Polarity) (d n : Nat) (s : State) :
    (handOver b p d n s).pins = s.pins ∧ (handOver b p d n s).clock = s.clock ∧ (handOver b p d n s).oc = s.oc ∧
    (handOver b p d n s).slr = s.slr ∧ (handOver b p d n s).ct = s.ct ∧ (handOver b p d n s).bdu = s.bdu ∧
    (handOver b p d n s).table = s.table ∧ (handOver b p d n s).vlc.map = s.vlc.map ∧
    (handOver b p d n s).vlc.channels = s.vlc.channels ∧ (handOver b p d n s).vlc.settings = s.vlc.settings ∧
    (handOver b p d n s).causes = s.causes ∧ (handOver b p d n s).pli = s.pli ∧ (handOver b p d n s).hr.ring = s.hr.ring ∧
    (handOver b p d n s).hr.nextSeq = s.hr.nextSeq ∧ (handOver b p d n s).hr.triggers = s.hr.triggers ∧
    (handOver b p d n s).hr.post = s.hr.post ∧ (handOver b p d n s).hr.wraps = s.hr.wraps ∧
    (handOver b p d n s).sli.address = s.sli.address ∧ (handOver b p d n s).sli.rate = s.sli.rate ∧
    (handOver b p d n s).sli.receive = s.sli.receive ∧ (handOver b p d n s).sli.assembly = s.sli.assembly ∧
    (handOver b p d n s).sli.mask = s.sli.mask ∧ (handOver b p d n s).sli.counters = s.sli.counters ∧
    (handOver b p d n s).sli.resetCause = s.sli.resetCause ∧ (handOver b p d n s).sli.resetCount = s.sli.resetCount ∧
    (handOver b p d n s).sli.reply = s.sli.reply ∧ (handOver b p d n s).sli.driving = s.sli.driving ∧
    (handOver b p d n s).sli.output = s.sli.output ∧ (handOver b p d n s).pending = s.pending := by
  unfold handOver; (repeat' split) <;> simp

/-- May differ: the branch's demand items and FALLBACK_ACTIVE. -/
@[simp] theorem decideClosure_frame (b : Branch) (k : ClosureKind) (s : State) :
    (decideClosure b k s).pins = s.pins ∧ (decideClosure b k s).clock = s.clock ∧
    (decideClosure b k s).oc.device = s.oc.device ∧ (decideClosure b k s).oc.halt = s.oc.halt ∧
    (decideClosure b k s).oc.tripRequest = s.oc.tripRequest ∧ (decideClosure b k s).oc.lockFrequency = s.oc.lockFrequency ∧
    (decideClosure b k s).slr = s.slr ∧ (decideClosure b k s).ct = s.ct ∧ (decideClosure b k s).bdu.shares = s.bdu.shares ∧
    (decideClosure b k s).bdu.lines = s.bdu.lines ∧ (decideClosure b k s).table = s.table ∧ (decideClosure b k s).vlc = s.vlc ∧
    (decideClosure b k s).causes = s.causes ∧ (decideClosure b k s).pli = s.pli ∧ (decideClosure b k s).hr.ring = s.hr.ring ∧
    (decideClosure b k s).hr.nextSeq = s.hr.nextSeq ∧ (decideClosure b k s).hr.triggers = s.hr.triggers ∧
    (decideClosure b k s).hr.post = s.hr.post ∧ (decideClosure b k s).hr.wraps = s.hr.wraps ∧
    (decideClosure b k s).sli.address = s.sli.address ∧ (decideClosure b k s).sli.rate = s.sli.rate ∧
    (decideClosure b k s).sli.receive = s.sli.receive ∧ (decideClosure b k s).sli.assembly = s.sli.assembly ∧
    (decideClosure b k s).sli.mask = s.sli.mask ∧ (decideClosure b k s).sli.counters = s.sli.counters ∧
    (decideClosure b k s).sli.resetCause = s.sli.resetCause ∧ (decideClosure b k s).sli.resetCount = s.sli.resetCount ∧
    (decideClosure b k s).sli.reply = s.sli.reply ∧ (decideClosure b k s).sli.driving = s.sli.driving ∧
    (decideClosure b k s).sli.output = s.sli.output ∧ (decideClosure b k s).pending = s.pending := by
  unfold decideClosure; dsimp only; (repeat' split) <;> simp

/-- May differ: the recorder and the summary. -/
@[simp] theorem storeRecord_frame (r : ClosureRecord) (s : State) :
    (storeRecord r s).pins = s.pins ∧ (storeRecord r s).clock = s.clock ∧ (storeRecord r s).oc = s.oc ∧
    (storeRecord r s).slr = s.slr ∧ (storeRecord r s).ct = s.ct ∧ (storeRecord r s).bdu = s.bdu ∧
    (storeRecord r s).table = s.table ∧ (storeRecord r s).vlc = s.vlc ∧ (storeRecord r s).causes = s.causes ∧
    (storeRecord r s).pli = s.pli ∧ (storeRecord r s).hr.triggers = s.hr.triggers ∧ (storeRecord r s).hr.post = s.hr.post ∧
    (storeRecord r s).hr.trigger = s.hr.trigger ∧ (storeRecord r s).hr.ignored = s.hr.ignored ∧
    (storeRecord r s).sli.address = s.sli.address ∧ (storeRecord r s).sli.rate = s.sli.rate ∧
    (storeRecord r s).sli.receive = s.sli.receive ∧ (storeRecord r s).sli.assembly = s.sli.assembly ∧
    (storeRecord r s).sli.mask = s.sli.mask ∧ (storeRecord r s).sli.counters = s.sli.counters ∧
    (storeRecord r s).sli.resetCause = s.sli.resetCause ∧ (storeRecord r s).sli.resetCount = s.sli.resetCount ∧
    (storeRecord r s).sli.reply = s.sli.reply ∧ (storeRecord r s).sli.driving = s.sli.driving ∧
    (storeRecord r s).sli.output = s.sli.output ∧ (storeRecord r s).pending = s.pending := by
  unfold storeRecord; dsimp only; (repeat' split) <;> simp [appendRecord]

/-- May differ: the free choice's count, the counter, the firing items and the due group's late decisions. -/
@[simp] theorem handOverDelay_frame (b : Branch) (k : ClosureKind) (p : Polarity) (d n : Nat) (s : State) :
    (handOverDelay b k p d n s).pins = s.pins ∧ (handOverDelay b k p d n s).clock.phase = s.clock.phase ∧
    (handOverDelay b k p d n s).clock.sinceReset = s.clock.sinceReset ∧ (handOverDelay b k p d n s).oc = s.oc ∧
    (handOverDelay b k p d n s).slr = s.slr ∧ (handOverDelay b k p d n s).ct.settings = s.ct.settings ∧
    (handOverDelay b k p d n s).ct.nominal = s.ct.nominal ∧ (handOverDelay b k p d n s).ct.progress = s.ct.progress ∧
    (handOverDelay b k p d n s).bdu = s.bdu ∧ (handOverDelay b k p d n s).table = s.table ∧
    (handOverDelay b k p d n s).vlc.map = s.vlc.map ∧ (handOverDelay b k p d n s).vlc.channels = s.vlc.channels ∧
    (handOverDelay b k p d n s).vlc.settings = s.vlc.settings ∧ (handOverDelay b k p d n s).causes = s.causes ∧
    (handOverDelay b k p d n s).pli = s.pli ∧ (handOverDelay b k p d n s).hr.triggers = s.hr.triggers ∧
    (handOverDelay b k p d n s).hr.post = s.hr.post ∧ (handOverDelay b k p d n s).hr.ring = s.hr.ring ∧
    (handOverDelay b k p d n s).hr.nextSeq = s.hr.nextSeq ∧ (handOverDelay b k p d n s).hr.wraps = s.hr.wraps ∧
    (handOverDelay b k p d n s).sli.address = s.sli.address ∧ (handOverDelay b k p d n s).sli.rate = s.sli.rate ∧
    (handOverDelay b k p d n s).sli.receive = s.sli.receive ∧ (handOverDelay b k p d n s).sli.assembly = s.sli.assembly ∧
    (handOverDelay b k p d n s).sli.mask = s.sli.mask ∧ (handOverDelay b k p d n s).sli.counters = s.sli.counters ∧
    (handOverDelay b k p d n s).sli.resetCause = s.sli.resetCause ∧
    (handOverDelay b k p d n s).sli.resetCount = s.sli.resetCount ∧ (handOverDelay b k p d n s).sli.reply = s.sli.reply ∧
    (handOverDelay b k p d n s).sli.driving = s.sli.driving ∧ (handOverDelay b k p d n s).sli.output = s.sli.output ∧
    (handOverDelay b k p d n s).pending = s.pending := by
  unfold handOverDelay; (repeat' split) <;> simp

/-- May differ: window, record, readiness and firing items. -/
@[simp] theorem finishClosure_frame (b : Branch) (k : ClosureKind) (e p : Polarity) (n : Nat) (d : BranchDemand) (s : State) :
    (finishClosure b k e p n d s).pins = s.pins ∧ (finishClosure b k e p n d s).clock.phase = s.clock.phase ∧
    (finishClosure b k e p n d s).clock.sinceReset = s.clock.sinceReset ∧ (finishClosure b k e p n d s).oc = s.oc ∧
    (finishClosure b k e p n d s).slr = s.slr ∧ (finishClosure b k e p n d s).ct.settings = s.ct.settings ∧
    (finishClosure b k e p n d s).ct.nominal = s.ct.nominal ∧ (finishClosure b k e p n d s).ct.progress = s.ct.progress ∧
    (finishClosure b k e p n d s).bdu.shares = s.bdu.shares ∧ (finishClosure b k e p n d s).bdu.lines = s.bdu.lines ∧
    (finishClosure b k e p n d s).table = s.table ∧ (finishClosure b k e p n d s).vlc.map = s.vlc.map ∧
    (finishClosure b k e p n d s).vlc.channels = s.vlc.channels ∧ (finishClosure b k e p n d s).vlc.settings = s.vlc.settings ∧
    (finishClosure b k e p n d s).causes = s.causes ∧ (finishClosure b k e p n d s).pli = s.pli ∧
    (finishClosure b k e p n d s).hr.triggers = s.hr.triggers ∧ (finishClosure b k e p n d s).hr.post = s.hr.post ∧
    (finishClosure b k e p n d s).sli.address = s.sli.address ∧ (finishClosure b k e p n d s).sli.rate = s.sli.rate ∧
    (finishClosure b k e p n d s).sli.receive = s.sli.receive ∧ (finishClosure b k e p n d s).sli.assembly = s.sli.assembly ∧
    (finishClosure b k e p n d s).sli.mask = s.sli.mask ∧ (finishClosure b k e p n d s).sli.counters = s.sli.counters ∧
    (finishClosure b k e p n d s).sli.resetCause = s.sli.resetCause ∧
    (finishClosure b k e p n d s).sli.resetCount = s.sli.resetCount ∧ (finishClosure b k e p n d s).sli.reply = s.sli.reply ∧
    (finishClosure b k e p n d s).sli.driving = s.sli.driving ∧ (finishClosure b k e p n d s).sli.output = s.sli.output ∧
    (finishClosure b k e p n d s).pending = s.pending := by
  unfold finishClosure; dsimp only; simp

/-- May differ: what a closure names. -/
@[simp] theorem closeHalfCycle_frame (b : Branch) (k : ClosureKind) (e p : Polarity) (n : Nat) (s : State) :
    (closeHalfCycle b k e p n s).pins = s.pins ∧ (closeHalfCycle b k e p n s).clock.phase = s.clock.phase ∧
    (closeHalfCycle b k e p n s).clock.sinceReset = s.clock.sinceReset ∧ (closeHalfCycle b k e p n s).slr = s.slr ∧
    (closeHalfCycle b k e p n s).ct.settings = s.ct.settings ∧ (closeHalfCycle b k e p n s).bdu.shares = s.bdu.shares ∧
    (closeHalfCycle b k e p n s).bdu.lines = s.bdu.lines ∧ (closeHalfCycle b k e p n s).table = s.table ∧
    (closeHalfCycle b k e p n s).vlc.map = s.vlc.map ∧ (closeHalfCycle b k e p n s).vlc.channels = s.vlc.channels ∧
    (closeHalfCycle b k e p n s).vlc.settings = s.vlc.settings ∧ (closeHalfCycle b k e p n s).pli.inputs = s.pli.inputs ∧
    (closeHalfCycle b k e p n s).pli.settling = s.pli.settling ∧
    (closeHalfCycle b k e p n s).pli.lastApplication = s.pli.lastApplication ∧
    (closeHalfCycle b k e p n s).pli.applications = s.pli.applications ∧
    (closeHalfCycle b k e p n s).hr.triggers = s.hr.triggers ∧ (closeHalfCycle b k e p n s).hr.post = s.hr.post ∧
    (closeHalfCycle b k e p n s).sli.address = s.sli.address ∧ (closeHalfCycle b k e p n s).sli.rate = s.sli.rate ∧
    (closeHalfCycle b k e p n s).sli.receive = s.sli.receive ∧ (closeHalfCycle b k e p n s).sli.assembly = s.sli.assembly ∧
    (closeHalfCycle b k e p n s).sli.mask = s.sli.mask ∧ (closeHalfCycle b k e p n s).sli.counters = s.sli.counters ∧
    (closeHalfCycle b k e p n s).sli.resetCause = s.sli.resetCause ∧
    (closeHalfCycle b k e p n s).sli.resetCount = s.sli.resetCount ∧ (closeHalfCycle b k e p n s).sli.reply = s.sli.reply ∧
    (closeHalfCycle b k e p n s).sli.driving = s.sli.driving ∧ (closeHalfCycle b k e p n s).sli.output = s.sli.output ∧
    (closeHalfCycle b k e p n s).pending = s.pending := by
  unfold closeHalfCycle; dsimp only; (repeat' split) <;> simp

/-- May differ: tracking items, window and readiness. -/
@[simp] theorem startCrossing_frame (b : Branch) (c : Candidate) (s : State) :
    (startCrossing b c s).pins = s.pins ∧ (startCrossing b c s).clock = s.clock ∧ (startCrossing b c s).oc = s.oc ∧
    (startCrossing b c s).slr = s.slr ∧ (startCrossing b c s).ct.settings = s.ct.settings ∧
    (startCrossing b c s).ct.nominal = s.ct.nominal ∧ (startCrossing b c s).ct.progress = s.ct.progress ∧
    (startCrossing b c s).bdu.shares = s.bdu.shares ∧ (startCrossing b c s).bdu.lines = s.bdu.lines ∧
    (startCrossing b c s).table = s.table ∧ (startCrossing b c s).vlc.map = s.vlc.map ∧
    (startCrossing b c s).vlc.channels = s.vlc.channels ∧ (startCrossing b c s).vlc.firing = s.vlc.firing ∧
    (startCrossing b c s).vlc.settings = s.vlc.settings ∧ (startCrossing b c s).causes = s.causes ∧
    (startCrossing b c s).pli = s.pli ∧ (startCrossing b c s).hr = s.hr ∧ (startCrossing b c s).sli = s.sli ∧
    (startCrossing b c s).pending = s.pending := by
  unfold startCrossing; dsimp only; simp

/-- May differ: the rejected count. -/
@[simp] theorem rejectCrossing_frame (b : Branch) (s : State) :
    (rejectCrossing b s).pins = s.pins ∧ (rejectCrossing b s).clock = s.clock ∧ (rejectCrossing b s).oc = s.oc ∧
    (rejectCrossing b s).slr = s.slr ∧ (rejectCrossing b s).ct.settings = s.ct.settings ∧
    (rejectCrossing b s).ct.nominal = s.ct.nominal ∧ (rejectCrossing b s).ct.progress = s.ct.progress ∧
    (rejectCrossing b s).bdu = s.bdu ∧ (rejectCrossing b s).table = s.table ∧ (rejectCrossing b s).vlc = s.vlc ∧
    (rejectCrossing b s).causes = s.causes ∧ (rejectCrossing b s).pli = s.pli ∧ (rejectCrossing b s).hr.ring = s.hr.ring ∧
    (rejectCrossing b s).hr.nextSeq = s.hr.nextSeq ∧ (rejectCrossing b s).hr.triggers = s.hr.triggers ∧
    (rejectCrossing b s).hr.post = s.hr.post ∧ (rejectCrossing b s).hr.wraps = s.hr.wraps ∧
    (rejectCrossing b s).sli.address = s.sli.address ∧ (rejectCrossing b s).sli.rate = s.sli.rate ∧
    (rejectCrossing b s).sli.receive = s.sli.receive ∧ (rejectCrossing b s).sli.assembly = s.sli.assembly ∧
    (rejectCrossing b s).sli.mask = s.sli.mask ∧ (rejectCrossing b s).sli.counters = s.sli.counters ∧
    (rejectCrossing b s).sli.resetCause = s.sli.resetCause ∧ (rejectCrossing b s).sli.resetCount = s.sli.resetCount ∧
    (rejectCrossing b s).sli.reply = s.sli.reply ∧ (rejectCrossing b s).sli.driving = s.sli.driving ∧
    (rejectCrossing b s).sli.output = s.sli.output ∧ (rejectCrossing b s).pending = s.pending := by
  unfold rejectCrossing; simp

/-- May differ: what a closure names. -/
@[simp] theorem acceptCrossing_frame (b : Branch) (c : Candidate) (s : State) :
    (acceptCrossing b c s).pins = s.pins ∧ (acceptCrossing b c s).clock.phase = s.clock.phase ∧
    (acceptCrossing b c s).clock.sinceReset = s.clock.sinceReset ∧ (acceptCrossing b c s).slr = s.slr ∧
    (acceptCrossing b c s).ct.settings = s.ct.settings ∧ (acceptCrossing b c s).bdu.shares = s.bdu.shares ∧
    (acceptCrossing b c s).bdu.lines = s.bdu.lines ∧ (acceptCrossing b c s).table = s.table ∧
    (acceptCrossing b c s).vlc.map = s.vlc.map ∧ (acceptCrossing b c s).vlc.channels = s.vlc.channels ∧
    (acceptCrossing b c s).vlc.settings = s.vlc.settings ∧ (acceptCrossing b c s).pli.inputs = s.pli.inputs ∧
    (acceptCrossing b c s).pli.settling = s.pli.settling ∧ (acceptCrossing b c s).pli.lastApplication = s.pli.lastApplication ∧
    (acceptCrossing b c s).pli.applications = s.pli.applications ∧ (acceptCrossing b c s).hr.triggers = s.hr.triggers ∧
    (acceptCrossing b c s).hr.post = s.hr.post ∧ (acceptCrossing b c s).sli.address = s.sli.address ∧
    (acceptCrossing b c s).sli.rate = s.sli.rate ∧ (acceptCrossing b c s).sli.receive = s.sli.receive ∧
    (acceptCrossing b c s).sli.assembly = s.sli.assembly ∧ (acceptCrossing b c s).sli.mask = s.sli.mask ∧
    (acceptCrossing b c s).sli.counters = s.sli.counters ∧ (acceptCrossing b c s).sli.resetCause = s.sli.resetCause ∧
    (acceptCrossing b c s).sli.resetCount = s.sli.resetCount ∧ (acceptCrossing b c s).sli.reply = s.sli.reply ∧
    (acceptCrossing b c s).sli.driving = s.sli.driving ∧ (acceptCrossing b c s).sli.output = s.sli.output ∧
    (acceptCrossing b c s).pending = s.pending := by
  unfold acceptCrossing; dsimp only; (repeat' split) <;> simp

/-- May differ: sync status, the branch's set, and a halt's items. -/
@[simp] theorem loseSync_frame (b : Branch) (s : State) :
    (loseSync b s).pins = s.pins ∧ (loseSync b s).clock = s.clock ∧ (loseSync b s).slr = s.slr ∧
    (loseSync b s).ct.settings = s.ct.settings ∧ (loseSync b s).bdu.shares = s.bdu.shares ∧
    (loseSync b s).bdu.lines = s.bdu.lines ∧ (loseSync b s).table = s.table ∧ (loseSync b s).vlc.map = s.vlc.map ∧
    (loseSync b s).vlc.channels = s.vlc.channels ∧ (loseSync b s).vlc.settings = s.vlc.settings ∧
    (loseSync b s).pli.inputs = s.pli.inputs ∧ (loseSync b s).pli.settling = s.pli.settling ∧
    (loseSync b s).pli.lastApplication = s.pli.lastApplication ∧ (loseSync b s).pli.applications = s.pli.applications ∧
    (loseSync b s).hr.ring = s.hr.ring ∧ (loseSync b s).hr.nextSeq = s.hr.nextSeq ∧
    (loseSync b s).hr.triggers = s.hr.triggers ∧ (loseSync b s).hr.post = s.hr.post ∧ (loseSync b s).hr.wraps = s.hr.wraps ∧
    (loseSync b s).sli.address = s.sli.address ∧ (loseSync b s).sli.rate = s.sli.rate ∧
    (loseSync b s).sli.receive = s.sli.receive ∧ (loseSync b s).sli.assembly = s.sli.assembly ∧
    (loseSync b s).sli.mask = s.sli.mask ∧ (loseSync b s).sli.counters = s.sli.counters ∧
    (loseSync b s).sli.resetCause = s.sli.resetCause ∧ (loseSync b s).sli.resetCount = s.sli.resetCount ∧
    (loseSync b s).sli.reply = s.sli.reply ∧ (loseSync b s).sli.driving = s.sli.driving ∧
    (loseSync b s).sli.output = s.sli.output ∧ (loseSync b s).pending = s.pending := by
  unfold loseSync; dsimp only; (repeat' split) <;> simp

/-- May differ: the branch's tracking items. -/
@[simp] theorem noteSynthesised_frame (b : Branch) (c : Option AngleCounter) (s : State) :
    (noteSynthesised b c s).pins = s.pins ∧ (noteSynthesised b c s).clock = s.clock ∧ (noteSynthesised b c s).oc = s.oc ∧
    (noteSynthesised b c s).slr = s.slr ∧ (noteSynthesised b c s).ct.settings = s.ct.settings ∧
    (noteSynthesised b c s).ct.nominal = s.ct.nominal ∧ (noteSynthesised b c s).ct.progress = s.ct.progress ∧
    (noteSynthesised b c s).bdu = s.bdu ∧ (noteSynthesised b c s).table = s.table ∧ (noteSynthesised b c s).vlc = s.vlc ∧
    (noteSynthesised b c s).causes = s.causes ∧ (noteSynthesised b c s).pli = s.pli ∧
    (noteSynthesised b c s).hr.ring = s.hr.ring ∧ (noteSynthesised b c s).hr.nextSeq = s.hr.nextSeq ∧
    (noteSynthesised b c s).hr.triggers = s.hr.triggers ∧ (noteSynthesised b c s).hr.post = s.hr.post ∧
    (noteSynthesised b c s).hr.wraps = s.hr.wraps ∧ (noteSynthesised b c s).sli.address = s.sli.address ∧
    (noteSynthesised b c s).sli.rate = s.sli.rate ∧ (noteSynthesised b c s).sli.receive = s.sli.receive ∧
    (noteSynthesised b c s).sli.assembly = s.sli.assembly ∧ (noteSynthesised b c s).sli.mask = s.sli.mask ∧
    (noteSynthesised b c s).sli.counters = s.sli.counters ∧ (noteSynthesised b c s).sli.resetCause = s.sli.resetCause ∧
    (noteSynthesised b c s).sli.resetCount = s.sli.resetCount ∧ (noteSynthesised b c s).sli.reply = s.sli.reply ∧
    (noteSynthesised b c s).sli.driving = s.sli.driving ∧ (noteSynthesised b c s).sli.output = s.sli.output ∧
    (noteSynthesised b c s).pending = s.pending := by
  unfold noteSynthesised; simp

/-- May differ: what a closure and a halt name. -/
@[simp] theorem synthesise_frame (b : Branch) (s : State) :
    (synthesise b s).pins = s.pins ∧ (synthesise b s).clock.phase = s.clock.phase ∧
    (synthesise b s).clock.sinceReset = s.clock.sinceReset ∧ (synthesise b s).slr = s.slr ∧
    (synthesise b s).ct.settings = s.ct.settings ∧ (synthesise b s).bdu.shares = s.bdu.shares ∧
    (synthesise b s).bdu.lines = s.bdu.lines ∧ (synthesise b s).table = s.table ∧ (synthesise b s).vlc.map = s.vlc.map ∧
    (synthesise b s).vlc.channels = s.vlc.channels ∧ (synthesise b s).vlc.settings = s.vlc.settings ∧
    (synthesise b s).pli.inputs = s.pli.inputs ∧ (synthesise b s).pli.settling = s.pli.settling ∧
    (synthesise b s).pli.lastApplication = s.pli.lastApplication ∧ (synthesise b s).pli.applications = s.pli.applications ∧
    (synthesise b s).hr.triggers = s.hr.triggers ∧ (synthesise b s).hr.post = s.hr.post ∧
    (synthesise b s).sli.address = s.sli.address ∧ (synthesise b s).sli.rate = s.sli.rate ∧
    (synthesise b s).sli.receive = s.sli.receive ∧ (synthesise b s).sli.assembly = s.sli.assembly ∧
    (synthesise b s).sli.mask = s.sli.mask ∧ (synthesise b s).sli.counters = s.sli.counters ∧
    (synthesise b s).sli.resetCause = s.sli.resetCause ∧ (synthesise b s).sli.resetCount = s.sli.resetCount ∧
    (synthesise b s).sli.reply = s.sli.reply ∧ (synthesise b s).sli.driving = s.sli.driving ∧
    (synthesise b s).sli.output = s.sli.output ∧ (synthesise b s).pending = s.pending := by
  unfold synthesise; simp

/-- May differ: counter, channel, group and firing items, and a failure's items. -/
@[simp] theorem passMarks_frame (n : Nat) (b : Branch) (k : Nat) (s : State) :
    (passMarks n b k s).pins = s.pins ∧ (passMarks n b k s).clock.phase = s.clock.phase ∧
    (passMarks n b k s).clock.sinceReset = s.clock.sinceReset ∧ (passMarks n b k s).slr = s.slr ∧
    (passMarks n b k s).ct.settings = s.ct.settings ∧ (passMarks n b k s).bdu.shares = s.bdu.shares ∧
    (passMarks n b k s).bdu.lines = s.bdu.lines ∧ (passMarks n b k s).table = s.table ∧
    (passMarks n b k s).vlc.map = s.vlc.map ∧ (passMarks n b k s).vlc.settings = s.vlc.settings ∧
    (passMarks n b k s).pli.inputs = s.pli.inputs ∧ (passMarks n b k s).pli.settling = s.pli.settling ∧
    (passMarks n b k s).pli.lastApplication = s.pli.lastApplication ∧
    (passMarks n b k s).pli.applications = s.pli.applications ∧ (passMarks n b k s).hr.triggers = s.hr.triggers ∧
    (passMarks n b k s).hr.post = s.hr.post ∧ (passMarks n b k s).sli.address = s.sli.address ∧
    (passMarks n b k s).sli.rate = s.sli.rate ∧ (passMarks n b k s).sli.receive = s.sli.receive ∧
    (passMarks n b k s).sli.assembly = s.sli.assembly ∧ (passMarks n b k s).sli.mask = s.sli.mask ∧
    (passMarks n b k s).sli.counters = s.sli.counters ∧ (passMarks n b k s).sli.resetCause = s.sli.resetCause ∧
    (passMarks n b k s).sli.resetCount = s.sli.resetCount ∧ (passMarks n b k s).sli.reply = s.sli.reply ∧
    (passMarks n b k s).sli.driving = s.sli.driving ∧ (passMarks n b k s).sli.output = s.sli.output ∧
    (passMarks n b k s).pending = s.pending := by
  induction k generalizing s with
  | zero => simp [passMarks]
  | succ k ih =>
    simp only [passMarks]
    (repeat' split)
    · rename_i mark act h _
      obtain rfl | rfl | rfl : act = reachDelay ∨ act = reachGuardEnd ∨ act = reachRetry := by
        unfold nextMark at h; (repeat' split at h) <;> simp_all
      all_goals simp [ih]
    all_goals simp

/-- May differ: what a closure and a halt name. -/
@[simp] theorem closeAtTop_frame (b : Branch) (s : State) :
    (closeAtTop b s).pins = s.pins ∧ (closeAtTop b s).clock.phase = s.clock.phase ∧
    (closeAtTop b s).clock.sinceReset = s.clock.sinceReset ∧ (closeAtTop b s).slr = s.slr ∧
    (closeAtTop b s).ct.settings = s.ct.settings ∧ (closeAtTop b s).bdu.shares = s.bdu.shares ∧
    (closeAtTop b s).bdu.lines = s.bdu.lines ∧ (closeAtTop b s).table = s.table ∧ (closeAtTop b s).vlc.map = s.vlc.map ∧
    (closeAtTop b s).vlc.settings = s.vlc.settings ∧ (closeAtTop b s).pli.inputs = s.pli.inputs ∧
    (closeAtTop b s).pli.settling = s.pli.settling ∧ (closeAtTop b s).pli.lastApplication = s.pli.lastApplication ∧
    (closeAtTop b s).pli.applications = s.pli.applications ∧ (closeAtTop b s).hr.triggers = s.hr.triggers ∧
    (closeAtTop b s).hr.post = s.hr.post ∧ (closeAtTop b s).sli.address = s.sli.address ∧
    (closeAtTop b s).sli.rate = s.sli.rate ∧ (closeAtTop b s).sli.receive = s.sli.receive ∧
    (closeAtTop b s).sli.assembly = s.sli.assembly ∧ (closeAtTop b s).sli.mask = s.sli.mask ∧
    (closeAtTop b s).sli.counters = s.sli.counters ∧ (closeAtTop b s).sli.resetCause = s.sli.resetCause ∧
    (closeAtTop b s).sli.resetCount = s.sli.resetCount ∧ (closeAtTop b s).sli.reply = s.sli.reply ∧
    (closeAtTop b s).sli.driving = s.sli.driving ∧ (closeAtTop b s).sli.output = s.sli.output ∧
    (closeAtTop b s).pending = s.pending := by
  unfold closeAtTop; dsimp only; (repeat' split) <;> simp

/-- May differ: sync status, the branch's set, and a halt's items. -/
@[simp] theorem loseAtLimit_frame (b : Branch) (s : State) :
    (loseAtLimit b s).pins = s.pins ∧ (loseAtLimit b s).clock = s.clock ∧ (loseAtLimit b s).slr = s.slr ∧
    (loseAtLimit b s).ct.settings = s.ct.settings ∧ (loseAtLimit b s).bdu.shares = s.bdu.shares ∧
    (loseAtLimit b s).bdu.lines = s.bdu.lines ∧ (loseAtLimit b s).table = s.table ∧ (loseAtLimit b s).vlc.map = s.vlc.map ∧
    (loseAtLimit b s).vlc.channels = s.vlc.channels ∧ (loseAtLimit b s).vlc.settings = s.vlc.settings ∧
    (loseAtLimit b s).pli.inputs = s.pli.inputs ∧ (loseAtLimit b s).pli.settling = s.pli.settling ∧
    (loseAtLimit b s).pli.lastApplication = s.pli.lastApplication ∧ (loseAtLimit b s).pli.applications = s.pli.applications ∧
    (loseAtLimit b s).hr.ring = s.hr.ring ∧ (loseAtLimit b s).hr.nextSeq = s.hr.nextSeq ∧
    (loseAtLimit b s).hr.triggers = s.hr.triggers ∧ (loseAtLimit b s).hr.post = s.hr.post ∧
    (loseAtLimit b s).hr.wraps = s.hr.wraps ∧ (loseAtLimit b s).sli.address = s.sli.address ∧
    (loseAtLimit b s).sli.rate = s.sli.rate ∧ (loseAtLimit b s).sli.receive = s.sli.receive ∧
    (loseAtLimit b s).sli.assembly = s.sli.assembly ∧ (loseAtLimit b s).sli.mask = s.sli.mask ∧
    (loseAtLimit b s).sli.counters = s.sli.counters ∧ (loseAtLimit b s).sli.resetCause = s.sli.resetCause ∧
    (loseAtLimit b s).sli.resetCount = s.sli.resetCount ∧ (loseAtLimit b s).sli.reply = s.sli.reply ∧
    (loseAtLimit b s).sli.driving = s.sli.driving ∧ (loseAtLimit b s).sli.output = s.sli.output ∧
    (loseAtLimit b s).pending = s.pending := by
  unfold loseAtLimit; (repeat' split) <;> simp

/-- The same, branch after branch. -/
@[simp] theorem closeEach_frame (l : List Branch) (s : State) :
    (l.foldl (fun s c => closeAtTop c s) s).pins = s.pins ∧
    (l.foldl (fun s c => closeAtTop c s) s).clock.phase = s.clock.phase ∧
    (l.foldl (fun s c => closeAtTop c s) s).clock.sinceReset = s.clock.sinceReset ∧
    (l.foldl (fun s c => closeAtTop c s) s).slr = s.slr ∧ (l.foldl (fun s c => closeAtTop c s) s).ct.settings = s.ct.settings ∧
    (l.foldl (fun s c => closeAtTop c s) s).bdu.shares = s.bdu.shares ∧
    (l.foldl (fun s c => closeAtTop c s) s).bdu.lines = s.bdu.lines ∧ (l.foldl (fun s c => closeAtTop c s) s).table = s.table ∧
    (l.foldl (fun s c => closeAtTop c s) s).vlc.map = s.vlc.map ∧
    (l.foldl (fun s c => closeAtTop c s) s).vlc.settings = s.vlc.settings ∧
    (l.foldl (fun s c => closeAtTop c s) s).pli.inputs = s.pli.inputs ∧
    (l.foldl (fun s c => closeAtTop c s) s).pli.settling = s.pli.settling ∧
    (l.foldl (fun s c => closeAtTop c s) s).pli.lastApplication = s.pli.lastApplication ∧
    (l.foldl (fun s c => closeAtTop c s) s).pli.applications = s.pli.applications ∧
    (l.foldl (fun s c => closeAtTop c s) s).hr.triggers = s.hr.triggers ∧
    (l.foldl (fun s c => closeAtTop c s) s).hr.post = s.hr.post ∧
    (l.foldl (fun s c => closeAtTop c s) s).sli.address = s.sli.address ∧
    (l.foldl (fun s c => closeAtTop c s) s).sli.rate = s.sli.rate ∧
    (l.foldl (fun s c => closeAtTop c s) s).sli.receive = s.sli.receive ∧
    (l.foldl (fun s c => closeAtTop c s) s).sli.assembly = s.sli.assembly ∧
    (l.foldl (fun s c => closeAtTop c s) s).sli.mask = s.sli.mask ∧
    (l.foldl (fun s c => closeAtTop c s) s).sli.counters = s.sli.counters ∧
    (l.foldl (fun s c => closeAtTop c s) s).sli.resetCause = s.sli.resetCause ∧
    (l.foldl (fun s c => closeAtTop c s) s).sli.resetCount = s.sli.resetCount ∧
    (l.foldl (fun s c => closeAtTop c s) s).sli.reply = s.sli.reply ∧
    (l.foldl (fun s c => closeAtTop c s) s).sli.driving = s.sli.driving ∧
    (l.foldl (fun s c => closeAtTop c s) s).sli.output = s.sli.output ∧
    (l.foldl (fun s c => closeAtTop c s) s).pending = s.pending := by
  induction l generalizing s with
  | nil => simp
  | cons c l ih => simp [ih]

/-- The same, branch after branch. -/
@[simp] theorem loseEach_frame (l : List Branch) (s : State) :
    (l.foldl (fun s c => loseAtLimit c s) s).pins = s.pins ∧ (l.foldl (fun s c => loseAtLimit c s) s).clock = s.clock ∧
    (l.foldl (fun s c => loseAtLimit c s) s).slr = s.slr ∧
    (l.foldl (fun s c => loseAtLimit c s) s).ct.settings = s.ct.settings ∧
    (l.foldl (fun s c => loseAtLimit c s) s).bdu.shares = s.bdu.shares ∧
    (l.foldl (fun s c => loseAtLimit c s) s).bdu.lines = s.bdu.lines ∧
    (l.foldl (fun s c => loseAtLimit c s) s).table = s.table ∧ (l.foldl (fun s c => loseAtLimit c s) s).vlc.map = s.vlc.map ∧
    (l.foldl (fun s c => loseAtLimit c s) s).vlc.channels = s.vlc.channels ∧
    (l.foldl (fun s c => loseAtLimit c s) s).vlc.settings = s.vlc.settings ∧
    (l.foldl (fun s c => loseAtLimit c s) s).pli.inputs = s.pli.inputs ∧
    (l.foldl (fun s c => loseAtLimit c s) s).pli.settling = s.pli.settling ∧
    (l.foldl (fun s c => loseAtLimit c s) s).pli.lastApplication = s.pli.lastApplication ∧
    (l.foldl (fun s c => loseAtLimit c s) s).pli.applications = s.pli.applications ∧
    (l.foldl (fun s c => loseAtLimit c s) s).hr.ring = s.hr.ring ∧
    (l.foldl (fun s c => loseAtLimit c s) s).hr.nextSeq = s.hr.nextSeq ∧
    (l.foldl (fun s c => loseAtLimit c s) s).hr.triggers = s.hr.triggers ∧
    (l.foldl (fun s c => loseAtLimit c s) s).hr.post = s.hr.post ∧
    (l.foldl (fun s c => loseAtLimit c s) s).hr.wraps = s.hr.wraps ∧
    (l.foldl (fun s c => loseAtLimit c s) s).sli.address = s.sli.address ∧
    (l.foldl (fun s c => loseAtLimit c s) s).sli.rate = s.sli.rate ∧
    (l.foldl (fun s c => loseAtLimit c s) s).sli.receive = s.sli.receive ∧
    (l.foldl (fun s c => loseAtLimit c s) s).sli.assembly = s.sli.assembly ∧
    (l.foldl (fun s c => loseAtLimit c s) s).sli.mask = s.sli.mask ∧
    (l.foldl (fun s c => loseAtLimit c s) s).sli.counters = s.sli.counters ∧
    (l.foldl (fun s c => loseAtLimit c s) s).sli.resetCause = s.sli.resetCause ∧
    (l.foldl (fun s c => loseAtLimit c s) s).sli.resetCount = s.sli.resetCount ∧
    (l.foldl (fun s c => loseAtLimit c s) s).sli.reply = s.sli.reply ∧
    (l.foldl (fun s c => loseAtLimit c s) s).sli.driving = s.sli.driving ∧
    (l.foldl (fun s c => loseAtLimit c s) s).sli.output = s.sli.output ∧
    (l.foldl (fun s c => loseAtLimit c s) s).pending = s.pending := by
  induction l generalizing s with
  | nil => simp
  | cons c l ih => simp [ih]

/-- May differ: what closures and a halt name. -/
@[simp] theorem loseTogether_frame (b : Branch) (s : State) :
    (loseTogether b s).pins = s.pins ∧ (loseTogether b s).clock.phase = s.clock.phase ∧
    (loseTogether b s).clock.sinceReset = s.clock.sinceReset ∧ (loseTogether b s).slr = s.slr ∧
    (loseTogether b s).ct.settings = s.ct.settings ∧ (loseTogether b s).bdu.shares = s.bdu.shares ∧
    (loseTogether b s).bdu.lines = s.bdu.lines ∧ (loseTogether b s).table = s.table ∧ (loseTogether b s).vlc.map = s.vlc.map ∧
    (loseTogether b s).vlc.settings = s.vlc.settings ∧ (loseTogether b s).pli.inputs = s.pli.inputs ∧
    (loseTogether b s).pli.settling = s.pli.settling ∧ (loseTogether b s).pli.lastApplication = s.pli.lastApplication ∧
    (loseTogether b s).pli.applications = s.pli.applications ∧ (loseTogether b s).hr.triggers = s.hr.triggers ∧
    (loseTogether b s).hr.post = s.hr.post ∧ (loseTogether b s).sli.address = s.sli.address ∧
    (loseTogether b s).sli.rate = s.sli.rate ∧ (loseTogether b s).sli.receive = s.sli.receive ∧
    (loseTogether b s).sli.assembly = s.sli.assembly ∧ (loseTogether b s).sli.mask = s.sli.mask ∧
    (loseTogether b s).sli.counters = s.sli.counters ∧ (loseTogether b s).sli.resetCause = s.sli.resetCause ∧
    (loseTogether b s).sli.resetCount = s.sli.resetCount ∧ (loseTogether b s).sli.reply = s.sli.reply ∧
    (loseTogether b s).sli.driving = s.sli.driving ∧ (loseTogether b s).sli.output = s.sli.output ∧
    (loseTogether b s).pending = s.pending := by
  unfold loseTogether inAnyOrder; simp

/-- May differ: what closures and a halt name. -/
@[simp] theorem reachTop_frame (b : Branch) (s : State) :
    (reachTop b s).pins = s.pins ∧ (reachTop b s).clock.phase = s.clock.phase ∧
    (reachTop b s).clock.sinceReset = s.clock.sinceReset ∧ (reachTop b s).slr = s.slr ∧
    (reachTop b s).ct.settings = s.ct.settings ∧ (reachTop b s).bdu.shares = s.bdu.shares ∧
    (reachTop b s).bdu.lines = s.bdu.lines ∧ (reachTop b s).table = s.table ∧ (reachTop b s).vlc.map = s.vlc.map ∧
    (reachTop b s).vlc.settings = s.vlc.settings ∧ (reachTop b s).pli.inputs = s.pli.inputs ∧
    (reachTop b s).pli.settling = s.pli.settling ∧ (reachTop b s).pli.lastApplication = s.pli.lastApplication ∧
    (reachTop b s).pli.applications = s.pli.applications ∧ (reachTop b s).hr.triggers = s.hr.triggers ∧
    (reachTop b s).hr.post = s.hr.post ∧ (reachTop b s).sli.address = s.sli.address ∧ (reachTop b s).sli.rate = s.sli.rate ∧
    (reachTop b s).sli.receive = s.sli.receive ∧ (reachTop b s).sli.assembly = s.sli.assembly ∧
    (reachTop b s).sli.mask = s.sli.mask ∧ (reachTop b s).sli.counters = s.sli.counters ∧
    (reachTop b s).sli.resetCause = s.sli.resetCause ∧ (reachTop b s).sli.resetCount = s.sli.resetCount ∧
    (reachTop b s).sli.reply = s.sli.reply ∧ (reachTop b s).sli.driving = s.sli.driving ∧
    (reachTop b s).sli.output = s.sli.output ∧ (reachTop b s).pending = s.pending := by
  unfold reachTop; dsimp only; (repeat' split) <;> simp

/-- The same, branch after branch. -/
@[simp] theorem reachEach_frame (l : List Branch) (s : State) :
    (l.foldl (fun s b => reachTop b s) s).pins = s.pins ∧ (l.foldl (fun s b => reachTop b s) s).clock.phase = s.clock.phase ∧
    (l.foldl (fun s b => reachTop b s) s).clock.sinceReset = s.clock.sinceReset ∧
    (l.foldl (fun s b => reachTop b s) s).slr = s.slr ∧ (l.foldl (fun s b => reachTop b s) s).ct.settings = s.ct.settings ∧
    (l.foldl (fun s b => reachTop b s) s).bdu.shares = s.bdu.shares ∧
    (l.foldl (fun s b => reachTop b s) s).bdu.lines = s.bdu.lines ∧ (l.foldl (fun s b => reachTop b s) s).table = s.table ∧
    (l.foldl (fun s b => reachTop b s) s).vlc.map = s.vlc.map ∧
    (l.foldl (fun s b => reachTop b s) s).vlc.settings = s.vlc.settings ∧
    (l.foldl (fun s b => reachTop b s) s).pli.inputs = s.pli.inputs ∧
    (l.foldl (fun s b => reachTop b s) s).pli.settling = s.pli.settling ∧
    (l.foldl (fun s b => reachTop b s) s).pli.lastApplication = s.pli.lastApplication ∧
    (l.foldl (fun s b => reachTop b s) s).pli.applications = s.pli.applications ∧
    (l.foldl (fun s b => reachTop b s) s).hr.triggers = s.hr.triggers ∧
    (l.foldl (fun s b => reachTop b s) s).hr.post = s.hr.post ∧
    (l.foldl (fun s b => reachTop b s) s).sli.address = s.sli.address ∧
    (l.foldl (fun s b => reachTop b s) s).sli.rate = s.sli.rate ∧
    (l.foldl (fun s b => reachTop b s) s).sli.receive = s.sli.receive ∧
    (l.foldl (fun s b => reachTop b s) s).sli.assembly = s.sli.assembly ∧
    (l.foldl (fun s b => reachTop b s) s).sli.mask = s.sli.mask ∧
    (l.foldl (fun s b => reachTop b s) s).sli.counters = s.sli.counters ∧
    (l.foldl (fun s b => reachTop b s) s).sli.resetCause = s.sli.resetCause ∧
    (l.foldl (fun s b => reachTop b s) s).sli.resetCount = s.sli.resetCount ∧
    (l.foldl (fun s b => reachTop b s) s).sli.reply = s.sli.reply ∧
    (l.foldl (fun s b => reachTop b s) s).sli.driving = s.sli.driving ∧
    (l.foldl (fun s b => reachTop b s) s).sli.output = s.sli.output ∧
    (l.foldl (fun s b => reachTop b s) s).pending = s.pending := by
  induction l generalizing s with
  | nil => simp
  | cons c l ih => simp [ih]

/-- May differ: what closures and a halt name. -/
@[simp] theorem closeBeforeDelivery_frame (used : PerQuantity Half) (s : State) :
    (closeBeforeDelivery used s).pins = s.pins ∧ (closeBeforeDelivery used s).clock.phase = s.clock.phase ∧
    (closeBeforeDelivery used s).clock.sinceReset = s.clock.sinceReset ∧ (closeBeforeDelivery used s).slr = s.slr ∧
    (closeBeforeDelivery used s).ct.settings = s.ct.settings ∧ (closeBeforeDelivery used s).bdu.shares = s.bdu.shares ∧
    (closeBeforeDelivery used s).bdu.lines = s.bdu.lines ∧ (closeBeforeDelivery used s).table = s.table ∧
    (closeBeforeDelivery used s).vlc.map = s.vlc.map ∧ (closeBeforeDelivery used s).vlc.settings = s.vlc.settings ∧
    (closeBeforeDelivery used s).pli.inputs = s.pli.inputs ∧ (closeBeforeDelivery used s).pli.settling = s.pli.settling ∧
    (closeBeforeDelivery used s).pli.lastApplication = s.pli.lastApplication ∧
    (closeBeforeDelivery used s).pli.applications = s.pli.applications ∧
    (closeBeforeDelivery used s).hr.triggers = s.hr.triggers ∧ (closeBeforeDelivery used s).hr.post = s.hr.post ∧
    (closeBeforeDelivery used s).sli.address = s.sli.address ∧ (closeBeforeDelivery used s).sli.rate = s.sli.rate ∧
    (closeBeforeDelivery used s).sli.receive = s.sli.receive ∧ (closeBeforeDelivery used s).sli.assembly = s.sli.assembly ∧
    (closeBeforeDelivery used s).sli.mask = s.sli.mask ∧ (closeBeforeDelivery used s).sli.counters = s.sli.counters ∧
    (closeBeforeDelivery used s).sli.resetCause = s.sli.resetCause ∧
    (closeBeforeDelivery used s).sli.resetCount = s.sli.resetCount ∧ (closeBeforeDelivery used s).sli.reply = s.sli.reply ∧
    (closeBeforeDelivery used s).sli.driving = s.sli.driving ∧ (closeBeforeDelivery used s).sli.output = s.sli.output ∧
    (closeBeforeDelivery used s).pending = s.pending := by
  unfold closeBeforeDelivery inAnyOrder; simp

/-- May differ: what a closure names. -/
@[simp] theorem runCrossing_frame (b : Branch) (c : Candidate) (s : State) :
    (runCrossing b c s).pins = s.pins ∧ (runCrossing b c s).clock.phase = s.clock.phase ∧
    (runCrossing b c s).clock.sinceReset = s.clock.sinceReset ∧ (runCrossing b c s).slr = s.slr ∧
    (runCrossing b c s).ct.settings = s.ct.settings ∧ (runCrossing b c s).bdu.shares = s.bdu.shares ∧
    (runCrossing b c s).bdu.lines = s.bdu.lines ∧ (runCrossing b c s).table = s.table ∧
    (runCrossing b c s).vlc.map = s.vlc.map ∧ (runCrossing b c s).vlc.settings = s.vlc.settings ∧
    (runCrossing b c s).pli.inputs = s.pli.inputs ∧ (runCrossing b c s).pli.settling = s.pli.settling ∧
    (runCrossing b c s).pli.lastApplication = s.pli.lastApplication ∧
    (runCrossing b c s).pli.applications = s.pli.applications ∧ (runCrossing b c s).hr.triggers = s.hr.triggers ∧
    (runCrossing b c s).hr.post = s.hr.post ∧ (runCrossing b c s).sli.address = s.sli.address ∧
    (runCrossing b c s).sli.rate = s.sli.rate ∧ (runCrossing b c s).sli.receive = s.sli.receive ∧
    (runCrossing b c s).sli.assembly = s.sli.assembly ∧ (runCrossing b c s).sli.mask = s.sli.mask ∧
    (runCrossing b c s).sli.counters = s.sli.counters ∧ (runCrossing b c s).sli.resetCause = s.sli.resetCause ∧
    (runCrossing b c s).sli.resetCount = s.sli.resetCount ∧ (runCrossing b c s).sli.reply = s.sli.reply ∧
    (runCrossing b c s).sli.driving = s.sli.driving ∧ (runCrossing b c s).sli.output = s.sli.output ∧
    (runCrossing b c s).pending = s.pending := by
  unfold runCrossing; (repeat' split) <;> simp

/-- May differ: a halt's items. -/
@[simp] theorem failAcquisition_frame (c : HaltCause) (s : State) :
    (failAcquisition c s).pins = s.pins ∧ (failAcquisition c s).clock = s.clock ∧ (failAcquisition c s).slr = s.slr ∧
    (failAcquisition c s).ct.settings = s.ct.settings ∧ (failAcquisition c s).bdu.shares = s.bdu.shares ∧
    (failAcquisition c s).bdu.lines = s.bdu.lines ∧ (failAcquisition c s).table = s.table ∧
    (failAcquisition c s).vlc.map = s.vlc.map ∧ (failAcquisition c s).vlc.channels = s.vlc.channels ∧
    (failAcquisition c s).vlc.settings = s.vlc.settings ∧ (failAcquisition c s).causes = s.causes ∧
    (failAcquisition c s).pli.inputs = s.pli.inputs ∧ (failAcquisition c s).pli.settling = s.pli.settling ∧
    (failAcquisition c s).pli.lastApplication = s.pli.lastApplication ∧
    (failAcquisition c s).pli.applications = s.pli.applications ∧ (failAcquisition c s).hr.ring = s.hr.ring ∧
    (failAcquisition c s).hr.nextSeq = s.hr.nextSeq ∧ (failAcquisition c s).hr.triggers = s.hr.triggers ∧
    (failAcquisition c s).hr.post = s.hr.post ∧ (failAcquisition c s).hr.wraps = s.hr.wraps ∧
    (failAcquisition c s).sli.address = s.sli.address ∧ (failAcquisition c s).sli.rate = s.sli.rate ∧
    (failAcquisition c s).sli.receive = s.sli.receive ∧ (failAcquisition c s).sli.assembly = s.sli.assembly ∧
    (failAcquisition c s).sli.mask = s.sli.mask ∧ (failAcquisition c s).sli.counters = s.sli.counters ∧
    (failAcquisition c s).sli.resetCause = s.sli.resetCause ∧ (failAcquisition c s).sli.resetCount = s.sli.resetCount ∧
    (failAcquisition c s).sli.reply = s.sli.reply ∧ (failAcquisition c s).sli.driving = s.sli.driving ∧
    (failAcquisition c s).sli.output = s.sli.output ∧ (failAcquisition c s).pending = s.pending := by
  unfold failAcquisition; simp

/-- May differ: what R4 and R53 name. -/
@[simp] theorem lock_frame (n : Nominal) (s : State) :
    (lock n s).pins = s.pins ∧ (lock n s).clock = s.clock ∧ (lock n s).oc.halt = s.oc.halt ∧
    (lock n s).oc.tripRequest = s.oc.tripRequest ∧ (lock n s).slr = s.slr ∧ (lock n s).ct.settings = s.ct.settings ∧
    (lock n s).bdu.shares = s.bdu.shares ∧ (lock n s).table = s.table ∧ (lock n s).vlc.map = s.vlc.map ∧
    (lock n s).vlc.channels = s.vlc.channels ∧ (lock n s).vlc.settings = s.vlc.settings ∧ (lock n s).causes = s.causes ∧
    (lock n s).pli = s.pli ∧ (lock n s).hr.ring = s.hr.ring ∧ (lock n s).hr.nextSeq = s.hr.nextSeq ∧
    (lock n s).hr.triggers = s.hr.triggers ∧ (lock n s).hr.post = s.hr.post ∧ (lock n s).hr.wraps = s.hr.wraps ∧
    (lock n s).sli.address = s.sli.address ∧ (lock n s).sli.rate = s.sli.rate ∧ (lock n s).sli.receive = s.sli.receive ∧
    (lock n s).sli.assembly = s.sli.assembly ∧ (lock n s).sli.mask = s.sli.mask ∧ (lock n s).sli.counters = s.sli.counters ∧
    (lock n s).sli.resetCause = s.sli.resetCause ∧ (lock n s).sli.resetCount = s.sli.resetCount ∧
    (lock n s).sli.reply = s.sli.reply ∧ (lock n s).sli.driving = s.sli.driving ∧ (lock n s).sli.output = s.sli.output ∧
    (lock n s).pending = s.pending := by
  unfold lock; dsimp only; simp

/-- May differ: progress, and a lock's or a halt's items. -/
@[simp] theorem vabCrossing_frame (q : Position) (s : State) :
    (vabCrossing q s).pins = s.pins ∧ (vabCrossing q s).clock = s.clock ∧ (vabCrossing q s).slr = s.slr ∧
    (vabCrossing q s).ct.settings = s.ct.settings ∧ (vabCrossing q s).bdu.shares = s.bdu.shares ∧
    (vabCrossing q s).table = s.table ∧ (vabCrossing q s).vlc.map = s.vlc.map ∧
    (vabCrossing q s).vlc.channels = s.vlc.channels ∧ (vabCrossing q s).vlc.settings = s.vlc.settings ∧
    (vabCrossing q s).causes = s.causes ∧ (vabCrossing q s).pli.inputs = s.pli.inputs ∧
    (vabCrossing q s).pli.settling = s.pli.settling ∧ (vabCrossing q s).pli.lastApplication = s.pli.lastApplication ∧
    (vabCrossing q s).pli.applications = s.pli.applications ∧ (vabCrossing q s).hr.ring = s.hr.ring ∧
    (vabCrossing q s).hr.nextSeq = s.hr.nextSeq ∧ (vabCrossing q s).hr.triggers = s.hr.triggers ∧
    (vabCrossing q s).hr.post = s.hr.post ∧ (vabCrossing q s).hr.wraps = s.hr.wraps ∧
    (vabCrossing q s).sli.address = s.sli.address ∧ (vabCrossing q s).sli.rate = s.sli.rate ∧
    (vabCrossing q s).sli.receive = s.sli.receive ∧ (vabCrossing q s).sli.assembly = s.sli.assembly ∧
    (vabCrossing q s).sli.mask = s.sli.mask ∧ (vabCrossing q s).sli.counters = s.sli.counters ∧
    (vabCrossing q s).sli.resetCause = s.sli.resetCause ∧ (vabCrossing q s).sli.resetCount = s.sli.resetCount ∧
    (vabCrossing q s).sli.reply = s.sli.reply ∧ (vabCrossing q s).sli.driving = s.sli.driving ∧
    (vabCrossing q s).sli.output = s.sli.output ∧ (vabCrossing q s).pending = s.pending := by
  unfold vabCrossing; dsimp only; (repeat' split) <;> simp

/-- May differ: progress, and a lock's or a halt's items. -/
@[simp] theorem acquireCrossing_frame (b : Branch) (q : Position) (s : State) :
    (acquireCrossing b q s).pins = s.pins ∧ (acquireCrossing b q s).clock = s.clock ∧ (acquireCrossing b q s).slr = s.slr ∧
    (acquireCrossing b q s).ct.settings = s.ct.settings ∧ (acquireCrossing b q s).bdu.shares = s.bdu.shares ∧
    (acquireCrossing b q s).table = s.table ∧ (acquireCrossing b q s).vlc.map = s.vlc.map ∧
    (acquireCrossing b q s).vlc.channels = s.vlc.channels ∧ (acquireCrossing b q s).vlc.settings = s.vlc.settings ∧
    (acquireCrossing b q s).causes = s.causes ∧ (acquireCrossing b q s).pli.inputs = s.pli.inputs ∧
    (acquireCrossing b q s).pli.settling = s.pli.settling ∧
    (acquireCrossing b q s).pli.lastApplication = s.pli.lastApplication ∧
    (acquireCrossing b q s).pli.applications = s.pli.applications ∧ (acquireCrossing b q s).hr.ring = s.hr.ring ∧
    (acquireCrossing b q s).hr.nextSeq = s.hr.nextSeq ∧ (acquireCrossing b q s).hr.triggers = s.hr.triggers ∧
    (acquireCrossing b q s).hr.post = s.hr.post ∧ (acquireCrossing b q s).hr.wraps = s.hr.wraps ∧
    (acquireCrossing b q s).sli.address = s.sli.address ∧ (acquireCrossing b q s).sli.rate = s.sli.rate ∧
    (acquireCrossing b q s).sli.receive = s.sli.receive ∧ (acquireCrossing b q s).sli.assembly = s.sli.assembly ∧
    (acquireCrossing b q s).sli.mask = s.sli.mask ∧ (acquireCrossing b q s).sli.counters = s.sli.counters ∧
    (acquireCrossing b q s).sli.resetCause = s.sli.resetCause ∧ (acquireCrossing b q s).sli.resetCount = s.sli.resetCount ∧
    (acquireCrossing b q s).sli.reply = s.sli.reply ∧ (acquireCrossing b q s).sli.driving = s.sli.driving ∧
    (acquireCrossing b q s).sli.output = s.sli.output ∧ (acquireCrossing b q s).pending = s.pending := by
  unfold acquireCrossing; dsimp only; (repeat' split) <;> simp

/-- May differ: a halt's items. -/
@[simp] theorem acquisitionTimeout_frame (s : State) :
    (acquisitionTimeout s).pins = s.pins ∧ (acquisitionTimeout s).clock = s.clock ∧ (acquisitionTimeout s).slr = s.slr ∧
    (acquisitionTimeout s).ct.settings = s.ct.settings ∧ (acquisitionTimeout s).bdu.shares = s.bdu.shares ∧
    (acquisitionTimeout s).bdu.lines = s.bdu.lines ∧ (acquisitionTimeout s).table = s.table ∧
    (acquisitionTimeout s).vlc.map = s.vlc.map ∧ (acquisitionTimeout s).vlc.channels = s.vlc.channels ∧
    (acquisitionTimeout s).vlc.settings = s.vlc.settings ∧ (acquisitionTimeout s).causes = s.causes ∧
    (acquisitionTimeout s).pli.inputs = s.pli.inputs ∧ (acquisitionTimeout s).pli.settling = s.pli.settling ∧
    (acquisitionTimeout s).pli.lastApplication = s.pli.lastApplication ∧
    (acquisitionTimeout s).pli.applications = s.pli.applications ∧ (acquisitionTimeout s).hr.ring = s.hr.ring ∧
    (acquisitionTimeout s).hr.nextSeq = s.hr.nextSeq ∧ (acquisitionTimeout s).hr.triggers = s.hr.triggers ∧
    (acquisitionTimeout s).hr.post = s.hr.post ∧ (acquisitionTimeout s).hr.wraps = s.hr.wraps ∧
    (acquisitionTimeout s).sli.address = s.sli.address ∧ (acquisitionTimeout s).sli.rate = s.sli.rate ∧
    (acquisitionTimeout s).sli.receive = s.sli.receive ∧ (acquisitionTimeout s).sli.assembly = s.sli.assembly ∧
    (acquisitionTimeout s).sli.mask = s.sli.mask ∧ (acquisitionTimeout s).sli.counters = s.sli.counters ∧
    (acquisitionTimeout s).sli.resetCause = s.sli.resetCause ∧ (acquisitionTimeout s).sli.resetCount = s.sli.resetCount ∧
    (acquisitionTimeout s).sli.reply = s.sli.reply ∧ (acquisitionTimeout s).sli.driving = s.sli.driving ∧
    (acquisitionTimeout s).sli.output = s.sli.output ∧ (acquisitionTimeout s).pending = s.pending := by
  unfold acquisitionTimeout; dsimp only; (repeat' split) <;> simp

/-- May differ: what a closure, a lock and a halt name. -/
@[simp] theorem confirmCrossing_frame (b : Branch) (c : Candidate) (s : State) :
    (confirmCrossing b c s).pins = s.pins ∧ (confirmCrossing b c s).clock.phase = s.clock.phase ∧
    (confirmCrossing b c s).clock.sinceReset = s.clock.sinceReset ∧ (confirmCrossing b c s).slr = s.slr ∧
    (confirmCrossing b c s).ct.settings = s.ct.settings ∧ (confirmCrossing b c s).bdu.shares = s.bdu.shares ∧
    (confirmCrossing b c s).table = s.table ∧ (confirmCrossing b c s).vlc.map = s.vlc.map ∧
    (confirmCrossing b c s).vlc.settings = s.vlc.settings ∧ (confirmCrossing b c s).pli.inputs = s.pli.inputs ∧
    (confirmCrossing b c s).pli.settling = s.pli.settling ∧
    (confirmCrossing b c s).pli.lastApplication = s.pli.lastApplication ∧
    (confirmCrossing b c s).pli.applications = s.pli.applications ∧ (confirmCrossing b c s).hr.triggers = s.hr.triggers ∧
    (confirmCrossing b c s).hr.post = s.hr.post ∧ (confirmCrossing b c s).sli.address = s.sli.address ∧
    (confirmCrossing b c s).sli.rate = s.sli.rate ∧ (confirmCrossing b c s).sli.receive = s.sli.receive ∧
    (confirmCrossing b c s).sli.assembly = s.sli.assembly ∧ (confirmCrossing b c s).sli.mask = s.sli.mask ∧
    (confirmCrossing b c s).sli.counters = s.sli.counters ∧ (confirmCrossing b c s).sli.resetCause = s.sli.resetCause ∧
    (confirmCrossing b c s).sli.resetCount = s.sli.resetCount ∧ (confirmCrossing b c s).sli.reply = s.sli.reply ∧
    (confirmCrossing b c s).sli.driving = s.sli.driving ∧ (confirmCrossing b c s).sli.output = s.sli.output ∧
    (confirmCrossing b c s).pending = s.pending := by
  unfold confirmCrossing; (repeat' split) <;> simp

/-- May differ: what a closure, a lock and a halt name. -/
@[simp] theorem watchVoltage_frame (b : Branch) (x : Half) (s : State) :
    (watchVoltage b x s).pins = s.pins ∧ (watchVoltage b x s).clock.phase = s.clock.phase ∧
    (watchVoltage b x s).clock.sinceReset = s.clock.sinceReset ∧ (watchVoltage b x s).slr = s.slr ∧
    (watchVoltage b x s).ct.settings = s.ct.settings ∧ (watchVoltage b x s).bdu.shares = s.bdu.shares ∧
    (watchVoltage b x s).table = s.table ∧ (watchVoltage b x s).vlc.map = s.vlc.map ∧
    (watchVoltage b x s).vlc.settings = s.vlc.settings ∧ (watchVoltage b x s).pli.inputs = s.pli.inputs ∧
    (watchVoltage b x s).pli.settling = s.pli.settling ∧ (watchVoltage b x s).pli.lastApplication = s.pli.lastApplication ∧
    (watchVoltage b x s).pli.applications = s.pli.applications ∧ (watchVoltage b x s).hr.triggers = s.hr.triggers ∧
    (watchVoltage b x s).hr.post = s.hr.post ∧ (watchVoltage b x s).sli.address = s.sli.address ∧
    (watchVoltage b x s).sli.rate = s.sli.rate ∧ (watchVoltage b x s).sli.receive = s.sli.receive ∧
    (watchVoltage b x s).sli.assembly = s.sli.assembly ∧ (watchVoltage b x s).sli.mask = s.sli.mask ∧
    (watchVoltage b x s).sli.counters = s.sli.counters ∧ (watchVoltage b x s).sli.resetCause = s.sli.resetCause ∧
    (watchVoltage b x s).sli.resetCount = s.sli.resetCount ∧ (watchVoltage b x s).sli.reply = s.sli.reply ∧
    (watchVoltage b x s).sli.driving = s.sli.driving ∧ (watchVoltage b x s).sli.output = s.sli.output ∧
    (watchVoltage b x s).pending = s.pending := by
  unfold watchVoltage; dsimp only; (repeat' split) <;> simp

/-- May differ: delay lines and windows. -/
@[simp] theorem feedDemand_frame (u : PerQuantity Half) (h : PerQuantity Bool) (s : State) :
    (feedDemand u h s).pins = s.pins ∧ (feedDemand u h s).clock = s.clock ∧ (feedDemand u h s).oc = s.oc ∧
    (feedDemand u h s).slr = s.slr ∧ (feedDemand u h s).ct = s.ct ∧ (feedDemand u h s).bdu.shares = s.bdu.shares ∧
    (feedDemand u h s).table = s.table ∧ (feedDemand u h s).vlc = s.vlc ∧ (feedDemand u h s).causes = s.causes ∧
    (feedDemand u h s).pli = s.pli ∧ (feedDemand u h s).hr = s.hr ∧ (feedDemand u h s).sli = s.sli ∧
    (feedDemand u h s).pending = s.pending := by
  unfold feedDemand forBranches; dsimp only; (repeat' split) <;> simp

/-- May differ: a quantity's items and counters. -/
@[simp] theorem selectQuantity_frame (w : PerQuantity (PerLink LinkWord)) (q : Quantity) (s : State) :
    (selectQuantity w q s).pins = s.pins ∧ (selectQuantity w q s).clock = s.clock ∧ (selectQuantity w q s).oc = s.oc ∧
    (selectQuantity w q s).slr.link = s.slr.link ∧ (selectQuantity w q s).slr.expected = s.slr.expected ∧
    (selectQuantity w q s).slr.frameIndex = s.slr.frameIndex ∧ (selectQuantity w q s).slr.gap = s.slr.gap ∧
    (selectQuantity w q s).slr.gapRunning = s.slr.gapRunning ∧ (selectQuantity w q s).slr.primary = s.slr.primary ∧
    (selectQuantity w q s).slr.chains = s.slr.chains ∧ (selectQuantity w q s).slr.block = s.slr.block ∧
    (selectQuantity w q s).slr.tolerance = s.slr.tolerance ∧ (selectQuantity w q s).ct = s.ct ∧
    (selectQuantity w q s).bdu = s.bdu ∧ (selectQuantity w q s).table = s.table ∧ (selectQuantity w q s).vlc = s.vlc ∧
    (selectQuantity w q s).causes = s.causes ∧ (selectQuantity w q s).pli = s.pli ∧
    (selectQuantity w q s).hr.ring = s.hr.ring ∧ (selectQuantity w q s).hr.nextSeq = s.hr.nextSeq ∧
    (selectQuantity w q s).hr.triggers = s.hr.triggers ∧ (selectQuantity w q s).hr.post = s.hr.post ∧
    (selectQuantity w q s).hr.wraps = s.hr.wraps ∧ (selectQuantity w q s).sli.address = s.sli.address ∧
    (selectQuantity w q s).sli.rate = s.sli.rate ∧ (selectQuantity w q s).sli.receive = s.sli.receive ∧
    (selectQuantity w q s).sli.assembly = s.sli.assembly ∧ (selectQuantity w q s).sli.mask = s.sli.mask ∧
    (selectQuantity w q s).sli.counters = s.sli.counters ∧ (selectQuantity w q s).sli.resetCause = s.sli.resetCause ∧
    (selectQuantity w q s).sli.resetCount = s.sli.resetCount ∧ (selectQuantity w q s).sli.reply = s.sli.reply ∧
    (selectQuantity w q s).sli.driving = s.sli.driving ∧ (selectQuantity w q s).sli.output = s.sli.output ∧
    (selectQuantity w q s).pending = s.pending := by
  unfold selectQuantity; dsimp only; (repeat' split) <;> simp

/-- May differ: what R23 and R25 name. -/
@[simp] theorem measurementBreak_frame (s : State) :
    (measurementBreak s).pins = s.pins ∧ (measurementBreak s).clock = s.clock ∧ (measurementBreak s).oc = s.oc ∧
    (measurementBreak s).slr.link = s.slr.link ∧ (measurementBreak s).slr.expected = s.slr.expected ∧
    (measurementBreak s).slr.frameIndex = s.slr.frameIndex ∧ (measurementBreak s).slr.gap = s.slr.gap ∧
    (measurementBreak s).slr.gapRunning = s.slr.gapRunning ∧ (measurementBreak s).slr.primary = s.slr.primary ∧
    (measurementBreak s).slr.chains = s.slr.chains ∧ (measurementBreak s).slr.quantities = s.slr.quantities ∧
    (measurementBreak s).slr.block = s.slr.block ∧ (measurementBreak s).slr.tolerance = s.slr.tolerance ∧
    (measurementBreak s).ct.settings = s.ct.settings ∧ (measurementBreak s).ct.nominal = s.ct.nominal ∧
    (measurementBreak s).bdu.shares = s.bdu.shares ∧ (measurementBreak s).table = s.table ∧ (measurementBreak s).vlc = s.vlc ∧
    (measurementBreak s).causes = s.causes ∧ (measurementBreak s).pli = s.pli ∧ (measurementBreak s).hr.ring = s.hr.ring ∧
    (measurementBreak s).hr.nextSeq = s.hr.nextSeq ∧ (measurementBreak s).hr.triggers = s.hr.triggers ∧
    (measurementBreak s).hr.post = s.hr.post ∧ (measurementBreak s).hr.wraps = s.hr.wraps ∧
    (measurementBreak s).sli.address = s.sli.address ∧ (measurementBreak s).sli.rate = s.sli.rate ∧
    (measurementBreak s).sli.receive = s.sli.receive ∧ (measurementBreak s).sli.assembly = s.sli.assembly ∧
    (measurementBreak s).sli.mask = s.sli.mask ∧ (measurementBreak s).sli.counters = s.sli.counters ∧
    (measurementBreak s).sli.resetCause = s.sli.resetCause ∧ (measurementBreak s).sli.resetCount = s.sli.resetCount ∧
    (measurementBreak s).sli.reply = s.sli.reply ∧ (measurementBreak s).sli.driving = s.sli.driving ∧
    (measurementBreak s).sli.output = s.sli.output ∧ (measurementBreak s).pending = s.pending := by
  unfold measurementBreak; simp

/-- May differ: a chain and the link counters. -/
@[simp] theorem judgeChannel_frame (w : PerQuantity (PerLink LinkWord)) (c : LinkChannel) (s : State) :
    (judgeChannel w c s).pins = s.pins ∧ (judgeChannel w c s).clock = s.clock ∧ (judgeChannel w c s).oc = s.oc ∧
    (judgeChannel w c s).slr.link = s.slr.link ∧ (judgeChannel w c s).slr.expected = s.slr.expected ∧
    (judgeChannel w c s).slr.frameIndex = s.slr.frameIndex ∧ (judgeChannel w c s).slr.gap = s.slr.gap ∧
    (judgeChannel w c s).slr.gapRunning = s.slr.gapRunning ∧ (judgeChannel w c s).slr.primary = s.slr.primary ∧
    (judgeChannel w c s).slr.quantities = s.slr.quantities ∧ (judgeChannel w c s).slr.block = s.slr.block ∧
    (judgeChannel w c s).slr.tolerance = s.slr.tolerance ∧ (judgeChannel w c s).ct = s.ct ∧ (judgeChannel w c s).bdu = s.bdu ∧
    (judgeChannel w c s).table = s.table ∧ (judgeChannel w c s).vlc = s.vlc ∧ (judgeChannel w c s).causes = s.causes ∧
    (judgeChannel w c s).pli = s.pli ∧ (judgeChannel w c s).hr.ring = s.hr.ring ∧
    (judgeChannel w c s).hr.nextSeq = s.hr.nextSeq ∧ (judgeChannel w c s).hr.triggers = s.hr.triggers ∧
    (judgeChannel w c s).hr.post = s.hr.post ∧ (judgeChannel w c s).hr.wraps = s.hr.wraps ∧
    (judgeChannel w c s).sli.address = s.sli.address ∧ (judgeChannel w c s).sli.rate = s.sli.rate ∧
    (judgeChannel w c s).sli.receive = s.sli.receive ∧ (judgeChannel w c s).sli.assembly = s.sli.assembly ∧
    (judgeChannel w c s).sli.mask = s.sli.mask ∧ (judgeChannel w c s).sli.counters = s.sli.counters ∧
    (judgeChannel w c s).sli.resetCause = s.sli.resetCause ∧ (judgeChannel w c s).sli.resetCount = s.sli.resetCount ∧
    (judgeChannel w c s).sli.reply = s.sli.reply ∧ (judgeChannel w c s).sli.driving = s.sli.driving ∧
    (judgeChannel w c s).sli.output = s.sli.output ∧ (judgeChannel w c s).pending = s.pending := by
  unfold judgeChannel; dsimp only; (repeat' split) <;> simp

/-- May differ: the primary channel. -/
@[simp] theorem switchPrimary_frame (s : State) :
    (switchPrimary s).pins = s.pins ∧ (switchPrimary s).clock = s.clock ∧ (switchPrimary s).oc = s.oc ∧
    (switchPrimary s).slr.link = s.slr.link ∧ (switchPrimary s).slr.expected = s.slr.expected ∧
    (switchPrimary s).slr.frameIndex = s.slr.frameIndex ∧ (switchPrimary s).slr.gap = s.slr.gap ∧
    (switchPrimary s).slr.gapRunning = s.slr.gapRunning ∧ (switchPrimary s).slr.chains = s.slr.chains ∧
    (switchPrimary s).slr.quantities = s.slr.quantities ∧ (switchPrimary s).slr.block = s.slr.block ∧
    (switchPrimary s).slr.tolerance = s.slr.tolerance ∧ (switchPrimary s).ct = s.ct ∧ (switchPrimary s).bdu = s.bdu ∧
    (switchPrimary s).table = s.table ∧ (switchPrimary s).vlc = s.vlc ∧ (switchPrimary s).causes = s.causes ∧
    (switchPrimary s).pli = s.pli ∧ (switchPrimary s).hr.ring = s.hr.ring ∧ (switchPrimary s).hr.nextSeq = s.hr.nextSeq ∧
    (switchPrimary s).hr.triggers = s.hr.triggers ∧ (switchPrimary s).hr.post = s.hr.post ∧
    (switchPrimary s).hr.wraps = s.hr.wraps ∧ (switchPrimary s).sli.address = s.sli.address ∧
    (switchPrimary s).sli.rate = s.sli.rate ∧ (switchPrimary s).sli.receive = s.sli.receive ∧
    (switchPrimary s).sli.assembly = s.sli.assembly ∧ (switchPrimary s).sli.mask = s.sli.mask ∧
    (switchPrimary s).sli.counters = s.sli.counters ∧ (switchPrimary s).sli.resetCause = s.sli.resetCause ∧
    (switchPrimary s).sli.resetCount = s.sli.resetCount ∧ (switchPrimary s).sli.reply = s.sli.reply ∧
    (switchPrimary s).sli.driving = s.sli.driving ∧ (switchPrimary s).sli.output = s.sli.output ∧
    (switchPrimary s).pending = s.pending := by
  unfold switchPrimary; dsimp only; (repeat' split) <;> simp

/-- May differ: the link state. -/
@[simp] theorem markLate_frame (s : State) :
    (markLate s).pins = s.pins ∧ (markLate s).clock = s.clock ∧ (markLate s).oc = s.oc ∧
    (markLate s).slr.expected = s.slr.expected ∧ (markLate s).slr.frameIndex = s.slr.frameIndex ∧
    (markLate s).slr.gap = s.slr.gap ∧ (markLate s).slr.gapRunning = s.slr.gapRunning ∧
    (markLate s).slr.primary = s.slr.primary ∧ (markLate s).slr.chains = s.slr.chains ∧
    (markLate s).slr.quantities = s.slr.quantities ∧ (markLate s).slr.block = s.slr.block ∧
    (markLate s).slr.tolerance = s.slr.tolerance ∧ (markLate s).ct = s.ct ∧ (markLate s).bdu = s.bdu ∧
    (markLate s).table = s.table ∧ (markLate s).vlc = s.vlc ∧ (markLate s).causes = s.causes ∧ (markLate s).pli = s.pli ∧
    (markLate s).hr.ring = s.hr.ring ∧ (markLate s).hr.nextSeq = s.hr.nextSeq ∧ (markLate s).hr.triggers = s.hr.triggers ∧
    (markLate s).hr.post = s.hr.post ∧ (markLate s).hr.wraps = s.hr.wraps ∧ (markLate s).sli.address = s.sli.address ∧
    (markLate s).sli.rate = s.sli.rate ∧ (markLate s).sli.receive = s.sli.receive ∧
    (markLate s).sli.assembly = s.sli.assembly ∧ (markLate s).sli.mask = s.sli.mask ∧
    (markLate s).sli.counters = s.sli.counters ∧ (markLate s).sli.resetCause = s.sli.resetCause ∧
    (markLate s).sli.resetCount = s.sli.resetCount ∧ (markLate s).sli.reply = s.sli.reply ∧
    (markLate s).sli.driving = s.sli.driving ∧ (markLate s).sli.output = s.sli.output ∧ (markLate s).pending = s.pending := by
  unfold markLate; dsimp only; (repeat' split) <;> simp

/-- May differ: the link state and the delay lines. -/
@[simp] theorem markLost_frame (s : State) :
    (markLost s).pins = s.pins ∧ (markLost s).clock = s.clock ∧ (markLost s).oc = s.oc ∧
    (markLost s).slr.expected = s.slr.expected ∧ (markLost s).slr.frameIndex = s.slr.frameIndex ∧
    (markLost s).slr.gap = s.slr.gap ∧ (markLost s).slr.gapRunning = s.slr.gapRunning ∧
    (markLost s).slr.primary = s.slr.primary ∧ (markLost s).slr.chains = s.slr.chains ∧
    (markLost s).slr.quantities = s.slr.quantities ∧ (markLost s).slr.block = s.slr.block ∧
    (markLost s).slr.tolerance = s.slr.tolerance ∧ (markLost s).ct = s.ct ∧ (markLost s).bdu.shares = s.bdu.shares ∧
    (markLost s).bdu.branches = s.bdu.branches ∧ (markLost s).table = s.table ∧ (markLost s).vlc = s.vlc ∧
    (markLost s).causes = s.causes ∧ (markLost s).pli = s.pli ∧ (markLost s).hr.ring = s.hr.ring ∧
    (markLost s).hr.nextSeq = s.hr.nextSeq ∧ (markLost s).hr.triggers = s.hr.triggers ∧ (markLost s).hr.post = s.hr.post ∧
    (markLost s).hr.wraps = s.hr.wraps ∧ (markLost s).sli.address = s.sli.address ∧ (markLost s).sli.rate = s.sli.rate ∧
    (markLost s).sli.receive = s.sli.receive ∧ (markLost s).sli.assembly = s.sli.assembly ∧
    (markLost s).sli.mask = s.sli.mask ∧ (markLost s).sli.counters = s.sli.counters ∧
    (markLost s).sli.resetCause = s.sli.resetCause ∧ (markLost s).sli.resetCount = s.sli.resetCount ∧
    (markLost s).sli.reply = s.sli.reply ∧ (markLost s).sli.driving = s.sli.driving ∧ (markLost s).sli.output = s.sli.output ∧
    (markLost s).pending = s.pending := by
  unfold markLost; dsimp only; (repeat' split) <;> simp

/-- May differ: the latch and the named branches. -/
@[simp] theorem consumeLatch_frame (v : PresetValues) (s : State) :
    (consumeLatch v s).pins = s.pins ∧ (consumeLatch v s).clock = s.clock ∧ (consumeLatch v s).oc.device = s.oc.device ∧
    (consumeLatch v s).oc.halt = s.oc.halt ∧ (consumeLatch v s).oc.tripRequest = s.oc.tripRequest ∧
    (consumeLatch v s).oc.lockFrequency = s.oc.lockFrequency ∧ (consumeLatch v s).slr = s.slr ∧ (consumeLatch v s).ct = s.ct ∧
    (consumeLatch v s).bdu.shares = s.bdu.shares ∧ (consumeLatch v s).bdu.lines = s.bdu.lines ∧
    (consumeLatch v s).table = s.table ∧ (consumeLatch v s).vlc = s.vlc ∧ (consumeLatch v s).causes = s.causes ∧
    (consumeLatch v s).pli.inputs = s.pli.inputs ∧ (consumeLatch v s).pli.settling = s.pli.settling ∧
    (consumeLatch v s).pli.lastCancel = s.pli.lastCancel ∧ (consumeLatch v s).pli.cancellations = s.pli.cancellations ∧
    (consumeLatch v s).hr.ring = s.hr.ring ∧ (consumeLatch v s).hr.nextSeq = s.hr.nextSeq ∧
    (consumeLatch v s).hr.triggers = s.hr.triggers ∧ (consumeLatch v s).hr.post = s.hr.post ∧
    (consumeLatch v s).hr.wraps = s.hr.wraps ∧ (consumeLatch v s).sli.address = s.sli.address ∧
    (consumeLatch v s).sli.rate = s.sli.rate ∧ (consumeLatch v s).sli.receive = s.sli.receive ∧
    (consumeLatch v s).sli.assembly = s.sli.assembly ∧ (consumeLatch v s).sli.mask = s.sli.mask ∧
    (consumeLatch v s).sli.counters = s.sli.counters ∧ (consumeLatch v s).sli.resetCause = s.sli.resetCause ∧
    (consumeLatch v s).sli.resetCount = s.sli.resetCount ∧ (consumeLatch v s).sli.reply = s.sli.reply ∧
    (consumeLatch v s).sli.driving = s.sli.driving ∧ (consumeLatch v s).sli.output = s.sli.output ∧
    (consumeLatch v s).pending = s.pending := by
  unfold consumeLatch; dsimp only; simp

/-- May differ: the latch and the named branches. -/
@[simp] theorem breakerClose_frame (s : State) :
    (breakerClose s).pins = s.pins ∧ (breakerClose s).clock = s.clock ∧ (breakerClose s).oc.device = s.oc.device ∧
    (breakerClose s).oc.halt = s.oc.halt ∧ (breakerClose s).oc.tripRequest = s.oc.tripRequest ∧
    (breakerClose s).oc.lockFrequency = s.oc.lockFrequency ∧ (breakerClose s).slr = s.slr ∧ (breakerClose s).ct = s.ct ∧
    (breakerClose s).bdu.shares = s.bdu.shares ∧ (breakerClose s).bdu.lines = s.bdu.lines ∧ (breakerClose s).table = s.table ∧
    (breakerClose s).vlc = s.vlc ∧ (breakerClose s).causes = s.causes ∧ (breakerClose s).pli.inputs = s.pli.inputs ∧
    (breakerClose s).pli.settling = s.pli.settling ∧ (breakerClose s).hr.ring = s.hr.ring ∧
    (breakerClose s).hr.nextSeq = s.hr.nextSeq ∧ (breakerClose s).hr.triggers = s.hr.triggers ∧
    (breakerClose s).hr.post = s.hr.post ∧ (breakerClose s).hr.wraps = s.hr.wraps ∧
    (breakerClose s).sli.address = s.sli.address ∧ (breakerClose s).sli.rate = s.sli.rate ∧
    (breakerClose s).sli.receive = s.sli.receive ∧ (breakerClose s).sli.assembly = s.sli.assembly ∧
    (breakerClose s).sli.mask = s.sli.mask ∧ (breakerClose s).sli.counters = s.sli.counters ∧
    (breakerClose s).sli.resetCause = s.sli.resetCause ∧ (breakerClose s).sli.resetCount = s.sli.resetCount ∧
    (breakerClose s).sli.reply = s.sli.reply ∧ (breakerClose s).sli.driving = s.sli.driving ∧
    (breakerClose s).sli.output = s.sli.output ∧ (breakerClose s).pending = s.pending := by
  unfold breakerClose; dsimp only; (repeat' split) <;> simp

/-- May differ: the cause sets and what R150, R151 name. -/
@[simp] theorem setPlantCause_frame (x : Bool) (s : State) :
    (setPlantCause x s).pins = s.pins ∧ (setPlantCause x s).clock = s.clock ∧ (setPlantCause x s).oc.device = s.oc.device ∧
    (setPlantCause x s).oc.halt = s.oc.halt ∧ (setPlantCause x s).oc.tripRequest = s.oc.tripRequest ∧
    (setPlantCause x s).oc.lockFrequency = s.oc.lockFrequency ∧ (setPlantCause x s).slr = s.slr ∧
    (setPlantCause x s).ct = s.ct ∧ (setPlantCause x s).bdu.shares = s.bdu.shares ∧
    (setPlantCause x s).bdu.lines = s.bdu.lines ∧ (setPlantCause x s).table = s.table ∧
    (setPlantCause x s).vlc.map = s.vlc.map ∧ (setPlantCause x s).vlc.channels = s.vlc.channels ∧
    (setPlantCause x s).vlc.settings = s.vlc.settings ∧ (setPlantCause x s).pli = s.pli ∧ (setPlantCause x s).hr = s.hr ∧
    (setPlantCause x s).sli = s.sli ∧ (setPlantCause x s).pending = s.pending := by
  unfold setPlantCause forBranches; dsimp only; simp

/-- May differ: receive state, assembly, line counters. -/
@[simp] theorem abandon_frame (f : LineCounters → LineCounters) (s : State) :
    (abandon f s).pins = s.pins ∧ (abandon f s).clock = s.clock ∧ (abandon f s).oc = s.oc ∧ (abandon f s).slr = s.slr ∧
    (abandon f s).ct = s.ct ∧ (abandon f s).bdu = s.bdu ∧ (abandon f s).table = s.table ∧ (abandon f s).vlc = s.vlc ∧
    (abandon f s).causes = s.causes ∧ (abandon f s).pli = s.pli ∧ (abandon f s).hr.ring = s.hr.ring ∧
    (abandon f s).hr.nextSeq = s.hr.nextSeq ∧ (abandon f s).hr.triggers = s.hr.triggers ∧ (abandon f s).hr.post = s.hr.post ∧
    (abandon f s).hr.wraps = s.hr.wraps ∧ (abandon f s).sli.address = s.sli.address ∧ (abandon f s).sli.rate = s.sli.rate ∧
    (abandon f s).sli.mask = s.sli.mask ∧ (abandon f s).sli.resetCause = s.sli.resetCause ∧
    (abandon f s).sli.resetCount = s.sli.resetCount ∧ (abandon f s).sli.reply = s.sli.reply ∧
    (abandon f s).sli.driving = s.sli.driving ∧ (abandon f s).sli.output = s.sli.output ∧
    (abandon f s).pending = s.pending := by
  unfold abandon; simp

end Sys2Proof.Machine
end

