-- ==== Sys2Proof/Laws/Operations.lean ====
section
/-! SUPPORT. What the shared operations do: for each, once, when it changes nothing and what it leaves in the items its rule
names. Frames holds what each leaves as it was. -/

namespace Sys2Proof.Machine

/-! ## Counters -/

theorem bump_le (m n : Nat) : bump m n ≤ m := by unfold bump; split <;> omega

theorem bump_of_lt {m n : Nat} (h : n < m) : bump m n = n + 1 := by simp [bump, h]

theorem bump_of_le {m n : Nat} (h : m ≤ n) : bump m n = m := by simp [bump, Nat.not_lt.mpr h]

theorem bump_eq_min {m n : Nat} (h : n ≤ m) : bump m n = min m (n + 1) := by unfold bump; split <;> omega

/-! ## Events and triggers -/

theorem noteEvent_events_ne (k j : EventKind) (s : State) (h : j ≠ k) :
    (noteEvent k s).sli.events.get j = s.sli.events.get j := PerEvent.get_set_ne _ _ _ _ h

theorem offerTrigger_off (c : TriggerCause) (s : State) (h : s.hr.triggers.getLsbD (triggerNumber c) = false) :
    offerTrigger c s = s := by simp [offerTrigger, h]

theorem takeTrigger_busy (c : TriggerCause) (s : State) (h : s.hr.capture ≠ .free) :
    takeTrigger c s = { s with hr := { s.hr with ignored := count16 s.hr.ignored } } := by
  unfold takeTrigger; split
  · contradiction
  · rfl

theorem takeTrigger_free (c : TriggerCause) (s : State) (h : s.hr.capture = .free) (hp : s.hr.post ≠ 0) :
    takeTrigger c s = { s with hr := { s.hr with
      capture := .triggered, trigger := some ⟨c, s.hr.ring.getLast?.map (·.seq), s.slr.frameIndex⟩
      remaining := s.hr.post, ignored := 0 } } := by
  simp [takeTrigger, h, hp]

/-- A trigger touches no event but CAPTURE_FROZEN. -/
theorem takeTrigger_events (c : TriggerCause) (s : State) (j : EventKind) (h : j ≠ .captureFrozen) :
    (takeTrigger c s).sli.events.get j = s.sli.events.get j := by
  unfold takeTrigger freeze; (repeat' split) <;> first | rfl | exact noteEvent_events_ne _ _ _ h

theorem offerTrigger_events (c : TriggerCause) (s : State) (j : EventKind) (h : j ≠ .captureFrozen) :
    (offerTrigger c s).sli.events.get j = s.sli.events.get j := by
  unfold offerTrigger; split
  · exact takeTrigger_events c s j h
  · rfl

theorem raise_of_no_trigger (k : EventKind) (s : State) (h : triggerOf k = none) : raise k s = noteEvent k s := by
  simp [raise, h]

theorem raise_of_trigger_off (k : EventKind) (c : TriggerCause) (s : State) (h : triggerOf k = some c)
    (hoff : s.hr.triggers.getLsbD (triggerNumber c) = false) : raise k s = noteEvent k s := by
  simp only [raise, h]; exact offerTrigger_off c _ hoff

theorem raise_events_ne (k j : EventKind) (s : State) (h : j ≠ k) (hf : j ≠ .captureFrozen) :
    (raise k s).sli.events.get j = s.sli.events.get j := by
  unfold raise; split
  · rw [offerTrigger_events _ _ _ hf]; exact noteEvent_events_ne _ _ _ h
  · exact noteEvent_events_ne _ _ _ h

theorem raise_events_self (k : EventKind) (s : State) (h : k ≠ .captureFrozen) :
    (raise k s).sli.events.get k = ⟨true, bump 255 (s.sli.events.get k).count⟩ := by
  unfold raise; split
  · rw [offerTrigger_events _ _ _ h]; simp
  · simp

/-! ## The latch, halts, the configuration -/

theorem cancelLatch_none (c : CancelCause) (s : State) (h : s.pli.latch = none) : cancelLatch c s = s := by
  simp [cancelLatch, h]

theorem cancelLatch_some (c : CancelCause) (s : State) (h : s.pli.latch ≠ none) :
    cancelLatch c s = noteEvent .presetCancelled { s with pli := { s.pli with
      latch := none, lastCancel := some c, cancellations := count16 s.pli.cancellations } } := by
  unfold cancelLatch; split
  · contradiction
  · rfl

@[simp] theorem cancelLatch_latch (c : CancelCause) (s : State) : (cancelLatch c s).pli.latch = none := by
  by_cases h : s.pli.latch = none
  · rw [cancelLatch_none c s h]; exact h
  · rw [cancelLatch_some c s h]; rfl

theorem enterHalted_elsewhere (c : HaltCause) (b : Option Branch) (g : Option Group) (f : Option FailureCause) (s : State)
    (ha : s.oc.device ≠ .acquire) (hr : s.oc.device ≠ .run) : enterHalted c b g f s = s := by
  simp [enterHalted, ha, hr]

/-- R8: the device state and the record of a halt. -/
theorem enterHalted_oc (c : HaltCause) (b : Option Branch) (g : Option Group) (f : Option FailureCause) (s : State)
    (h : s.oc.device = .acquire ∨ s.oc.device = .run) :
    (enterHalted c b g f s).oc =
      ⟨.halted, ⟨c, b, g, f, some s.slr.frameIndex⟩, trips s.oc.device c, true, s.oc.lockFrequency⟩ := by
  simp [enterHalted, h]

theorem enterHalted_tracks (c : HaltCause) (b : Option Branch) (g : Option Group) (f : Option FailureCause) (s : State)
    (h : s.oc.device = .acquire ∨ s.oc.device = .run) :
    (enterHalted c b g f s).ct = ⟨s.ct.settings, none, .empty, s.ct.tracks.mapKey fun _ => haltTrack⟩ := by
  simp [enterHalted, h]

theorem enterHalted_branches (c : HaltCause) (b : Option Branch) (g : Option Group) (f : Option FailureCause) (s : State)
    (h : s.oc.device = .acquire ∨ s.oc.device = .run) :
    (enterHalted c b g f s).bdu.branches = s.bdu.branches.mapKey fun _ => leaveRunDemand := by
  simp [enterHalted, h]

theorem enterHalted_firing (c : HaltCause) (b : Option Branch) (g : Option Group) (f : Option FailureCause) (s : State)
    (h : s.oc.device = .acquire ∨ s.oc.device = .run) : (enterHalted c b g f s).vlc.firing = .fill .clear := by
  simp [enterHalted, h]

theorem evaluateConfiguration_elsewhere (s : State) (h : s.oc.device ≠ .unset) : evaluateConfiguration s = s := by
  simp [evaluateConfiguration, h]

/-! ## Cause sets and failures -/

/-- R145: whatever else a change of a set brings about, the sets become this. -/
@[simp] theorem changeCauses_causes (b : Branch) (f : CauseSet → CauseSet) (s : State) :
    (changeCauses b f s).causes = s.causes.set b (f (s.causes.get b)) := by
  unfold changeCauses; (try dsimp only); (repeat' split) <;> simp

theorem changeCauses_outside (b : Branch) (f : CauseSet → CauseSet) (s : State) (h : s.oc.device ≠ .run) :
    changeCauses b f s = { s with causes := s.causes.set b (f (s.causes.get b)) } := by
  simp [changeCauses, h]

theorem changeCauses_still (b : Branch) (f : CauseSet → CauseSet) (s : State)
    (h : noCauses (f (s.causes.get b)) = noCauses (s.causes.get b)) :
    changeCauses b f s = { s with causes := s.causes.set b (f (s.causes.get b)) } := by
  unfold changeCauses; dsimp only; rw [h]; cases noCauses (s.causes.get b) <;> simp

theorem failGroup_failed (g : Group) (c : FailureCause) (s : State) (h : (s.vlc.groups.get g).failure ≠ none) :
    failGroup g c s = s := by
  unfold failGroup; split
  · rfl
  · contradiction

/-! ## Routing -/

theorem groupOn_some (map : PerGroup ValveChannel) (c : ValveChannel) (g : Group) (h : groupOn map c = some g) :
    map.get g = c := by
  have := List.find?_some h; simpa using this

theorem groupOn_none (map : PerGroup ValveChannel) (c : ValveChannel) : groupOn map c = none ↔ ∀ g, map.get g ≠ c := by
  simp only [groupOn, List.find?_eq_none, beq_iff_eq]
  exact ⟨fun h g => h g (by cases g <;> simp [Group.all]), fun h g _ => h g⟩

theorem groupOn_of_injective (map : PerGroup ValveChannel) (g : Group)
    (h : ∀ g h, map.get g = map.get h → g = h) : groupOn map (map.get g) = some g := by
  cases e : groupOn map (map.get g) with
  | none => exact absurd rfl ((groupOn_none map _).mp e g)
  | some k => exact congrArg some (h k g (groupOn_some map _ k e))

/-! ## Closures and crossings -/

theorem handOverDelay_apart (b : Branch) (kind : ClosureKind) (p : Polarity) (delay start : Nat) (s : State)
    (h : advanceMeets kind start delay = false) : handOverDelay b kind p delay start s = handOver b p delay start s := by
  simp [handOverDelay, h]

/-- R72: the branch's demand items after a closure are the decided ones, and no other branch's change. -/
theorem decideClosure_branches (b : Branch) (kind : ClosureKind) (s : State) :
    (decideClosure b kind s).bdu.branches = s.bdu.branches.set b (closedDemand s b kind) := by
  unfold decideClosure; dsimp only; (repeat' split) <;> simp [modDemand]

/-- A synthesised closure never meets the counter's advance (R108). -/
@[simp] theorem advanceMeets_synthesized (start delay : Nat) : advanceMeets .synthesized start delay = false := rfl

/-- The delay taken at a closure is armed, settled NO_ORDER or settled LATE_DECISION (R107). -/
theorem handOver_firing (b : Branch) (p : Polarity) (delay count : Nat) (s : State) :
    (handOver b p delay count s).vlc.firing = s.vlc.firing.set b
      (if delay = 2048 then ⟨none, some ⟨.noOrder, none⟩, none⟩
       else if delay ≤ count then ⟨none, some ⟨.lateDecision, none⟩, none⟩ else ⟨some delay, none, none⟩) := by
  unfold handOver; split
  · rename_i h; simp [modFiring, show delay = 2048 from h]
  · rename_i h; rw [if_neg (show ¬ delay = 2048 from h)]; split
    · simp [modFiring, modGroupCounters]
    · simp [modFiring]

/-- What falls together is taken whole, each of it once (assumption 2). -/
theorem arrange_perm {α : Type} (fuel n : Nat) (l : List α) : (arrange fuel n l).Perm l := by
  induction fuel generalizing n l with
  | zero => exact .refl _
  | succ fuel ih =>
    match l with
    | [] => exact .refl _
    | [x] => exact .refl _
    | x :: y :: l =>
      have hi : Config.pick n % (x :: y :: l).length < (x :: y :: l).length := Nat.mod_lt _ (by simp)
      refine ((ih _ _).append_left _).trans ?_
      rw [List.getElem?_eq_getElem hi]
      exact List.getElem_cons_eraseIdx_perm hi

theorem anyOrder_perm {α : Type} (l : List α) (s : State) : (anyOrder l s).Perm l := arrange_perm ..

@[simp] theorem anyOrder_nil {α : Type} (s : State) : anyOrder ([] : List α) s = [] := rfl

@[simp] theorem inAnyOrder_nil {α : Type} (f : α → State → State) (s : State) : inAnyOrder f [] s = s := rfl

/-- What stands alone needs no choice. -/
theorem inAnyOrder_one {α : Type} (f : α → State → State) (x : α) (s : State) :
    inAnyOrder f [x] s = f x (takePicks 1 s) := rfl

/-- Two that fall together come in the one order or the other. -/
theorem inAnyOrder_two {α : Type} (f : α → State → State) (x y : α) (s : State) :
    inAnyOrder f [x, y] s = f y (f x (takePicks 2 s)) ∨ inAnyOrder f [x, y] s = f x (f y (takePicks 2 s)) := by
  have h : Config.pick s.clock.picks % 2 = 0 ∨ Config.pick s.clock.picks % 2 = 1 := by omega
  rcases h with h | h <;> simp [inAnyOrder, anyOrder, arrange, h]

/-- What each of them keeps, whatever its place, all of them keep. -/
theorem inAnyOrder_keeps {α : Type} (f : α → State → State) (P : State → Prop) (l : List α) (s : State)
    (hp : ∀ n, P (takePicks n s)) (hf : ∀ x t, P t → P (f x t)) : P (inAnyOrder f l s) := by
  unfold inAnyOrder
  generalize takePicks l.length s = t, hp l.length = h
  generalize anyOrder l s = k
  induction k generalizing t with
  | nil => exact h
  | cons x k ih => exact ih _ (hf x t h)

/-- R69: a delivery that confirms no crossing of a counter at 2048 + W has no closure before it. -/
theorem closeBeforeDelivery_none (used : PerQuantity Half) (s : State) (h : ∀ b, closesBefore used s b = false) :
    closeBeforeDelivery used s = s := by
  have e : Branch.all.filter (closesBefore used s) = [] := List.filter_eq_nil_iff.mpr fun b _ => by simp [h b]
  simp [closeBeforeDelivery, e]

/-- R69: where one branch's closure is due before a delivery, it alone reaches 2048 + W. -/
theorem closeBeforeDelivery_one (used : PerQuantity Half) (s : State) (b : Branch)
    (h : ∀ c, closesBefore used s c = true ↔ c = b) : closeBeforeDelivery used s = reachTop b (takePicks 1 s) := by
  have e : Branch.all.filter (closesBefore used s) = [b] := by
    have hb : closesBefore used s = fun c => decide (c = b) := by
      funext c; rw [Bool.eq_iff_iff, h c]; simp
    rw [hb]; cases b <;> rfl
  rw [closeBeforeDelivery, e, inAnyOrder_one]

theorem runCrossing_stopped (b : Branch) (c : Candidate) (s : State) (h : (s.ct.tracks.get b).counter = none) :
    runCrossing b c s = startCrossing b c s := by simp [runCrossing, h]

theorem runCrossing_below (b : Branch) (c : Candidate) (s : State) (a : AngleCounter) (h : (s.ct.tracks.get b).counter = some a)
    (ha : a.count < acceptFrom s) : runCrossing b c s = rejectCrossing b s := by
  simp [runCrossing, h, Nat.not_le.mpr ha]

theorem runCrossing_inside (b : Branch) (c : Candidate) (s : State) (a : AngleCounter) (h : (s.ct.tracks.get b).counter = some a)
    (ha : acceptFrom s ≤ a.count) (ht : a.count < topCount s) : runCrossing b c s = acceptCrossing b c s := by
  simp [runCrossing, h, ha, ht]

theorem runCrossing_above (b : Branch) (c : Candidate) (s : State) (a : AngleCounter) (h : (s.ct.tracks.get b).counter = some a)
    (ht : topCount s ≤ a.count) : runCrossing b c s = rejectCrossing b s := by
  simp [runCrossing, h, Nat.not_lt.mpr ht]

theorem reachTop_elsewhere (b : Branch) (s : State) (hc : counterRuns s b = false) (hm : meetsHalt s b = false) :
    reachTop b s = s := by simp [reachTop, hc, hm]

/-- With no other branch at its limit in the same moment, the loss of sync is the branch's own (R62). -/
theorem loseTogether_alone (b : Branch) (s : State) (h : ∀ c, losesWith s b c = false) : loseTogether b s = loseAtLimit b s := by
  have e : Branch.all.filter (losesWith s b) = [] := List.filter_eq_nil_iff.mpr fun c _ => by simp [h c]
  simp [loseTogether, e]

/-! ## The decision reported -/

/-- R93: a BLOCKED branch reports the decision it holds, and b = 0, α = 2048 where it holds none. -/
theorem reportedDecision_blocked (d : BranchDemand) (h : d.state = .blocked) :
    reportedDecision d = some (d.decision.getD ⟨0, 2048⟩) := by
  unfold reportedDecision; rw [if_pos h]; rfl

/-- R93: another branch reports what it holds once its window was opened by a closure, and nothing before. -/
theorem reportedDecision_otherwise (d : BranchDemand) (h : d.state ≠ .blocked) :
    reportedDecision d = if d.window.map (·.first) = some false then d.decision else none := by
  unfold reportedDecision hasClosed; rw [if_neg h]
  rcases d.window with _ | w
  · rfl
  · cases h' : w.first <;> simp [h']

/-! ## Reception -/

@[simp] theorem takeChars_nil (s : State) : takeChars [] s = s := rfl
@[simp] theorem takeChars_cons (c : LineChar) (l : List LineChar) (s : State) :
    takeChars (c :: l) s = takeChars l (takeChar c s) := rfl
theorem takeChars_append (l k : List LineChar) (s : State) : takeChars (l ++ k) s = takeChars k (takeChars l s) := by
  simp [takeChars]

/-- A character that neither ends a frame nor is its length only joins the frame in assembly. -/
theorem takeChar_joins (s : State) (x : Byte) (h : s.sli.receive = .listening)
    (hl : ¬ (s.sli.assembly.length = 2 ∧ 200 < x.toNat))
    (hc : ¬ (s.sli.assembly.length + 1 = 5 + ((s.sli.assembly ++ [x]).getD 2 0).toNat ∧ 5 ≤ s.sli.assembly.length + 1)) :
    takeChar ⟨x, false, true⟩ s = { s with sli := { s.sli with assembly := s.sli.assembly ++ [x] } } := by
  have e : (s.sli.assembly ++ [x]).length = s.sli.assembly.length + 1 := by simp
  have hl' : ¬ ((s.sli.assembly ++ [x]).length = 3 ∧ 200 < x.toNat) := by rw [e]; omega
  have hc' : ¬ ((s.sli.assembly ++ [x]).length = 5 + ((s.sli.assembly ++ [x]).getD 2 0).toNat ∧
      5 ≤ (s.sli.assembly ++ [x]).length) := by rw [e]; exact hc
  have t : takeChar ⟨x, false, true⟩ s = appendChar x s := by simp [takeChar, h]
  rw [t]; unfold appendChar; dsimp only; rw [if_neg hl', if_neg hc']

theorem running_free (f : State → State) (s : State) (h : inReset s = false) : running f s = f s := by simp [running, h]

theorem running_held (f : State → State) (s : State) (h : inReset s = true) : running f s = s := by simp [running, h]

end Sys2Proof.Machine
end

