-- ==== Sys2Proof/Laws/PerInstr.lean ====
section
/-! SUPPORT. The per-command family Shape: a well-formed command that is a request has a payload of a length that the table of
10.10 gives its kind. -/

namespace Sys2Proof.Laws.Shape

open Machine

/-- The payload of a well-formed request command has a length of its kind (10.10, R187). -/
def Statement (i : Instr) : Prop :=
  wellFormed i = true → ∀ k p, requestOf i = some (k, p) → lengthFits k p.length = true

/-- Two bytes for each half word. -/
theorem halfBytes_length (l : List Half) : (halfBytes l).length = 2 * l.length := by
  induction l with
  | nil => rfl
  | cons x l ih => simp [halfBytes, bigEndian] at ih ⊢; omega

theorem powerOn : Statement .powerOn := by
  intro _ k p e; cases e

theorem supplyDip : Statement .supplyDip := by
  intro _ k p e; cases e

theorem resetLine : Statement .resetLine := by
  intro _ k p e; cases e

theorem restart : Statement .restart := by
  intro _ k p e; cases e; rfl

theorem receiverOn : Statement .receiverOn := by
  intro _ k p e; cases e

theorem requestFrame (frame : List Byte) : Statement (.requestFrame frame) := by
  intro _ k p e; cases e

theorem frameAbandoned (chars : List LineChar) : Statement (.frameAbandoned chars) := by
  intro _ k p e; cases e

theorem gapAbandonment (chars : List LineChar) : Statement (.gapAbandonment chars) := by
  intro _ k p e; cases e

theorem characterWhileAnswering (char : LineChar) : Statement (.characterWhileAnswering char) := by
  intro _ k p e; cases e

theorem replyStart : Statement .replyStart := by
  intro _ k p e; cases e

theorem replySent : Statement .replySent := by
  intro _ k p e; cases e

theorem identify : Statement .identify := by
  intro _ k p e; cases e; rfl

theorem readState : Statement .readState := by
  intro _ k p e; cases e; rfl

theorem readEvents : Statement .readEvents := by
  intro _ k p e; cases e; rfl

theorem setAttentionMask (mask : BitVec 32) : Statement (.setAttentionMask mask) := by
  intro _ k p e; cases e; rfl

theorem setSync (mode : Byte) (hysteresis halfWidth : Half) (latency limit : Byte) :
    Statement (.setSync mode hysteresis halfWidth latency limit) := by
  intro _ k p e; cases e; rfl

theorem setLink (tolerance : Half) : Statement (.setLink tolerance) := by
  intro _ k p e; cases e; rfl

theorem selectPrimary (channel : Byte) : Statement (.selectPrimary channel) := by
  intro _ k p e; cases e; rfl

theorem resetChannels : Statement .resetChannels := by
  intro _ k p e; cases e; rfl

theorem setBranch (branch : Byte) (gain : BitVec 24) (trim fallback step : Half) (hold : Byte) (floor : BitVec 32) (rest : List Byte) :
    Statement (.setBranch branch gain trim fallback step hold floor rest) := by
  intro h k p e; cases e
  simp [wellFormed] at h; simp [lengthFits, bigEndian, halfBytes]; omega

theorem setFilters (shares : List Half) : Statement (.setFilters shares) := by
  intro h k p e; cases e
  simp [wellFormed] at h; simp [lengthFits, halfBytes_length, h]

theorem readBranch (branch : Byte) : Statement (.readBranch branch) := by
  intro _ k p e; cases e; rfl

theorem loadTable (entries : List Half) : Statement (.loadTable entries) := by
  intro h k p e; cases e
  simp [wellFormed] at h; simp [lengthFits, halfBytes_length, h]

theorem readTable : Statement .readTable := by
  intro _ k p e; cases e; rfl

theorem setValve (guardTime retries : Byte) (lastRetry : Half) (refusals misfires redundancy trip : Byte) :
    Statement (.setValve guardTime retries lastRetry refusals misfires redundancy trip) := by
  intro _ k p e; cases e; rfl

theorem mapGroup (group channel : Byte) : Statement (.mapGroup group channel) := by
  intro _ k p e; cases e; rfl

theorem readValvesChannelReport : Statement .readValvesChannelReport := by
  intro _ k p e; cases e; rfl

theorem readValvesGroupReport : Statement .readValvesGroupReport := by
  intro _ k p e; cases e; rfl

theorem resetGroup (group : Byte) : Statement (.resetGroup group) := by
  intro _ k p e; cases e; rfl

theorem enable : Statement .enable := by
  intro _ k p e; cases e; rfl

theorem disable : Statement .disable := by
  intro _ k p e; cases e; rfl

theorem block (branch : Byte) : Statement (.block branch) := by
  intro _ k p e; cases e; rfl

theorem unblock (branch : Byte) : Statement (.unblock branch) := by
  intro _ k p e; cases e; rfl

theorem armPreset (ab bc ca : Half) (closures : Byte) : Statement (.armPreset ab bc ca closures) := by
  intro _ k p e; cases e; rfl

theorem cancelPreset : Statement .cancelPreset := by
  intro _ k p e; cases e; rfl

theorem readHistory (fromSeq : Index) (max : Byte) : Statement (.readHistory fromSeq max) := by
  intro _ k p e; cases e; rfl

theorem setCapture (triggers post : Half) : Statement (.setCapture triggers post) := by
  intro _ k p e; cases e; rfl

theorem triggerCapture : Statement .triggerCapture := by
  intro _ k p e; cases e; rfl

theorem releaseCapture : Statement .releaseCapture := by
  intro _ k p e; cases e; rfl

theorem readCountersLink (clear : Byte) : Statement (.readCountersLink clear) := by
  intro _ k p e; cases e; rfl

theorem readCountersValve (clear : Byte) : Statement (.readCountersValve clear) := by
  intro _ k p e; cases e; rfl

theorem readCountersSupervisory (clear : Byte) : Statement (.readCountersSupervisory clear) := by
  intro _ k p e; cases e; rfl

theorem dataFrame (header : LinkWord) (words : PerQuantity (PerLink LinkWord)) :
    Statement (.dataFrame header words) := by
  intro _ k p e; cases e

theorem checkFrame (header : LinkWord) (words : PerQuantity (PerLink LinkWord)) :
    Statement (.checkFrame header words) := by
  intro _ k p e; cases e

theorem linkLate : Statement .linkLate := by
  intro _ k p e; cases e

theorem measGap : Statement .measGap := by
  intro _ k p e; cases e

theorem linkLost : Statement .linkLost := by
  intro _ k p e; cases e

theorem acquireTimeout : Statement .acquireTimeout := by
  intro _ k p e; cases e

theorem crossingSynthesized (branch : Branch) : Statement (.crossingSynthesized branch) := by
  intro _ k p e; cases e

theorem delayReached (branch : Branch) : Statement (.delayReached branch) := by
  intro _ k p e; cases e

theorem guardExpiry (branch : Branch) : Statement (.guardExpiry branch) := by
  intro _ k p e; cases e

theorem retry (branch : Branch) : Statement (.retry branch) := by
  intro _ k p e; cases e

theorem valveFrameError (channel : ValveChannel) (bytes : List Byte) : Statement (.valveFrameError channel bytes) := by
  intro _ k p e; cases e

theorem fv (channel : ValveChannel) : Statement (.fv channel) := by
  intro _ k p e; cases e

theorem fired (channel : ValveChannel) (tag : BitVec 4) : Statement (.fired channel tag) := by
  intro _ k p e; cases e

theorem refused (channel : ValveChannel) (tag : BitVec 4) (cause : RefusalCause) :
    Statement (.refused channel tag cause) := by
  intro _ k p e; cases e

theorem selfFired (channel : ValveChannel) : Statement (.selfFired channel) := by
  intro _ k p e; cases e

theorem status (channel : ValveChannel) (fields : ValveStatus) : Statement (.status channel fields) := by
  intro _ k p e; cases e

theorem channelSilent (channel : ValveChannel) : Statement (.channelSilent channel) := by
  intro _ k p e; cases e

theorem rawLevelChange (input : PlantInput) (level : Bool) : Statement (.rawLevelChange input level) := by
  intro _ k p e; cases e

theorem plantLineChanged (input : PlantInput) : Statement (.plantLineChanged input) := by
  intro _ k p e; cases e

theorem initialSettlingEnd : Statement .initialSettlingEnd := by
  intro _ k p e; cases e

theorem framingError (data : Byte) (mark : Bool) : Statement (.framingError data mark) := by
  intro _ k p e; cases e

theorem resetLineRelease : Statement .resetLineRelease := by
  intro _ k p e; cases e

theorem supplyRecovery : Statement .supplyRecovery := by
  intro _ k p e; cases e

end Sys2Proof.Laws.Shape
end

