-- ==== Sys2Proof/Laws/Requests.lean ====
section
/-! SUPPORT. What taking a request does, once for every kind: in a receptive unit it is served at once, and the state it leaves is
the owner's, with the reply built. -/

namespace Sys2Proof.Machine

open Safety

/-- A request sent to a receptive unit is served. -/
theorem takeRequest_receptive (k : RequestKind) (n : Nat) (body : State → Response) (s : State) (h : Receptive s) :
    running (takeRequest k n body) s = serve k body s := by
  obtain ⟨h1, h2, h3⟩ := h
  simp [running, h1, takeRequest, h2, h3]

/-- Accepting a frame and building the reply leave what `answered` says. -/
theorem buildReply_acceptFrame (k : RequestKind) (st : Status) (p : List Byte) (s : State) :
    buildReply (kindCode k) st p (acceptFrame s) = answered k st p s := rfl

/-- Where the owner's execution leaves the state `u` apart from the frame's own acceptance, and the configuration has nothing to
say, the request is answered on `u`. -/
theorem serve_answers (k : RequestKind) (body : State → Response) (s u : State) (st : Status) (p : List Byte)
    (h : body (acceptFrame s) = ⟨acceptFrame u, st, p⟩)
    (hc : st ≠ .ok ∨ readsOnly k = true ∨ u.oc.device ≠ .unset ∨ configured u = false) :
    serve k body s = answered k st p u := by
  unfold serve
  rw [h]
  have e : evaluateConfiguration (acceptFrame u) = acceptFrame u ∨ st ≠ .ok ∨ readsOnly k = true := by
    rcases hc with h | h | h | h
    · exact .inr (.inl h)
    · exact .inr (.inr h)
    · exact .inl (evaluateConfiguration_elsewhere _ h)
    · exact .inl (by unfold evaluateConfiguration; rw [if_neg]; rintro ⟨-, a⟩; rw [show configured (acceptFrame u) = configured u from rfl, h] at a; exact absurd a (by decide))
  dsimp only
  split
  · rename_i hs
    rcases e with e | e | e
    · rw [e]; rfl
    · exact absurd hs.1 e
    · simp [e] at hs
  · rfl

/-- A request that is turned away leaves the state as it was, with the reply built. -/
theorem serve_turns_away (k : RequestKind) (body : State → Response) (s : State) (st : Status) (p : List Byte)
    (h : body (acceptFrame s) = turnAway (acceptFrame s) st p) (hst : st ≠ .ok) : serve k body s = answered k st p s :=
  serve_answers k body s s st p h (.inl hst)

/-- The kind a kind's code names is that kind. -/
@[simp] theorem kindOf_kindCode (k : RequestKind) : kindOf (kindCode k) = some k := by cases k <;> rfl

/-- The attention flag and the device state are not touched by accepting a frame. -/
@[simp] theorem attention_acceptFrame (s : State) : attention (acceptFrame s) = attention s := rfl
@[simp] theorem addressable_acceptFrame (s : State) : addressable (acceptFrame s) = addressable s := rfl
@[simp] theorem configured_acceptFrame (s : State) : configured (acceptFrame s) = configured s := rfl

end Sys2Proof.Machine
end

