-- ==== Sys2Proof/Tests/Slice0.lean ====
section
/-! SUPPORT. Tests. First the worked examples of spec/ and words written out bit by bit from its encodings; then, for each check
of WellFormed, a term it refuses; then, for each statement with hypotheses, states and operands that meet them. -/

namespace Sys2Proof.Tests

open Machine Safety

/-! ## Encodings -/

/-- R185: the nine digits 1 to 9 give 0x29B1. -/
theorem test_crc_of_digits : crc16 [0x31, 0x32, 0x33, 0x34, 0x35, 0x36, 0x37, 0x38, 0x39] = 0x29B1 := by decide +kernel

/-- R21, R198: 0x9 in bits 15..12 and the number in bits 7..0; 1001 0000 0000 0101 has four ones, so its parity bit is 1. -/
theorem test_data_header : readHeader ⟨0b1001000000000101, true⟩ = .data 5 := by decide

theorem test_header_parity : readHeader ⟨0b1001000000000101, false⟩ = .error := by decide

/-- R32, R198: 0x6 and the block index in bits 4..0; 0110 0000 0001 1111 has seven ones. -/
theorem test_check_header : readHeader ⟨0b0110000000011111, false⟩ = .check 31 := by decide

/-- R198: bits 11..8 are not 0 (five ones); bit 5 of a check header is not 0 (three ones). -/
theorem test_header_reserved_bits :
    readHeader ⟨0b1001000100001001, false⟩ = .error ∧ readHeader ⟨0b0110000000100000, false⟩ = .error := by decide

/-- 10.11: FIRE is kind 0x1 with the tag below it, then the frame check (0x15 gives 0x6B, by hand). -/
theorem test_fire_frame : fireFrame 5 = [0x15, 0x6B] := by decide

/-- 10.11: kinds 0x2 to 0x6; STATUS 1010 0001 is cooling ok, no warning, gate supply ok, one failed level. -/
theorem test_indications :
    readIndication [0x20, 0xE0] = some .fv ∧ readIndication [0x35, 0x8B] = some (.fired 5) ∧
      readIndication [0x45, 0x01, 0x1D] = some (.refused 5 .gateSupply) ∧ readIndication [0x50, 0xB7] = some .selfFired ∧
      readIndication [0x60, 0xA1, 0x9B] = some (.status ⟨true, false, 1, true⟩) := by decide +kernel

/-- R197, R182: SET_LINK to unit 5 with tolerance 0x7FFF: address, kind 0x11, length 2, payload, CRC. -/
theorem test_request_bytes : requestBytes 5 0x11 [0x7F, 0xFF] = [0x05, 0x11, 0x02, 0x7F, 0xFF, 0x37, 0xBF] := by decide +kernel

/-- The table of spec/opcode_table.json gives no row any bits. -/
theorem test_no_row_has_bits : decodeTableWord 16 0x9005 = none := by decide +kernel

/-! ## Worked examples of spec/ -/

/-- The table of chapter 5.3's worked conversions; an entry not given there repeats its neighbour. -/
def idealTable : List Nat :=
  [2048] ++ List.replicate 15 1830 ++ List.replicate 15 1472 ++ [1305, 1295] ++ List.replicate 15 1286 ++
    List.replicate 15 1154 ++ [1032, 1024]

theorem test_conversions :
    [0, 1, 1024, 2048, 2064, 2080, 4095].map (convert (some idealTable)) = [2048, 2045, 1472, 1295, 1293, 1290, 1024] := by
  decide

/-- 5.2: the first faults of the refused tables, cut short. -/
theorem test_table_faults :
    firstFault [2048, 2100, 1500, 1510] = some (1, .outOfRange) ∧ firstFault [2048, 1500, 1510] = some (2, .increasing) ∧
      firstFault idealTable = none := by decide

/-- 4.10 and 4.5's two demands. -/
theorem test_demands :
    demandOf 2097152 ⟨1536000000, 192000000, 96, 0, none, false, false⟩ = 1024 ∧
      demandOf 1024 ⟨96000000, 60000000, 96, 0, none, false, false⟩ = 3 := by decide

/-- 3.5: the re-phasing at an accepted closure, from its confirming frame 1002. -/
def rephased : State := { State.reset with slr := { SampleLink.reset with frameIndex := 1002 } }

theorem test_rephase : startCount rephased 1536 ⟨999, 6⟩ = 96 := by decide

theorem test_intervals : distance ⟨904, 2⟩ ⟨999, 6⟩ = 1524 ∧ distance ⟨1000, 6⟩ ⟨1097, 4⟩ = 1550 := by decide

/-- 3.5: the period filter, and its first row in the re-phasing example. -/
theorem test_period_filter :
    updatePeriod 1536 1536 1550 = 1538 ∧ updatePeriod 1536 1538 1516 = 1535 ∧ updatePeriod 1536 1660 1700 = 1664 ∧
      updatePeriod 1536 1536 1524 = 1535 := by decide

/-- 3.2: a candidate is formed at 1001 with fraction 6, stays pending at 450 and is confirmed at 700. -/
theorem test_candidate :
    candidateAt { Track.reset with previous := some (BitVec.ofInt 16 (-120)) } 1001 200 = some ⟨.rising, ⟨1000, 6⟩⟩ ∧
      confirms 512 ⟨.rising, ⟨1000, 6⟩⟩ 450 = false ∧ drops ⟨.rising, ⟨1000, 6⟩⟩ 450 = false ∧
      confirms 512 ⟨.rising, ⟨1000, 6⟩⟩ 700 = true ∧ drops ⟨.rising, ⟨1000, 6⟩⟩ (-30) = true := by decide

/-- 3.3: acquisition in AUTO_THREE: no lock at crossings 5 and 6. -/
theorem test_acquisition_intervals :
    autoFinding { Progress.empty with intervals := [1480, 1560, 1530, 1538] } = none ∧
      autoFinding { Progress.empty with intervals := [1560, 1530, 1538, 1541] } = none ∧
      autoFinding { Progress.empty with intervals := [1530, 1538, 1541, 1535] } = some .hz50 := by decide

/-- 3.3: offsets of crossings from the VAB crossing at 0, in sixteenths. -/
def offsets (bc1 bc2 ca1 ca2 : Nat) : Progress :=
  let at_ (x : Nat) : Position := ⟨BitVec.ofNat 32 (x / 16), x % 16⟩
  ⟨7, 0, [1530, 1538, 1541, 1535], some ⟨0, 0⟩, [at_ bc1, at_ bc2], [at_ ca1, at_ ca2]⟩

theorem test_phase_check :
    lockFinding .autoThree (offsets 1020 1031 509 498) = .lock .hz50 ∧
      lockFinding .autoThree (offsets 515 520 1019 1030) = .phaseOrder ∧
      lockFinding .autoThree (offsets 1020 760 509 498) = .nothing := by decide

/-- 4.11: branch BC, b_prev 2000, Δ = 64, hold limit 3, B_fb = 1500. -/
def bc (state : BranchState) (held valid previous : Nat) : BranchDemand :=
  { BranchDemand.reset with
    settings := ⟨1, 0, 1500, 64, 3, 0⟩, state := state, heldClosures := held, validClosures := valid
    previous := some previous }

theorem test_hold_and_fallback :
    nextMove (bc .track 0 0 2000) .valid 2040 = ⟨.track, 0, 0, none, 2040, false, true⟩ ∧
      nextMove (bc .track 0 0 2040) .heldWords 0 = ⟨.hold, 1, 0, none, 2040, false, false⟩ ∧
      nextMove (bc .hold 1 0 2040) .valid 2200 = ⟨.track, 0, 0, none, 2104, false, true⟩ ∧
      nextMove (bc .hold 2 0 2104) .synth 0 = ⟨.fallback, 0, 0, none, 1500, true, false⟩ := by decide

theorem test_return_from_fallback :
    nextMove (bc .fallback 0 0 1500) .valid 2150 = ⟨.fallback, 0, 1, none, 1500, false, false⟩ ∧
      nextMove (bc .fallback 0 1 1500) .valid 2180 = ⟨.track, 0, 0, none, 1564, false, true⟩ := by decide

/-- 4.12: the third and the fourth closure under a preset of 3000. -/
theorem test_preset_closures :
    nextMove { bc .preset 0 0 3000 with preset := some ⟨1, 3000⟩ } .lowVoltage 0 =
        ⟨.preset, 0, 0, some ⟨0, 3000⟩, 3000, false, false⟩ ∧
      nextMove { bc .preset 0 0 3000 with preset := some ⟨0, 3000⟩ } .valid 2800 = ⟨.track, 0, 0, none, 2936, false, true⟩ ∧
      nextMove { bc .preset 0 0 3000 with preset := some ⟨0, 3000⟩ } .measForced 0 =
        ⟨.fallback, 0, 0, none, 1500, true, false⟩ := by decide

/-! ## States for tests -/

/-- The state after a command, or the state before it. -/
def after (c : Instr) (s : State) : State :=
  match exec c s with
  | .next t => t
  | .fault _ | .refused _ => s

/-- The status of the reply that stands built. -/
def replied (s : State) : Option Status := s.sli.reply.map (·.status)

/-- A unit whose receiver is on. -/
def awake : State := { State.reset with sli := { State.reset.sli with receive := .mute } }

/-- Every branch has a gain. -/
def gained : DemandUnit := { DemandUnit.reset with branches := .fill { BranchDemand.reset with settings := ⟨2097152, 0, 1500, 64, 3, 1000⟩ } }

/-- Configured, in READY. -/
def ready : State :=
  { awake with oc := { OperatingControl.reset with device := .ready }, table := some idealTable, bdu := gained }

/-- Configured, in ACQUIRE. -/
def acquiring : State := { ready with oc := { OperatingControl.reset with device := .acquire } }

/-- The demand items of a branch in TRACK. -/
def tracking : BranchDemand :=
  { BranchDemand.reset with
    settings := ⟨2097152, 0, 1500, 64, 3, 1000⟩, state := .track, previous := some 2000, decision := some ⟨2080, 1290⟩
    window := some ⟨0, 0, 0, 0, none, false, false⟩ }

/-- The tracking items of a branch in a POS half-cycle at a count. -/
def counting (n : Nat) : Track :=
  { Track.reset with counter := some ⟨n, 0⟩, period := some 1536, polarity := some .pos, sync := .inSync }

/-- In RUN at 50 Hz: three branches in TRACK, AB-F ready, AB's delay armed at 1290, tag 5 next on V0; the retry example of 6.5. -/
def running : State :=
  { ready with
    oc := ⟨.run, .clear, false, false, some .hz50⟩
    slr := { SampleLink.reset with link := .flowing, expected := some 7, gapRunning := true, frameIndex := 100 }
    ct := ⟨.reset, some .hz50, .empty, .fill (counting 1200)⟩
    bdu := { DemandUnit.reset with branches := .fill tracking }
    vlc := { ValveControl.reset with
      groups := ValveControl.reset.groups.set .abF { GroupState.reset with ready := true }
      channels := ValveControl.reset.channels.set .v0 { ChannelState.reset with nextTag := 5 }
      firing := ValveControl.reset.firing.set .ab ⟨some 1290, none, none⟩ } }

/-- Halted by a sync loss. -/
def halted : State := { ready with oc := ⟨.halted, ⟨.syncLost, some .ab, none, none, some 9⟩, true, true, some .hz50⟩ }

/-! ## One command each -/

/-- 6.5: at 1290 FIRE(5) goes out and the guard ends at 1322. -/
theorem test_delay_reached :
    ((after (.delayReached .ab) running).vlc.firing.get .ab).transaction = some ⟨.abF, 5, 1, .waiting, 1322, 32, 2, 1920⟩ ∧
      ((after (.delayReached .ab) running).vlc.channels.get .v0).sent = some [0x15, 0x6B] := by decide

/-- The example's transaction, in a phase with some attempts made. -/
def firing (phase : Phase) (attempts guardEnd : Nat) : State :=
  { running with vlc := { running.vlc with
      firing := running.vlc.firing.set .ab ⟨none, none, some ⟨.abF, 5, attempts, phase, guardEnd, 32, 2, 1920⟩⟩ } }

theorem test_retry :
    ((after (.retry .ab) (firing .retryGap 1 1322)).vlc.firing.get .ab).transaction =
      some ⟨.abF, 5, 2, .waiting, 1362, 32, 2, 1920⟩ := by decide

theorem test_misfire :
    ((after (.guardExpiry .ab) (firing .waiting 3 1402)).vlc.firing.get .ab).outcome = some ⟨.misfire, some 3⟩ ∧
      ((after (.guardExpiry .ab) (firing .waiting 3 1402)).sli.events.get .misfire).count = 1 := by decide

theorem test_fired_closes :
    ((after (.fired .v0 5) (firing .waiting 2 1362)).vlc.firing.get .ab).outcome = some ⟨.fired, some 2⟩ := by decide

/-- 6.5: an answer with no transaction open is a stray. -/
theorem test_fired_strays :
    ((after (.fired .v0 5) running).vlc.groups.get .abF).counters.strays = 1 := by decide

/-- 6.4: FV of the other group at 1200 is a mismatch. -/
theorem test_polarity_mismatch :
    ((after (.fv .v1) running).vlc.groups.get .abR).counters.polarityMismatches = 1 ∧
      ((after (.fv .v1) running).vlc.groups.get .abR).ready = false := by decide

/-- 7.7: cooling lost with trip_on_block yes halts the device and requests a trip. -/
theorem test_cooling_lost :
    (after (.status .v2 ⟨false, false, 0, true⟩) running).oc.halt = ⟨.valveFailed, some .bc, some .bcF, some .cooling, some 100⟩ ∧
      (after (.status .v2 ⟨false, false, 0, true⟩) running).oc.tripRequest = true := by decide

/-- 7.6: a group moves only while its branch is BLOCKED, and not onto a channel another group holds. -/
theorem test_map_group :
    replied (after (.mapGroup 0 6) running) = some .refusedState ∧
      replied (after (.mapGroup 1 0) running) = some .refusedConflict := by decide

theorem test_block_in_run :
    ((after (.block 0) running).bdu.branches.get .ab).state = .blocked ∧
      ((after (.block 0) running).bdu.branches.get .ab).decision = some ⟨0, 2048⟩ ∧
      (after (.block 0) running).oc.fallbackActive = true := by decide

/-- R61, 3.5: a synthesised closure leaves the counter at W and flips the polarity. -/
theorem test_synthesised_closure :
    ((after (.crossingSynthesized .bc) running).ct.tracks.get .bc).counter = some ⟨192, 0⟩ ∧
      ((after (.crossingSynthesized .bc) running).ct.tracks.get .bc).polarity = some .neg := by decide

/-- R3, R10: ENABLE in READY, DISABLE in HALTED. -/
theorem test_enable_disable :
    (after .enable ready).oc.device = .acquire ∧ replied (after .enable running) = some .refusedState ∧
      (after .disable halted).oc = ⟨.ready, .clear, false, true, none⟩ := by decide

/-- R52: the time limit halts without a trip. -/
theorem test_acquire_timeout :
    (after .acquireTimeout acquiring).oc.halt.cause = .acquireTimeout ∧
      (after .acquireTimeout acquiring).oc.tripRequest = false := by decide

/-- R36: LINK_LATE raises its event and LINK_LOST makes the measurement absent. -/
theorem test_link_lost :
    measurementCondition (after .linkLost running).slr = .absent ∧
      ((after .linkLost running).sli.events.get .linkLate).count = 1 := by decide

/-- A word with good parity. -/
def word (x : Half) : LinkWord := ⟨x, !((List.range 16).foldl (fun acc i => acc ^^ x.getLsbD i) false)⟩

/-- 2.5's first frame: channel A's word is used, and the runs grow by an agreement. -/
theorem test_word_selection :
    let t := after (.dataFrame (word 0x9007) (PerQuantity.fill ⟨word 1200, word 1250⟩)) running
    (t.slr.quantities.get .ia).lastUsed = 1200 ∧ (t.slr.quantities.get .ia).agreementRun = 1 ∧ t.slr.expected = some 8 := by
  decide +kernel

/-- 2.6: the fourth failed block makes channel A FAILED and B the primary. -/
def damaged : State :=
  { running with slr := { running.slr with
      block := ⟨some 14, 8, false, .fill ⟨1, 0⟩⟩, chains := ⟨⟨.suspect, 3⟩, ⟨.good, 0⟩⟩ } }

theorem test_block_check :
    (after (.checkFrame (word 0x600E) (PerQuantity.fill ⟨word 0, word 0⟩)) damaged).slr.primary = .b ∧
      (after (.checkFrame (word 0x600E) (PerQuantity.fill ⟨word 0, word 0⟩)) damaged).slr.chains = ⟨⟨.failed, 4⟩, ⟨.good, 0⟩⟩ := by
  decide

/-- 8.9: a breaker close in RUN consumes the latch and brings AB into PRESET. -/
def energising : State :=
  { running with
    pins := { running.pins with raw := running.pins.raw.set .furnaceBreaker true }
    pli := { PlantInterface.reset with settling := false, latch := some ⟨⟨3000, 2800, 2900⟩, 3⟩ } }

theorem test_preset_applied :
    ((after (.plantLineChanged .furnaceBreaker) energising).bdu.branches.get .ab).preset = some ⟨3, 3000⟩ ∧
      (after (.plantLineChanged .furnaceBreaker) energising).pli.latch = none := by decide

/-- R195: a supply dip counts, and a power-on sets the count to 0. -/
theorem test_reset_count :
    (after .supplyDip awake).sli.resetCount = 1 ∧ (after .supplyDip awake).sli.resetCause = .supplyDip ∧
      (after .powerOn (after .supplyDip awake)).sli.resetCount = 0 := by decide

/-- R187: the request of test_request_bytes, sent to unit 1, sets the tolerance and is answered. -/
theorem test_request_frame :
    (after (.requestFrame (requestBytes 1 0x11 [0x7F, 0xFF])) awake).slr.tolerance = 32767 ∧
      replied (after (.requestFrame (requestBytes 1 0x11 [0x80, 0x00])) awake) = some .refusedRange ∧
      replied (after (.requestFrame (requestBytes 1 0x05 [])) awake) = some .unknownKind := by decide +kernel

/-- R91 and R2: the third branch's settings complete the configuration. -/
theorem test_configuration_completes :
    let s := { ready with oc := OperatingControl.reset, bdu := { gained with branches := gained.branches.set .ca .reset } }
    (after (.setBranch 2 1 0 0 1 1 0 []) s).oc.device = .ready ∧
      replied (after (.setBranch 2 0 0 0 1 1 0 []) s) = some .refusedRange := by decide

/-! ## WellFormed refuses -/

theorem test_wf_frame_length : wellFormed (.requestFrame [1, 1, 2, 0, 0]) = false := by decide
theorem test_wf_frame_too_long : wellFormed (.requestFrame ([1, 1, 201] ++ List.replicate 203 0)) = false := by decide
theorem test_wf_abandoned_unmarked : wellFormed (.frameAbandoned [⟨1, false, true⟩, ⟨1, true, true⟩]) = false := by decide
theorem test_wf_abandoned_open : wellFormed (.frameAbandoned [⟨1, true, true⟩, ⟨1, false, true⟩]) = false := by decide
theorem test_wf_gap_ended : wellFormed (.gapAbandonment [⟨1, true, true⟩, ⟨1, false, false⟩]) = false := by decide
theorem test_wf_set_branch : wellFormed (.setBranch 0 1 0 0 1 1 0 (List.replicate 186 0)) = false := by decide +kernel
theorem test_wf_set_filters : wellFormed (.setFilters (List.replicate 11 0)) = false := by decide
theorem test_wf_load_table : wellFormed (.loadTable (List.replicate 64 2048)) = false := by decide
theorem test_wf_data_frame : wellFormed (.dataFrame (word 0x6001) (PerQuantity.fill ⟨word 0, word 0⟩)) = false := by decide
theorem test_wf_check_frame : wellFormed (.checkFrame (word 0x9001) (PerQuantity.fill ⟨word 0, word 0⟩)) = false := by decide
theorem test_wf_valve_frame : wellFormed (.valveFrameError .v0 [0x20, 0xE0]) = false := by decide

/-! ## The hypotheses of the statements are met

Each theorem is named after its statement and shows, for every clause, a state and operands that meet all its hypotheses, at a
bound of the clause's range where it has one. -/

theorem awake_receptive : Receptive awake := ⟨rfl, rfl, rfl⟩
theorem ready_receptive : Receptive ready := ⟨rfl, rfl, rfl⟩
theorem acquiring_receptive : Receptive acquiring := ⟨rfl, rfl, rfl⟩
theorem running_receptive : Receptive running := ⟨rfl, rfl, rfl⟩
theorem halted_receptive : Receptive halted := ⟨rfl, rfl, rfl⟩
theorem running_map_injective : MapInjective running := by intro g h; cases g <;> cases h <;> decide

/-- READY with the ranges of settled requests open: receptive, outside UNSET. -/
theorem ready_settled : Receptive ready ∧ (ready.oc.device ≠ .unset ∨ configured ready = false) :=
  ⟨ready_receptive, .inl (by decide)⟩

theorem running_settled : Receptive running ∧ (running.oc.device ≠ .unset ∨ configured running = false) :=
  ⟨running_receptive, .inl (by decide)⟩

/-- A reply that waits to be sent. -/
def answering (kind : Byte) (count : Nat) : State :=
  { awake with sli := { awake.sli with
      receive := .answering, resetCount := count, reply := some ⟨1, kind, .ok, false, .unset, []⟩ } }

/-- Held in reset by each of its two causes. -/
def heldByLine : State := { awake with pins := { awake.pins with resetAsserted := true } }
def heldBySupply : State := { awake with pins := { awake.pins with supplyLow := true } }

theorem test_hyp_StepRunsFrontCommand :
    ({ awake with pending := [.identify, .enable] } : State).pending = .identify :: [.enable] := rfl

theorem test_hyp_ResetCauseRecord :
    awake.pins.supplyLow = false ∧ awake.pins.resetAsserted = false ∧ awake.sli.resetCount = 0 ∧
      inReset (answering 0xFF 65535) = false ∧ (answering 0xFF 65535).sli.receive = .answering ∧
      (answering 0xFF 65535).sli.reply = some ⟨1, 0xFF, .ok, false, .unset, []⟩ ∧
      (answering 0xFF 65535).sli.resetCount ≤ 65535 ∧ Receptive awake :=
  ⟨rfl, rfl, rfl, rfl, rfl, rfl, by decide, awake_receptive⟩

theorem test_hyp_ResetsLeaveResetValues :
    awake.pins.supplyLow = false ∧ awake.pins.resetAsserted = false ∧ inReset (answering 0xFF 0) = false ∧
      (answering 0xFF 0).sli.receive = .answering ∧ (answering 0xFF 0).sli.reply = some ⟨1, 0xFF, .ok, false, .unset, []⟩ := by
  decide

theorem test_hyp_ReleaseLeavesResetValues : heldByLine.pins.resetAsserted = true ∧ heldBySupply.pins.supplyLow = true := by decide

theorem test_hyp_HeldDeviceStandsStill :
    inReset heldByLine = true ∧ inReset heldBySupply = true ∧ heldByLine.pending = [] ∧ awake.pending = [] ∧
      Instr.identify ≠ .powerOn ∧ Instr.identify ≠ .supplyDip ∧ Instr.identify ≠ .resetLine ∧
      Instr.identify ≠ .resetLineRelease ∧ Instr.identify ≠ .supplyRecovery ∧ ∀ i l, Instr.identify ≠ .rawLevelChange i l := by
  simp [inReset, heldByLine, heldBySupply, awake, State.reset]

theorem test_hyp_RequestFrameIsItsRequest :
    addressable awake = true ∧ wellFormed (.setBranch 0 1 0 0 1 1 0 (List.replicate 185 0)) = true ∧
      (requestOf (.setBranch 0 1 0 0 1 1 0 (List.replicate 185 0))).map (·.2.length) = some 200 ∧
      wellFormed .identify = true ∧ requestOf .identify = some (.identify, []) := by decide +kernel

theorem test_hyp_DamagedFramesAreAbandoned :
    inReset awake = false ∧ awake.sli.receive = .mute ∧ takesAddress awake 1 = true ∧ takesAddress awake 127 = true ∧
      (List.replicate 200 (0 : Byte)).length ≤ 200 ∧ ([0, 0] : List Byte) ≠ crcBytes [1, 1, 0] ∧ 200 < (201 : Byte).toNat ∧
      ({ awake with sli := { awake.sli with receive := .listening, assembly := [1] } } : State).sli.receive = .listening := by
  decide +kernel

theorem test_hyp_SliRefusesUnknownAndBadLength :
    Receptive awake ∧ kindOf 0x05 = none ∧ kindOf 0x01 = some .identify ∧ lengthFits .identify 1 = false ∧
      kindOf 0x20 = some .setBranch ∧ lengthFits .setBranch 14 = false ∧ (List.replicate 200 (0 : Byte)).length ≤ 200 :=
  ⟨awake_receptive, by decide +kernel⟩

theorem test_hyp_BroadcastsExecutedOrIgnored :
    inReset running = false ∧ running.sli.receive = .mute ∧ ([] : List Byte).length ≤ 200 := by decide

theorem test_hyp_ReceiverMoves :
    inReset State.reset = false ∧ State.reset.sli.receive = .off ∧ State.reset.pli.settling = true ∧ State.reset.oc.device ≠ .run ∧
      ({ State.reset with pli := { State.reset.pli with settling := false } } : State).pli.settling = false ∧
      awake.sli.receive = .mute ∧ inReset (answering 0x81 0) = false ∧ (answering 0x81 0).sli.receive = .answering ∧
      (answering 0x81 0).sli.reply = some ⟨1, 0x81, .ok, false, .unset, []⟩ ∧ (0x81 : Byte) ≠ 0xFF ∧
      (⟨1, 0xFF, .badLength, false, .unset, []⟩ : Reply).status ≠ .ok := by decide

theorem test_hyp_IdentifyReply : Receptive awake := awake_receptive

theorem test_hyp_ReadTableReply : Receptive awake ∧ awake.table = none ∧ Receptive ready ∧ ready.table = some idealTable :=
  ⟨awake_receptive, rfl, ready_receptive, rfl⟩

/-- A closure record of a sequence number. -/
def record (n : Nat) : ClosureRecord := { closureRecord .ab .accepted .pos BranchDemand.reset awake with seq := BitVec.ofNat 32 n }

theorem test_hyp_ReadsChangeNothing :
    Receptive awake ∧ 2 < (3 : Byte).toNat ∧
      RingOrdered { awake with hr := { History.reset with ring := [record 5, record 6], nextSeq := 7 } } := by
  refine ⟨awake_receptive, by decide, by decide, ?_⟩
  intro i r h
  match i, h with
  | 0, h => cases h; decide
  | 1, h => cases h; decide
  | n + 2, h => simp at h

theorem test_hyp_ReportsThatClear : Receptive running ∧ 1 < (2 : Byte).toNat := ⟨running_receptive, by decide⟩

theorem test_hyp_SetLinkReplacesTolerance :
    Receptive ready ∧ (ready.oc.device ≠ .unset ∨ configured ready = false) ∧ (32767 : Half).toNat ≤ 32767 ∧
      ({ SampleLink.reset with tolerance := 0 } : SampleLink).tolerance = 0 := ⟨ready_receptive, .inl (by decide), by decide, rfl⟩

theorem test_hyp_ChannelRequests :
    Receptive running ∧ (running.oc.device ≠ .unset ∨ configured running = false) ∧
      (running.slr.chains.get .b).status ≠ .failed ∧ Receptive damaged ∧ damaged.oc.device ≠ .unset :=
  ⟨running_receptive, .inl (by decide), by decide, ⟨rfl, rfl, rfl⟩, by decide⟩

theorem test_hyp_SettingsReplacedWholeOrRefused :
    Receptive ready ∧ (ready.oc.device ≠ .unset ∨ configured ready = false) ∧ ready.oc.device = .ready ∧
      Receptive running ∧ (running.oc.device ≠ .unset ∧ running.oc.device ≠ .ready) ∧
      (3 < (4 : Byte).toNat ∧ 16383 < (16384 : Half).toNat) ∧
      ((0 : Byte) = BitVec.ofNat 8 (codeMode .fixed50) ∧ (16383 : Half).toNat ≤ 16383 ∧ 64 ≤ (64 : Half).toNat ∧
        (64 : Half).toNat ≤ 512 ∧ 2 ≤ (16 : Byte).toNat ∧ (16 : Byte).toNat ≤ 16) ∧
      ((List.replicate 185 (0 : Byte)).length ≤ 185 ∧ 1 ≤ (1 : BitVec 24).toNat ∧ -2048 ≤ (0xF800 : Half).toInt ∧
        (0x07FF : Half).toInt ≤ 2047 ∧ (4095 : Half).toNat ≤ 4095 ∧ 1 ≤ (32 : Byte).toNat ∧ (32 : Byte).toNat ≤ 32 ∧
        (1073741824 : BitVec 32).toNat ≤ 1073741824) ∧
      ((List.replicate 12 (4095 : Half)).length = 12 ∧ (∀ x ∈ List.replicate 12 (4095 : Half), x.toNat ≤ 4095) ∧
        ∃ x ∈ ([4096] : List Half), 4095 < x.toNat) ∧ energising.pli.latch ≠ none := by
  refine ⟨ready_receptive, .inl (by decide), rfl, running_receptive, by decide, by decide, by decide, by decide +kernel, ⟨rfl, ?_, ?_⟩,
    by decide⟩
  · intro x h; rw [List.eq_of_mem_replicate h]; decide
  · exact ⟨4096, by simp, by decide⟩

theorem test_hyp_LoadTableAllOrNothing :
    Receptive ready ∧ (List.replicate 65 (1024 : Half)).length = 65 ∧ ready.oc.device = .ready ∧ Receptive running ∧
      (running.oc.device ≠ .unset ∧ running.oc.device ≠ .ready) ∧
      firstFault ((List.replicate 65 (1024 : Half)).map (·.toNat)) = none ∧
      firstFault ((List.replicate 65 (1023 : Half)).map (·.toNat)) = some (0, .outOfRange) :=
  ⟨ready_receptive, rfl, rfl, running_receptive, by decide, by decide +kernel, by decide +kernel⟩

/-- RUN with another capture state and post count. -/
def capturing (c : CaptureState) (post : Nat) : State := { running with hr := { History.reset with capture := c, post := post } }

theorem test_hyp_CaptureRequests :
    Receptive (capturing .free 0) ∧ (capturing .free 0).oc.device ≠ .unset ∧ (capturing .free 0).hr.capture = .free ∧
      (capturing .free 0).hr.post = 0 ∧ (capturing .free 1).hr.post ≠ 0 ∧ (capturing .frozen 1).hr.capture ≠ .free ∧
      (capturing .triggered 1).hr.capture ≠ .free := ⟨⟨rfl, rfl, rfl⟩, by decide⟩

theorem test_hyp_EnableAndRestartAnswered :
    Receptive ready ∧ ready.oc.device = .ready ∧ Receptive running ∧ running.oc.device ≠ .ready ∧ running.oc.device ≠ .unset :=
  ⟨ready_receptive, by decide, running_receptive, by decide⟩

theorem test_hyp_DisableStopsTheDevice :
    Receptive acquiring ∧ acquiring.oc.device = .acquire ∧ Receptive energising ∧ energising.oc.device = .run ∧
      energising.pli.latch ≠ none ∧ Receptive halted ∧ halted.oc.device = .halted ∧ Receptive ready ∧ ready.oc.device = .ready :=
  ⟨acquiring_receptive, rfl, ⟨rfl, rfl, rfl⟩, rfl, by decide, halted_receptive, rfl, ready_receptive, rfl⟩

theorem test_hyp_MapGroupMovesOrRefuses :
    Receptive ready ∧ ready.oc.device ≠ .unset ∧ (Group.abF ≠ .abR ∧ ready.vlc.map.get .abF = .v0) ∧
      (∀ h, h ≠ Group.abF → ready.vlc.map.get h ≠ .v6) ∧ groupRequestOpen ready Group.abF.branch = true ∧
      ready.vlc.map.get .abF ≠ .v6 ∧ (ready.vlc.channels.get .v6).link = .active ∧
      (∀ h, h ≠ Group.abF → ready.vlc.map.get h ≠ .v0) ∧ ready.vlc.map.get .abF = .v0 ∧
      Receptive running ∧ groupRequestOpen running Group.abF.branch = false := by
  refine ⟨ready_receptive, by decide, by decide, ?_, by decide, by decide, by decide, ?_, by decide, running_receptive, by decide⟩
  · intro h; cases h <;> decide
  · intro h; cases h <;> decide

/-- READY with AB blocked by a failed AB-F, whose channel is silent. -/
def failedGroup : State :=
  { ready with
    causes := ready.causes.set .ab ⟨false, true, false, false⟩
    vlc := { ready.vlc with
      groups := ready.vlc.groups.set .abF { GroupState.reset with failure := some .channelSilent }
      channels := ready.vlc.channels.set .v0 { ChannelState.reset with link := .silent } } }

theorem test_hyp_ResetGroupChecksAgain :
    Receptive failedGroup ∧ failedGroup.oc.device ≠ .unset ∧ groupRequestOpen failedGroup Group.abF.branch = true ∧
      (failedGroup.causes.get Group.abF.branch).valve = true ∧ Receptive running ∧
      groupRequestOpen running Group.abF.branch = false := ⟨⟨rfl, rfl, rfl⟩, by decide, by decide, by decide, running_receptive, by decide⟩

/-- RUN with a transaction open on AB. -/
theorem test_hyp_BlockAddsSupervisor :
    Receptive (firing .waiting 1 1322) ∧ (firing .waiting 1 1322).oc.device = .run ∧
      noCauses ((firing .waiting 1 1322).causes.get .ab) = true ∧ ((firing .waiting 1 1322).vlc.firing.get .ab).transaction ≠ none ∧
      (running.vlc.firing.get .ab).transaction = none ∧ energising.pli.latch ≠ none ∧
      Receptive ready ∧ ready.oc.device = .ready ∧ ready.pli.latch = none ∧ acquiring.oc.device = .acquire ∧
      halted.oc.device = .halted := ⟨⟨rfl, rfl, rfl⟩, by decide, by decide, by decide, by decide, by decide, ready_receptive, by decide⟩

/-- RUN with AB blocked by the supervisor alone. -/
def blocked : State := { running with causes := running.causes.set .ab ⟨true, false, false, false⟩ }

theorem test_hyp_UnblockRemovesCauses :
    Receptive failedGroup ∧ failedGroup.oc.device ≠ .unset ∧ branchHasFailed failedGroup .ab = true ∧ Receptive blocked ∧
      branchHasFailed blocked .ab = false ∧ blocked.oc.device = .run ∧ noCauses (blocked.causes.get .ab) = false ∧
      failedGroup.oc.device = .ready ∧ failedGroup.pli.latch = none ∧ (failedGroup.vlc.groups.get .abF).failure ≠ none ∧
      ∀ g, (ready.vlc.groups.get g).failure = none := by
  refine ⟨⟨rfl, rfl, rfl⟩, by decide, by decide, ⟨rfl, rfl, rfl⟩, by decide, by decide, by decide, by decide, by decide, by decide, ?_⟩
  intro g; cases g <;> decide

theorem test_hyp_ArmPresetArms : Receptive acquiring ∧ acquiring.oc.device = .acquire ∧
    (acquiring.pli.inputs.get .furnaceBreaker).debounced = false ∧ (4095 : Half).toNat ≤ 4095 ∧ 1 ≤ (1 : Byte).toNat :=
  ⟨acquiring_receptive, by decide⟩

theorem test_hyp_CancelPresetCancels :
    Receptive energising ∧ energising.oc.device ≠ .unset ∧ energising.pli.latch ≠ none ∧ Receptive running ∧
      running.pli.latch = none := ⟨⟨rfl, rfl, rfl⟩, by decide, by decide, running_receptive, by decide⟩

theorem test_hyp_DiscardedFramesAreCounted :
    inReset running = false ∧ readHeader ⟨0x9005, false⟩ = .error ∧ readHeader (word 0x9087) = .data 0x87 ∧
      running.slr.link = .flowing ∧ running.slr.expected = some 7 ∧ 128 ≤ ((0x87 : Byte) - 7).toNat := by decide

theorem test_hyp_SequentialFrameDelivered :
    inReset running = false ∧ readHeader (word 0x9007) = .data 7 ∧ readHeader (word 0x900A) = .data 10 ∧
      running.slr.link = .flowing ∧ running.slr.expected = some 7 ∧ ((7 : Byte) - 7).toNat ≤ 3 ∧ ((10 : Byte) - 7).toNat ≤ 3 ∧
      running.slr.counters.received < 4294967295 ∧ running.slr.counters.patched + 3 ≤ 4294967295 ∧ ready.oc.device ≠ .run ∧
      ready.oc.device ≠ .acquire := by decide

/-- The link in another state. -/
def linked (s : State) (l : LinkState) : State := { s with slr := { s.slr with link := l } }

theorem test_hyp_ResyncAndNewStart :
    inReset running = false ∧ readHeader (word 0x900B) = .data 11 ∧ readHeader (word 0x9086) = .data 0x86 ∧
      running.slr.expected = some 7 ∧ running.slr.link = .flowing ∧ 4 ≤ ((11 : Byte) - 7).toNat ∧ ((0x86 : Byte) - 7).toNat ≤ 127 ∧
      (linked running .lost).slr.link = .lost ∧ (running.bdu.branches.get .ab).window ≠ none ∧
      awake.slr.link = .silent ∧ awake.oc.device ≠ .acquire ∧ awake.oc.device ≠ .run ∧
      (awake.slr.quantities.get .vab).mismatchRun < 63 := by decide

theorem test_hyp_WordsSelectedAndCompared :
    inReset running = false ∧ readHeader (word 0x9007) = .data 7 ∧ running.slr.link = .flowing ∧ running.slr.expected = some 7 ∧
      parityGood (word 1200) = true ∧ parityGood ⟨1200, (word 1200).parity.not⟩ = false ∧
      (running.slr.chains.get .a).status ≠ .failed ∧ (running.slr.chains.get .b).status ≠ .failed ∧ running.slr.tolerance = 256 ∧
      (256 : Int) < |(word 1457).data.toInt - (word 1200).data.toInt| ∧
      ¬ (256 : Int) < |(word 1456).data.toInt - (word 1200).data.toInt| ∧ (running.slr.quantities.get .ia).mismatchRun ≤ 64 := by
  decide

theorem test_hyp_CheckFrameJudgesTheBlock :
    inReset damaged = false ∧ readHeader (word 0x600E) = .check 14 ∧ ChainsAgree damaged ∧ damaged.slr.block.index = some 14 ∧
      damaged.slr.block.judged = false ∧ damaged.slr.block.received = 8 ∧ running.slr.block.index ≠ some 14 ∧
      (∀ q c, parityGood (((PerQuantity.fill ⟨word 0, word 0⟩ : PerQuantity (PerLink LinkWord)).get q).get c) = true) := by
  refine ⟨by decide, by decide, ?_, by decide, by decide, by decide, by decide, ?_⟩
  · intro c; cases c <;> decide
  · intro q c; cases q <;> cases c <;> decide

/-- The gap counter runs at a count. -/
def gapped (n : Nat) (l : LinkState) : State := { running with slr := { running.slr with gap := n, link := l } }

theorem test_hyp_GapMarks :
    inReset (gapped 2 .flowing) = false ∧ (gapped 2 .flowing).slr.gapRunning = true ∧ (gapped 2 .flowing).slr.gap < 3 ∧
      (gapped 2 .flowing).slr.link = .flowing ∧ 3 ≤ (gapped 11 .late).slr.gap ∧ (gapped 11 .late).slr.gap < 12 ∧
      12 ≤ (gapped 47 .late).slr.gap ∧ (gapped 47 .late).slr.gap < 48 ∧ (gapped 47 .late).slr.link = .late ∧
      ({ gapped 47 .late with hr := { History.reset with triggers := 16 } } : State).hr.triggers.getLsbD 4 = true ∧
      (gapped 47 .late).hr.capture = .free ∧ 1 ≤ (gapped 47 .late).hr.post := by decide

theorem test_hyp_TimeoutHaltsAcquisition :
    inReset acquiring = false ∧ acquiring.oc.device = .acquire ∧ running.oc.device ≠ .acquire := by decide

theorem test_hyp_CrossingIsSynthesized :
    inReset running = false ∧ running.oc.device = .run ∧ (running.ct.tracks.get .bc).counter = some ⟨1200, 0⟩ ∧
      (running.ct.tracks.get .bc).polarity = some .pos ∧ (running.vlc.firing.get .bc).armed = none ∧
      (running.vlc.firing.get .bc).transaction = none ∧ running.hr.capture = .free ∧ running.hr.triggers = 0 ∧
      wrapsNow running.hr = false ∧ (running.ct.tracks.get .bc).synthesisedRun + 1 < running.ct.settings.limit := by decide

/-- One synthesised closure below the limit of 8. -/
def losingSync : State :=
  { running with ct := { running.ct with tracks := running.ct.tracks.set .bc { counting 1200 with synthesisedRun := 7 } } }

theorem test_hyp_SyncLossHalts :
    inReset losingSync = false ∧ losingSync.oc.device = .run ∧ (losingSync.ct.tracks.get .bc).counter = some ⟨1200, 0⟩ ∧
      (losingSync.vlc.firing.get .bc).armed = none ∧ (losingSync.vlc.firing.get .bc).transaction = none ∧
      losingSync.hr.capture = .free ∧ losingSync.hr.triggers = 0 ∧
      losingSync.ct.settings.limit ≤ (losingSync.ct.tracks.get .bc).synthesisedRun + 1 ∧
      (∀ c, c ≠ Branch.bc → ∀ y, (losingSync.ct.tracks.get c).counter = some y →
        y.count < 2048 + losingSync.ct.settings.halfWidth ∨
          (losingSync.ct.tracks.get c).synthesisedRun + 1 < losingSync.ct.settings.limit) := by
  refine ⟨by decide, by decide, by decide, by decide, by decide, by decide, by decide, by decide, ?_⟩
  intro c h y hy
  right
  cases c
  · decide
  · exact absurd rfl h
  · decide

theorem test_hyp_PeriodMovesAnEighth :
    128 ≤ 128 ∧ ((1536 : Nat) : Int) - 128 ≤ 1664 ∧ (1664 : Int) ≤ ((1536 : Nat) : Int) + 128 ∧
      8 * ((1664 : Int) - ((1660 : Nat) : Int)) ≤ 1688 - ((1660 : Nat) : Int) + 4 ∧
      (1688 : Int) - ((1660 : Nat) : Int) + 4 < 8 * ((1664 : Int) - ((1660 : Nat) : Int)) + 8 := by decide

theorem test_hyp_ValveErrorsAndSelfFired :
    inReset running = false ∧ wellFormed (.valveFrameError .v0 [0x20, 0xE1]) = true ∧ MapInjective running ∧
      (∀ g, running.vlc.map.get g ≠ .v6) ∧ running.vlc.map.get .abF = .v0 ∧ running.hr.triggers.getLsbD 2 = false := by
  refine ⟨by decide, by decide +kernel, running_map_injective, ?_, by decide, by decide⟩
  intro g; cases g <;> decide

/-- AB's counter at a count. -/
def at_ (n : Nat) : State := { running with ct := { running.ct with tracks := running.ct.tracks.set .ab (counting n) } }

theorem test_hyp_FvMarksReadiness :
    inReset running = false ∧ (∀ g, running.vlc.map.get g ≠ .v6) ∧ running.vlc.map.get .abF = .v0 ∧ MapInjective running ∧
      (ready.ct.tracks.get Group.abF.branch).counter = none ∧ ((at_ 1856).ct.tracks.get .ab).counter = some ⟨1856, 0⟩ ∧
      ((at_ 1856).ct.tracks.get .ab).polarity = some .pos ∧ Group.abF = dueGroup .ab .pos ∧ Group.abR ≠ dueGroup .ab .pos ∧
      2048 - (at_ 1856).ct.settings.halfWidth ≤ 1856 ∧ ((at_ 1855).ct.tracks.get .ab).counter = some ⟨1855, 0⟩ ∧
      1855 < 2048 - (at_ 1855).ct.settings.halfWidth := by
  refine ⟨by decide, ?_, by decide, running_map_injective, by decide, by decide, by decide, by decide, by decide, by decide,
    by decide, by decide⟩
  intro g; cases g <;> decide

theorem test_hyp_DelayReachedOrdersOrSettles :
    inReset running = false ∧ running.oc.device = .run ∧ (running.ct.tracks.get .ab).counter = some ⟨1200, 0⟩ ∧
      (running.ct.tracks.get .ab).polarity = some .pos ∧ (running.vlc.firing.get .ab).armed = some 1290 ∧
      (running.vlc.groups.get (dueGroup .ab .pos)).ready = true ∧ (running.vlc.groups.get (dueGroup .ab .pos)).failure = none ∧
      running.causes.get .ab = .empty ∧ (running.vlc.firing.get .bc).armed = none ∧
      (running.vlc.groups.get (dueGroup .bc .pos)).ready = false := by decide

theorem test_hyp_GuardAndRetry :
    inReset (firing .waiting 2 2240) = false ∧ (firing .waiting 2 2240).oc.device = .run ∧
      ((firing .waiting 2 2240).ct.tracks.get .ab).counter = some ⟨1200, 0⟩ ∧
      ((firing .waiting 2 2240).vlc.firing.get .ab).transaction = some ⟨.abF, 5, 2, .waiting, 2240, 32, 2, 1920⟩ ∧
      2240 ≤ 2048 + (firing .waiting 2 2240).ct.settings.halfWidth ∧ 2 < 1 + 2 ∧ 1 + 2 ≤ 3 ∧
      (running.vlc.groups.get .abF).misfireRun + 1 < running.vlc.settings.misfireLimit ∧
      running.hr.triggers.getLsbD 0 = false ∧ Group.abF.branch = .ab ∧ running.causes.get .ab = .empty ∧
      (running.vlc.groups.get .abF).failure = none ∧ 1912 + 8 ≤ 2048 + running.ct.settings.halfWidth ∧ max 1200 (1912 + 8) ≤ 1920 ∧
      1920 < max 1200 (1913 + 8) := by decide

theorem test_hyp_AnswersCloseOrStray :
    inReset (firing .waiting 1 1322) = false ∧ MapInjective (firing .waiting 1 1322) ∧
      ((firing .waiting 1 1322).vlc.firing.get Group.abF.branch).transaction = some ⟨.abF, 5, 1, .waiting, 1322, 32, 2, 1920⟩ ∧
      (running.vlc.groups.get .abF).refusalRun + 1 < running.vlc.settings.refusalLimit ∧
      ({ running.vlc.settings with refusalLimit := 1 } : ValveSettings).refusalLimit ≤ (running.vlc.groups.get .abF).refusalRun + 1 ∧
      (running.vlc.groups.get .abF).failure = none ∧ (running.vlc.firing.get Group.abF.branch).transaction = none :=
  ⟨by decide, running_map_injective, by decide⟩

theorem test_hyp_StatusIsStoredAndChecked :
    inReset running = false ∧ MapInjective running ∧ (∀ g, running.vlc.map.get g ≠ .v6) ∧ running.vlc.map.get .abF = .v0 ∧
      (running.vlc.groups.get .abF).snapshot ≠ some ⟨true, false, 2, true⟩ ∧ (running.vlc.groups.get .abF).changed = false ∧
      (2 : BitVec 3).toNat ≤ running.vlc.settings.redundancyLimit ∧ running.vlc.settings.redundancyLimit < (3 : BitVec 3).toNat ∧
      (running.vlc.groups.get .abF).failure = none := by
  refine ⟨by decide, running_map_injective, ?_, by decide⟩
  intro g; cases g <;> decide

theorem test_hyp_GroupFailureHaltsOrBlocks :
    inReset running = false ∧ MapInjective running ∧ running.oc.device = .run ∧ (running.vlc.groups.get .abF).failure = none ∧
      running.causes.get Group.abF.branch = .empty ∧ running.vlc.settings.tripOnBlock = true ∧
      ({ running.vlc.settings with tripOnBlock := false } : ValveSettings).tripOnBlock = false :=
  ⟨by decide, running_map_injective, by decide⟩

theorem test_hyp_SilentChannelFailsItsGroup :
    inReset running = false ∧ MapInjective running ∧ (running.vlc.channels.get .v0).link = .active ∧
      (failedGroup.vlc.channels.get .v0).link = .silent ∧ running.vlc.map.get .abF = .v0 ∧
      (running.vlc.groups.get .abF).failure = none ∧ (∀ g, running.vlc.map.get g ≠ .v6) := by
  refine ⟨by decide, running_map_injective, by decide, by decide, by decide, by decide, ?_⟩
  intro g; cases g <;> decide

theorem test_hyp_RawLevelsAndSettling :
    inReset ready = false ∧ ready.pli.settling = true ∧ ready.oc.device ≠ .run := by decide

theorem test_hyp_LevelChangeActs :
    inReset energising = false ∧ energising.pli.settling = false ∧
      (energising.pli.inputs.get .furnaceBreaker).debounced ≠ energising.pins.raw.get .furnaceBreaker ∧
      ready.pli.settling = true ∧ (energising.pli.inputs.get .extBlock).debounced = energising.pins.raw.get .extBlock ∧
      (({ energising with pins := { energising.pins with raw := energising.pins.raw.set .extBlock true } } : State).pli.inputs.get
        .extBlock).debounced ≠ true := by decide

theorem test_hyp_BreakerCloseAppliesPreset :
    inReset energising = false ∧ energising.pli.settling = false ∧ energising.pli.latch = some ⟨⟨3000, 2800, 2900⟩, 3⟩ ∧
      (energising.pli.inputs.get .furnaceBreaker).debounced = false ∧ energising.pins.raw.get .furnaceBreaker = true ∧
      energising.oc.device = .run ∧ ({ energising with oc := acquiring.oc } : State).oc.device ≠ .run := by decide

theorem test_hyp_ConversionInterpolatesAndFalls :
    idealTable.length = 65 ∧ firstFault idealTable = none ∧ 1 ≤ 1 ∧ 4095 ≤ 4095 ∧ 0 ≤ 4095 := by decide

theorem test_hyp_DemandRoundsToNearest : 0 < (⟨1, 1, 1, 0, none, false, false⟩ : Window).energy := by decide

theorem test_hyp_BranchMovesAtClosure :
    (bc .track 0 0 2000).previous = some 2000 ∧ (bc .track 0 0 2000).state = .track ∧ (bc .hold 2 0 2000).state = .hold ∧
      (bc .hold 2 0 2000).settings.holdLimit ≤ (bc .hold 2 0 2000).heldClosures + 1 ∧
      (bc .hold 1 0 2000).heldClosures + 1 < (bc .hold 1 0 2000).settings.holdLimit ∧ (bc .fallback 0 1 1500).validClosures ≠ 0 ∧
      ({ bc .preset 0 0 3000 with preset := some ⟨0, 3000⟩ } : BranchDemand).preset = some ⟨0, 3000⟩ ∧
      (running.bdu.branches.get .ab).state = .track ∧ (running.bdu.branches.get .ab).previous = some 2000 ∧
      (closedDemand running .ab .synthesized).state = .hold ∧
      (closedDemand { running with bdu := { running.bdu with branches := running.bdu.branches.set .ab { tracking with
        window := some ⟨1536000000, 192000000, 96, 0, none, false, false⟩ } } } .ab .accepted).state = .track := by decide

/-! Further clauses of the statements above. -/

theorem test_hyp_RequestFrameIsItsRequest_unaddressable :
    addressable { awake with sli := { awake.sli with address := 0 } } = false ∧
      addressable { awake with sli := { awake.sli with address := 127 } } = false ∧ requestOf .identify ≠ none := by decide

/-- A frame with its address, kind and length, one character of its payload, and the character that breaks it off. -/
def broken (last : LineChar) : List LineChar :=
  [⟨1, true, true⟩, ⟨0x11, false, true⟩, ⟨2, false, true⟩, ⟨9, false, true⟩, last]

theorem test_hyp_DamagedFramesAreAbandoned_last :
    inReset awake = false ∧ awake.sli.receive = .mute ∧ takesAddress awake (1 : Byte) = true ∧
      wellFormed (.frameAbandoned (broken ⟨9, true, false⟩)) = true ∧
      wellFormed (.frameAbandoned (broken ⟨127, true, true⟩)) = true ∧
      wellFormed (.frameAbandoned [⟨1, true, true⟩, ⟨0x11, false, true⟩, ⟨201, false, true⟩]) = true ∧
      takesAddress awake 127 = true ∧ takesAddress awake 2 = false ∧
      (broken ⟨9, true, false⟩).head? = some ⟨1, true, true⟩ ∧
      (broken ⟨9, true, false⟩).getLast? = some ⟨9, true, false⟩ := by decide +kernel

theorem test_hyp_refused_bytes :
    Receptive awake ∧ 1 < (2 : Byte).toNat ∧ 2 < (3 : Byte).toNat ∧ 5 < (6 : Byte).toNat ∧ 7 < (8 : Byte).toNat ∧
      3 < (4 : Byte).toNat ∧ (List.replicate 185 (0 : Byte)).length ≤ 185 := ⟨awake_receptive, by decide +kernel⟩

theorem test_hyp_DisableStopsTheDevice_unset : Receptive awake ∧ awake.oc.device = .unset ∧ configured awake = false :=
  ⟨awake_receptive, rfl, by decide⟩

/-- RUN with AB BLOCKED by the supervisor alone, as every run has it. -/
def quietlyBlocked : State :=
  { running with
    causes := running.causes.set .ab ⟨true, false, false, false⟩
    bdu := { running.bdu with branches := running.bdu.branches.set .ab { tracking with
      state := .blocked, previous := none, decision := some ⟨0, 2048⟩ } }
    vlc := { running.vlc with firing := ValveControl.reset.firing } }

/-- The same, with the channel of AB-F silent. -/
def silentBlocked : State :=
  { quietlyBlocked with vlc := { quietlyBlocked.vlc with
    channels := quietlyBlocked.vlc.channels.set .v0 { ChannelState.reset with link := .silent } } }

theorem test_hyp_ResetGroupChecksAgain_adds :
    Receptive quietlyBlocked ∧ quietlyBlocked.oc.device = .run ∧ groupRequestOpen quietlyBlocked Group.abF.branch = true ∧
      (quietlyBlocked.causes.get Group.abF.branch).valve = false ∧ currentStatus quietlyBlocked .abF = none ∧
      (quietlyBlocked.vlc.channels.get (quietlyBlocked.vlc.map.get .abF)).link ≠ .silent ∧
      Receptive silentBlocked ∧ silentBlocked.oc.device = .run ∧ groupRequestOpen silentBlocked Group.abF.branch = true ∧
      (silentBlocked.causes.get Group.abF.branch).valve = false ∧
      (silentBlocked.vlc.channels.get (silentBlocked.vlc.map.get .abF)).link = .silent ∧
      silentBlocked.vlc.settings.tripOnBlock = true ∧ Receptive ready ∧ groupRequestOpen ready Group.abF.branch = true ∧
      (ready.causes.get Group.abF.branch).valve = false ∧ ready.oc.device ≠ .run :=
  ⟨⟨rfl, rfl, rfl⟩, by decide, by decide, by decide, by decide, by decide, ⟨rfl, rfl, rfl⟩, by decide, by decide, by decide, by decide,
    by decide, ready_receptive, by decide⟩

theorem test_hyp_BlockAddsSupervisor_all :
    Receptive energising ∧ energising.oc.device = .run ∧ energising.pli.latch ≠ none ∧ energising.causes.get .ab = .empty ∧
      Receptive quietlyBlocked ∧ quietlyBlocked.pli.latch = none ∧ quietlyBlocked.causes.get .ab ≠ .empty ∧
      Receptive ready ∧ ready.oc.device ≠ .run := ⟨⟨rfl, rfl, rfl⟩, by decide, by decide, by decide, ⟨rfl, rfl, rfl⟩, by decide, by decide,
    ready_receptive, by decide⟩

theorem test_hyp_UnblockRemovesCauses_all :
    Receptive failedGroup ∧ failedGroup.oc.device ≠ .unset ∧ (failedGroup.vlc.groups.get .abF).failure ≠ none ∧
      Receptive quietlyBlocked ∧ quietlyBlocked.oc.device = .run ∧ (∀ g, (quietlyBlocked.vlc.groups.get g).failure = none) ∧
      quietlyBlocked.causes.get .ab ≠ .empty ∧ Receptive energising ∧ energising.pli.latch ≠ none := by
  refine ⟨⟨rfl, rfl, rfl⟩, by decide, by decide, ⟨rfl, rfl, rfl⟩, by decide, ?_, by decide, ⟨rfl, rfl, rfl⟩, by decide⟩
  intro g; cases g <;> decide

theorem running_expects : Expected running (word 0x9007) := ⟨by decide, .inl rfl, 7, rfl, by decide⟩

theorem test_hyp_SequentialFrameDelivered_held :
    readHeader (word 0x900A) = .data 10 ∧ ((10 : Byte) - 7).toNat ≤ 3 ∧ parityGood (word 5) = true ∧
      running.slr.counters.heldWords.get .ia + 3 ≤ 4294967295 := by decide

/-- The receiver expects the first frame of block 1. -/
def atBlock (index : Option (BitVec 5)) : State :=
  { running with slr := { running.slr with expected := some 8, block := { running.slr.block with index := index } } }

theorem test_hyp_SequentialFrameDelivered_block :
    inReset (atBlock (some 0)) = false ∧ readHeader (word 0x9008) = .data 8 ∧ (atBlock (some 0)).slr.link = .flowing ∧
      (atBlock (some 0)).slr.expected = some 8 ∧ (atBlock (some 0)).slr.block.received ≤ 8 ∧
      (atBlock (some 0)).slr.block.index ≠ some (BitVec.ofNat 5 ((8 : Byte).toNat / 8)) ∧ (8 : Byte).toNat % 8 = 0 ∧
      (atBlock (some 0)).slr.block.judged = false ∧
      (atBlock (some 1)).slr.block.index = some (BitVec.ofNat 5 ((8 : Byte).toNat / 8)) := by decide

/-- Words with the six values 0, of which no voltage has a previous sample to cross from. -/
def still : PerQuantity (PerLink LinkWord) := .fill ⟨word 0, word 0⟩

theorem quiet_of_none {s : State} {w : PerQuantity (PerLink LinkWord)} {b : Branch}
    (h : candidateAfter s b (voltageIn s w b).toInt = none) : Quiet s w b := by
  intro c hc; rw [h] at hc; cases hc

theorem test_hyp_SequentialFrameDelivered_run :
    Expected running (word 0x9007) ∧ running.oc.device = .run ∧ running.ct.nominal = some .hz50 ∧ ∀ b, Quiet running still b :=
  ⟨running_expects, rfl, rfl, fun b => quiet_of_none (by cases b <;> decide)⟩

theorem test_hyp_WordsSelectedAndCompared_counts :
    Expected running (word 0x9007) ∧ running.slr.counters.parityErrors.get .a ≤ 4294967295 ∧
      (∀ q, (running.slr.quantities.get q).mismatchRun ≤ 64) ∧
      (∀ q, (running.slr.quantities.get q).mismatchRun = 64 → (running.slr.quantities.get q).diverged = true) ∧
      (running.sli.events.get .quantityDiverged).count ≤ 255 := by
  refine ⟨running_expects, by decide, fun q => by cases q <;> decide, fun q => by cases q <;> decide, by decide⟩

theorem test_hyp_CheckFrameJudgesTheBlock_counts :
    EventCountsBounded damaged ∧ damaged.slr.counters.channelFailures ≤ 4294967293 ∧
      (after (.checkFrame (word 0x600E) still) damaged).slr.primary ≠ damaged.slr.primary := by
  refine ⟨fun k => by cases k <;> decide, by decide, by decide⟩

/-- ACQUIRE on a flowing link, in a mode. -/
def watching (m : AcquisitionMode) (p : Progress) (t : PerBranch Track) : State :=
  { acquiring with slr := running.slr, ct := { acquiring.ct with settings := { SyncSettings.reset with mode := m }, progress := p, tracks := t } }

/-- A voltage that stood at −500. -/
def low : Track := { Track.reset with previous := some (BitVec.ofInt 16 (-500)) }

/-- VAB, or VBC, at 700, the others at 0. -/
def risingOnAB : PerQuantity (PerLink LinkWord) := still.set .vab ⟨word 700, word 700⟩
def risingOnBC : PerQuantity (PerLink LinkWord) := still.set .vbc ⟨word 700, word 700⟩

/-- The crossing found: 16 · 500 / 1200 is 6 sixteenths after frame 100. -/
def found : Candidate := ⟨.rising, ⟨100, 6⟩⟩

theorem test_hyp_TimeoutHaltsAcquisition_candidates :
    Expected (watching .autoThree .empty (.fill .reset)) (word 0x9007) ∧
      (watching .autoThree .empty (.fill .reset)).oc.device = .acquire ∧
      ∀ b, Quiet (watching .autoThree .empty (.fill .reset)) still b :=
  ⟨⟨by decide, .inl rfl, 7, rfl, by decide⟩, rfl, fun b => quiet_of_none (by cases b <;> decide)⟩

/-- VBC alone about to cross. -/
def watchingBC : State := watching .autoThree .empty ((PerBranch.fill .reset).set .bc low)

theorem test_hyp_TimeoutHaltsAcquisition_others :
    Expected watchingBC (word 0x9007) ∧ watchingBC.oc.device = .acquire ∧ Branch.bc ≠ .ab ∧
      Confirms watchingBC risingOnBC .bc found ∧ ∀ o, o ≠ .bc → Quiet watchingBC risingOnBC o := by
  refine ⟨⟨by decide, .inl rfl, 7, rfl, by decide⟩, rfl, by decide, ⟨by decide +kernel, .inl ⟨by decide, by decide +kernel⟩⟩, ?_⟩
  intro o h
  cases o
  · exact quiet_of_none (by decide)
  · exact absurd rfl h
  · exact quiet_of_none (by decide)

/-- VAB about to cross, 96 frames after its last crossing. -/
def watchingAB (m : AcquisitionMode) (crossings : Nat) (intervals : List Int) : State :=
  watching m ⟨crossings, 0, intervals, some ⟨4, 6⟩, [⟨36, 6⟩, ⟨68, 6⟩], [⟨36, 6⟩, ⟨68, 6⟩]⟩ ((PerBranch.fill .reset).set .ab low)

theorem test_hyp_TimeoutHaltsAcquisition_lock (m : AcquisitionMode) :
    Expected (watchingAB m 23 [1536, 1540, 1536]) (word 0x9007) ∧ (watchingAB m 23 [1536, 1540, 1536]).oc.device = .acquire ∧
      Confirms (watchingAB m 23 [1536, 1540, 1536]) risingOnAB .ab found ∧
      (∀ o, o ≠ .ab → Quiet (watchingAB m 23 [1536, 1540, 1536]) risingOnAB o) ∧
      (watchingAB m 23 [1536, 1540, 1536]).ct.progress.intervals.length ≤ 4 := by
  refine ⟨⟨by rfl, .inl rfl, 7, rfl, by decide⟩, rfl, ⟨by cases m <;> decide +kernel, .inl ⟨by decide, by cases m <;> decide +kernel⟩⟩, ?_,
    by cases m <;> decide⟩
  intro o h
  cases o
  · exact absurd rfl h
  · exact quiet_of_none rfl
  · exact quiet_of_none rfl

/-- 3.3's two outcomes of that crossing: lock in AUTO_SINGLE, and the 24th crossing where the intervals give no lock. -/
theorem test_lock :
    (after (.dataFrame (word 0x9007) risingOnAB) (watchingAB .autoSingle 23 [1536, 1540, 1536])).oc.device = .run ∧
      (after (.dataFrame (word 0x9007) risingOnAB) (watchingAB .autoSingle 23 [1400, 1540, 1536])).oc.halt.cause = .acquireFailed ∧
      (after (.dataFrame (word 0x9007) risingOnAB) (watchingAB .autoSingle 22 [1400, 1540, 1536])).ct.progress.crossings = 23 := by
  decide +kernel

/-- RUN with VAB about to cross at a count of AB's counter, and AB's half-cycle with nothing to come. -/
def seen (n : Nat) : State :=
  { running with
    ct := { running.ct with tracks := running.ct.tracks.set .ab { counting n with previous := some (BitVec.ofInt 16 (-500)) } }
    vlc := { running.vlc with firing := ValveControl.reset.firing } }

theorem seen_frame (n : Nat) (hn : n ∈ [1855, 1856, 2239, 2240]) :
    Expected (seen n) (word 0x9007) ∧ (seen n).oc.device = .run ∧ Confirms (seen n) risingOnAB .ab found ∧
      (∀ o, o ≠ .ab → Quiet (seen n) risingOnAB o) ∧ ((seen n).ct.tracks.get .ab).period = some 1536 := by
  have h : Confirms (seen n) risingOnAB .ab found := by
    simp only [List.mem_cons, List.not_mem_nil, or_false] at hn
    rcases hn with rfl | rfl | rfl | rfl <;> exact ⟨by decide +kernel, .inl ⟨by decide, by decide +kernel⟩⟩
  refine ⟨⟨by rfl, .inl rfl, 7, rfl, by decide⟩, rfl, h, ?_, rfl⟩
  intro o h
  cases o
  · exact absurd rfl h
  · exact quiet_of_none rfl
  · exact quiet_of_none rfl

/-- The same with AB's counter stopped, as after lock. -/
def unstarted : State :=
  { seen 0 with ct := { (seen 0).ct with tracks := (seen 0).ct.tracks.set .ab { low with period := some 1536 } } }

theorem test_hyp_PeriodMovesAnEighth_start :
    Expected unstarted (word 0x9007) ∧ unstarted.oc.device = .run ∧ Confirms unstarted risingOnAB .ab found ∧
      (∀ o, o ≠ .ab → Quiet unstarted risingOnAB o) ∧ (unstarted.ct.tracks.get .ab).period = some 1536 ∧
      (unstarted.ct.tracks.get .ab).counter = none := by
  refine ⟨⟨by decide, .inl rfl, 7, rfl, by decide⟩, rfl, ⟨by decide +kernel, .inl ⟨by decide, by decide +kernel⟩⟩, ?_, rfl, rfl⟩
  intro o h
  cases o
  · exact absurd rfl h
  · exact quiet_of_none (by decide)
  · exact quiet_of_none (by decide)

theorem test_hyp_PeriodMovesAnEighth_rejected :
    (Expected (seen 1855) (word 0x9007) ∧ Confirms (seen 1855) risingOnAB .ab found) ∧
      ((seen 1855).ct.tracks.get .ab).counter = some ⟨1855, 0⟩ ∧ 1855 + (seen 1855).ct.settings.halfWidth < 2048 :=
  ⟨⟨(seen_frame _ (by simp)).1, (seen_frame _ (by simp)).2.2.1⟩, rfl, by decide⟩

theorem test_hyp_PeriodMovesAnEighth_accepted (n : Nat) (h : n = 1856 ∨ n = 2239) :
    (Expected (seen n) (word 0x9007) ∧ Confirms (seen n) risingOnAB .ab found) ∧
      ((seen n).ct.tracks.get .ab).counter = some ⟨n, 0⟩ ∧ 2048 ≤ n + (seen n).ct.settings.halfWidth ∧
      n < 2048 + (seen n).ct.settings.halfWidth ∧ ((seen n).ct.tracks.get .ab).polarity = some .pos ∧
      ((seen n).vlc.firing.get .ab).transaction = none ∧ (seen n).hr.capture = .free ∧ (seen n).hr.triggers = 0 ∧
      wrapsNow (seen n).hr = false ∧ TableComplete (seen n) := by
  refine ⟨⟨(seen_frame _ (by rcases h with rfl | rfl <;> simp)).1, (seen_frame _ (by rcases h with rfl | rfl <;> simp)).2.2.1⟩, rfl, ?_, ?_, rfl, rfl, rfl, rfl, rfl, ?_⟩
  · show 2048 ≤ n + 192; omega
  · show n < 2048 + 192; omega
  · intro t h; cases h; decide

/-- The same, with a transaction of the ended half-cycle open. -/
def seenFiring (n : Nat) (phase : Phase) (attempts : Nat) : State :=
  { seen n with vlc := (firing phase attempts 2300).vlc }

theorem test_hyp_PeriodMovesAnEighth_settles :
    Expected (seenFiring 2000 .waiting 1) (word 0x9007) ∧ (seenFiring 2000 .waiting 1).oc.device = .run ∧
      Confirms (seenFiring 2000 .waiting 1) risingOnAB .ab found ∧
      (∀ o, o ≠ .ab → Quiet (seenFiring 2000 .waiting 1) risingOnAB o) ∧
      ((seenFiring 2000 .waiting 1).ct.tracks.get .ab).counter = some ⟨2000, 0⟩ ∧
      ((seenFiring 2000 .waiting 1).ct.tracks.get .ab).polarity = some .pos ∧
      2048 ≤ 2000 + (seenFiring 2000 .waiting 1).ct.settings.halfWidth ∧
      ((seenFiring 2000 .waiting 1).vlc.firing.get .ab).transaction = some ⟨.abF, 5, 1, .waiting, 2300, 32, 2, 1920⟩ ∧
      ((seenFiring 2000 .retryGap 1).vlc.firing.get .ab).transaction = some ⟨.abF, 5, 1, .retryGap, 2300, 32, 2, 1920⟩ ∧
      (seenFiring 2000 .waiting 1).hr.capture = .free ∧ (seenFiring 2000 .waiting 1).hr.triggers = 0 ∧
      wrapsNow (seenFiring 2000 .waiting 1).hr = false ∧
      ((seenFiring 2000 .waiting 1).vlc.groups.get .abF).misfireRun + 1 < (seenFiring 2000 .waiting 1).vlc.settings.misfireLimit := by
  refine ⟨⟨by decide, .inl rfl, 7, rfl, by decide⟩, rfl, ⟨by decide +kernel, .inl ⟨by decide, by decide +kernel⟩⟩, ?_, by decide⟩
  intro o h
  cases o
  · exact absurd rfl h
  · exact quiet_of_none rfl
  · exact quiet_of_none rfl

theorem test_hyp_PeriodMovesAnEighth_decides :
    Expected (seen 1856) (word 0x9007) ∧ (seen 1856).oc.device = .run ∧ (seen 1856).ct.nominal = some .hz50 ∧
      Confirms (seen 1856) risingOnAB .ab found ∧ (∀ o, o ≠ .ab → Quiet (seen 1856) risingOnAB o) ∧
      ((seen 1856).ct.tracks.get .ab).counter = some ⟨1856, 0⟩ ∧ ((seen 1856).ct.tracks.get .ab).polarity = some .pos ∧
      2048 ≤ 1856 + (seen 1856).ct.settings.halfWidth ∧ 1856 < 2048 + (seen 1856).ct.settings.halfWidth ∧
      (∀ g, ((seen 1856).vlc.groups.get g).misfireRun + 1 < (seen 1856).vlc.settings.misfireLimit) ∧
      (seen 1856).hr.capture = .free ∧ (seen 1856).hr.triggers = 0 := by
  have f := seen_frame 1856 (by simp)
  exact ⟨f.1, f.2.1, rfl, f.2.2.1, f.2.2.2.1, rfl, rfl, by decide, by decide,
    fun g => by cases g <;> exact (by decide : 0 + 1 < 3), rfl, rfl⟩

/-- At 2048 + W, with W = 192. -/
theorem test_hyp_PeriodMovesAnEighth_before :
    Expected (seen 2240) (word 0x9007) ∧ (seen 2240).oc.device = .run ∧ (seen 2240).ct.nominal = some .hz50 ∧
      Confirms (seen 2240) risingOnAB .ab found ∧ (∀ o, o ≠ .ab → Quiet (seen 2240) risingOnAB o) ∧
      ((seen 2240).ct.tracks.get .ab).counter = some ⟨2240, 0⟩ ∧ ((seen 2240).ct.tracks.get .ab).polarity = some .pos ∧
      2048 + (seen 2240).ct.settings.halfWidth ≤ 2240 ∧ (seen 2240).ct.settings.halfWidth ≤ 512 ∧
      ((seen 2240).ct.tracks.get .ab).synthesisedRun + 1 < (seen 2240).ct.settings.limit ∧
      (∀ g, ((seen 2240).vlc.groups.get g).misfireRun + 1 < (seen 2240).vlc.settings.misfireLimit) ∧
      (seen 2240).hr.capture = .free ∧ (seen 2240).hr.triggers = 0 := by
  have f := seen_frame 2240 (by simp)
  exact ⟨f.1, f.2.1, rfl, f.2.2.1, f.2.2.2.1, rfl, rfl, by decide, by decide, by decide,
    fun g => by cases g <;> exact (by decide : 0 + 1 < 3), rfl, rfl⟩

/-- 4.10's window, which takes the confirming frame too (R69), while the delay lines still fill. -/
def judgedWindow : State :=
  { seen 2000 with bdu := { (seen 2000).bdu with branches := (seen 2000).bdu.branches.set .ab { tracking with
      window := some ⟨1536000000, 192000000, 96, 0, none, false, false⟩ } } }

theorem test_record_of_window :
    let r := (after (.dataFrame (word 0x9007) risingOnAB) judgedWindow).hr.ring.getLast?
    r.map (·.frames) = some 97 ∧ r.map (·.code) = some .delayFilling ∧ r.map (·.state) = some .hold := by decide +kernel

/-- The same window with the counter at 2048 + W: its closure comes before the frame, which goes to the new window (R69). -/
def judgedBefore : State :=
  { seen 2240 with bdu := { (seen 2240).bdu with branches := (seen 2240).bdu.branches.set .ab { tracking with
      window := some ⟨1536000000, 192000000, 96, 0, none, false, false⟩ } } }

theorem test_frame_after_the_closure :
    let t := after (.dataFrame (word 0x9007) risingOnAB) judgedBefore
    let r := t.hr.ring.getLast?
    r.map (·.frames) = some 96 ∧ r.map (·.kind) = some .synthesized ∧ r.map (·.code) = some .synth ∧
      ((t.bdu.branches.get .ab).window.map (·.frames)) = some 1 := by decide +kernel

theorem test_hyp_PeriodMovesAnEighth_top :
    (Expected (seen 2240) (word 0x9007) ∧ Confirms (seen 2240) risingOnAB .ab found) ∧
      ((seen 2240).ct.tracks.get .ab).counter = some ⟨2240, 0⟩ ∧ ((seen 2240).ct.tracks.get .ab).polarity = some .pos ∧
      2048 + (seen 2240).ct.settings.halfWidth ≤ 2240 ∧ (seen 2240).ct.settings.halfWidth ≤ 512 ∧
      ((seen 2240).vlc.firing.get .ab).armed = none ∧
      ((seen 2240).vlc.firing.get .ab).transaction = none ∧
      ((seen 2240).ct.tracks.get .ab).synthesisedRun + 1 < (seen 2240).ct.settings.limit :=
  ⟨⟨(seen_frame _ (by simp)).1, (seen_frame _ (by simp)).2.2.1⟩, rfl, rfl, by decide, by decide, rfl, rfl, by decide⟩

theorem test_hyp_CrossingIsSynthesized_transaction :
    ((firing .waiting 1 2240).vlc.firing.get .ab).transaction = some ⟨.abF, 5, 1, .waiting, 2240, 32, 2, 1920⟩ ∧
      2048 + (firing .waiting 1 2240).ct.settings.halfWidth ≤ 2240 + (if Phase.waiting = .retryGap then 8 else 0) ∧
      ((firing .retryGap 1 2232).vlc.firing.get .ab).transaction = some ⟨.abF, 5, 1, .retryGap, 2232, 32, 2, 1920⟩ ∧
      2048 + (firing .retryGap 1 2232).ct.settings.halfWidth ≤ 2232 + (if Phase.retryGap = .retryGap then 8 else 0) ∧
      ((firing .waiting 1 2240).vlc.firing.get .ab).armed = none ∧ ((firing .waiting 1 2240).ct.tracks.get .ab).polarity = some .pos ∧
      ((firing .waiting 1 2240).ct.tracks.get .ab).counter = some ⟨1200, 0⟩ ∧
      ((firing .waiting 1 2240).vlc.groups.get .abF).misfireRun + 1 < (firing .waiting 1 2240).vlc.settings.misfireLimit := by decide

theorem test_hyp_CrossingIsSynthesized_decides :
    inReset running = false ∧ (running.ct.tracks.get .ab).counter = some ⟨1200, 0⟩ ∧ (running.vlc.firing.get .ab).armed ≠ none ∧
      ((firing .waiting 1 1322).vlc.firing.get .ab).transaction ≠ none ∧ (running.ct.tracks.get .ab).polarity = some .pos ∧
      (running.ct.tracks.get .ab).synthesisedRun + 1 < running.ct.settings.limit ∧
      (∀ g, (running.vlc.groups.get g).misfireRun + 1 < running.vlc.settings.misfireLimit) ∧ running.hr.capture = .free ∧
      running.hr.triggers = 0 := by
  refine ⟨by decide, by decide, by decide, by decide, by decide, by decide, fun g => by cases g <;> decide, by decide⟩

/-- AB's delay armed, and AB-F not ready. -/
def unready : State := { running with vlc := { running.vlc with groups := ValveControl.reset.groups } }

theorem test_hyp_CrossingIsSynthesized_passes :
    inReset unready = false ∧ unready.oc.device = .run ∧ (unready.ct.tracks.get .ab).counter = some ⟨1200, 0⟩ ∧
      (unready.ct.tracks.get .ab).polarity = some .pos ∧ 1200 < 2048 + unready.ct.settings.halfWidth ∧
      1290 < 2048 + unready.ct.settings.halfWidth ∧ (unready.vlc.firing.get .ab).armed = some 1290 ∧
      (unready.vlc.firing.get .ab).transaction = none ∧ (unready.vlc.groups.get (dueGroup .ab .pos)).ready = false ∧
      (unready.ct.tracks.get .ab).synthesisedRun + 1 < unready.ct.settings.limit ∧ unready.hr.triggers = 0 ∧
      unready.hr.capture = .free ∧ wrapsNow unready.hr = false := by decide

theorem test_hyp_CrossingIsSynthesized_hands_over :
    TableComplete running ∧ (running.vlc.firing.get .bc).armed = none ∧ (running.vlc.firing.get .bc).transaction = none ∧
      running.ct.settings.halfWidth ≤ 512 := by
  refine ⟨?_, by decide⟩
  intro t h; cases h; decide

theorem test_hyp_CaptureRequests_record :
    inReset (capturing .triggered 1) = false ∧ (capturing .triggered 1).oc.device = .run ∧
      ((capturing .triggered 1).ct.tracks.get .bc).counter = some ⟨1200, 0⟩ ∧
      ((capturing .triggered 1).ct.tracks.get .bc).polarity = some .pos ∧
      ((capturing .triggered 1).vlc.firing.get .bc).armed = none ∧ ((capturing .triggered 1).vlc.firing.get .bc).transaction = none ∧
      ((capturing .triggered 1).ct.tracks.get .bc).synthesisedRun + 1 < (capturing .triggered 1).ct.settings.limit ∧
      (capturing .triggered 1).hr.triggers = 0 ∧ wrapsNow (capturing .triggered 1).hr = false ∧
      (capturing .triggered 1).hr.remaining ≤ 1 ∧ 1 < ({ (capturing .triggered 1).hr with remaining := 2 } : History).remaining ∧
      (capturing .frozen 1).hr.capture = .frozen := by decide

/-- AB and BC one closure below their limit, BC's counter at its top. -/
def losingTogether : State :=
  { running with
    ct := { running.ct with tracks := ⟨{ counting 2240 with synthesisedRun := 7 }, { counting 2240 with synthesisedRun := 7 }, counting 1200⟩ }
    vlc := { running.vlc with firing := ValveControl.reset.firing } }

theorem test_hyp_SyncLossHalts_together :
    inReset losingTogether = false ∧ losingTogether.oc.device = .run ∧ Branch.ab ≠ .bc ∧ Branch.ca ≠ .ab ∧ Branch.ca ≠ .bc ∧
      (losingTogether.ct.tracks.get .ab).counter = some ⟨2240, 0⟩ ∧ (losingTogether.ct.tracks.get .bc).counter = some ⟨2240, 0⟩ ∧
      2048 + losingTogether.ct.settings.halfWidth ≤ 2240 ∧
      (∀ y, (losingTogether.ct.tracks.get .ca).counter = some y → y.count < 2048 + losingTogether.ct.settings.halfWidth) ∧
      (∀ d, d ≠ Branch.ca → (losingTogether.vlc.firing.get d).armed = none ∧ (losingTogether.vlc.firing.get d).transaction = none ∧
        losingTogether.ct.settings.limit ≤ (losingTogether.ct.tracks.get d).synthesisedRun + 1) ∧
      losingTogether.hr.capture = .free ∧ losingTogether.hr.triggers = 0 := by
  refine ⟨by decide, by decide, by decide, by decide, by decide, by decide, by decide, by decide, ?_, ?_, by decide⟩
  · intro y h; cases h; decide
  · intro d h
    cases d
    · decide
    · decide
    · exact absurd rfl h

/-- HALTED by AB's loss, with BC's closure of the same moment to come. -/
def halting : State :=
  { halted with ct := { halted.ct with tracks := halted.ct.tracks.set .bc { counting 0 with counter := none, synthesisedRun := 7 } } }

theorem test_hyp_SyncLossHalts_halted :
    inReset halting = false ∧ halting.oc.device = .halted ∧ halting.oc.halt.cause = .syncLost ∧
      (halting.ct.tracks.get .bc).polarity = some .pos ∧ (halting.ct.tracks.get .bc).sync ≠ .outOfSync ∧
      halting.ct.settings.limit ≤ (halting.ct.tracks.get .bc).synthesisedRun + 1 := by decide

/-- RUN with AB-F one misfire and one refusal below its limits, and its last attempt out. -/
def failing : State :=
  { firing .waiting 3 2240 with vlc := { (firing .waiting 3 2240).vlc with
      groups := (firing .waiting 3 2240).vlc.groups.set .abF { GroupState.reset with misfireRun := 2, refusalRun := 3 } } }

theorem test_hyp_GuardAndRetry_limit :
    inReset failing = false ∧ failing.oc.device = .run ∧ (failing.ct.tracks.get .ab).counter = some ⟨1200, 0⟩ ∧
      (failing.vlc.firing.get .ab).transaction = some ⟨.abF, 5, 3, .waiting, 2240, 32, 2, 1920⟩ ∧
      2240 ≤ 2048 + failing.ct.settings.halfWidth ∧ 1 + 2 ≤ 3 ∧ (failing.vlc.groups.get .abF).failure = none ∧
      failing.vlc.settings.misfireLimit ≤ (failing.vlc.groups.get .abF).misfireRun + 1 := by decide

theorem test_hyp_GroupFailureHaltsOrBlocks_causes :
    MapInjective failing ∧ (failing.causes.get Group.abF.branch).valve = false ∧ failing.causes.get Group.abF.branch = .empty ∧
      (⟨false, false, 0, true⟩ : ValveStatus).coolingOk = false ∧
      failing.vlc.settings.redundancyLimit < (⟨true, false, 3, true⟩ : ValveStatus).failedLevels.toNat ∧
      (failing.vlc.channels.get (failing.vlc.map.get .abF)).link = .active ∧
      failing.vlc.settings.refusalLimit ≤ (failing.vlc.groups.get .abF).refusalRun + 1 ∧
      failing.vlc.settings.misfireLimit ≤ (failing.vlc.groups.get .abF).misfireRun + 1 ∧
      failing.vlc.settings.tripOnBlock = true ∧
      ({ failing with vlc := { failing.vlc with settings := { failing.vlc.settings with tripOnBlock := false } } } : State).vlc.settings.tripOnBlock =
        false ∧ quietlyBlocked.causes.get Group.abF.branch ≠ .empty ∧ (quietlyBlocked.causes.get Group.abF.branch).valve = false :=
  ⟨running_map_injective, by decide⟩

/-- A breaker about to close with no latch armed, and its trigger enabled. -/
def closing (triggers : Byte) (c : CaptureState) (post : Nat) : State :=
  { energising with
    pli := { energising.pli with latch := none }, hr := { History.reset with triggers := triggers, capture := c, post := post } }

theorem test_hyp_LevelChangeActs_breaker :
    inReset (closing 128 .free 0) = false ∧ (closing 128 .free 0).pli.settling = false ∧ (closing 128 .free 0).pli.latch = none ∧
      ((closing 128 .free 0).pli.inputs.get .furnaceBreaker).debounced = false ∧
      (closing 128 .free 0).pins.raw.get .furnaceBreaker = true ∧ (closing 127 .free 0).hr.triggers.getLsbD 7 = false ∧
      (closing 128 .free 0).hr.triggers.getLsbD 7 = true ∧ (closing 128 .frozen 0).hr.capture ≠ .free ∧
      (closing 128 .free 1).hr.post ≠ 0 ∧ (closing 128 .free 0).hr.post = 0 := by decide

theorem test_hyp_BreakerCloseAppliesPreset_trigger :
    ((closing 128 .free 1).hr.triggers.getLsbD 7 = true ∧ (closing 128 .free 1).hr.capture = .free ∧ (closing 128 .free 1).hr.post ≠ 0) ∧
      energising.hr.triggers.getLsbD 7 = false ∧ (closing 128 .triggered 1).hr.capture ≠ .free := by decide

theorem test_hyp_BranchMovesAtClosure_unheld :
    ({ bc .fallback 0 0 0 with previous := none } : BranchDemand).state = .fallback ∧
      ({ bc .fallback 0 1 0 with previous := none } : BranchDemand).validClosures ≠ 0 ∧
      ({ bc .blocked 0 0 0 with previous := none } : BranchDemand).state = .blocked ∧
      ({ bc .preset 0 0 0 with previous := none, preset := some ⟨1, 3000⟩ } : BranchDemand).preset = some ⟨1, 3000⟩ := by decide

/-! The clock. -/

/-- AB's counter one tick below its armed delay, at the last tick of an interval. -/
def ticking (n part : Nat) : State :=
  { running with
    clock := ⟨31, 8, 0⟩, pli := { PlantInterface.reset with settling := false }
    ct := { running.ct with tracks := running.ct.tracks.set .ab { counting n with counter := some ⟨n, part⟩ } } }

theorem test_hyp_HeldDeviceStandsStill_tick :
    (ticking 1289 1535).clock.phase < 32 ∧ ((ticking 1289 1535).ct.tracks.get .ab).counter = some ⟨1289, 1535⟩ ∧
      ((ticking 1289 1535).ct.tracks.get .ab).period = some 1536 ∧ 1024 < 1536 ∧ 1535 < 1536 ∧ (ticking 1289 1535).oc.device = .run ∧
      1289 < 2048 + (ticking 1289 1535).ct.settings.halfWidth ∧ ready.oc.device ≠ .run ∧
      2048 + (ticking 2240 0).ct.settings.halfWidth ≤ 2240 ∧ inReset (ticking 1289 1535) = false ∧ (ticking 1289 1535).pending = [] ∧
      dueAt (ticking 1289 1535) (advanceTime (ticking 1289 1535)) = [.delay .ab] ∧
      dueAt (ticking 1200 0) (advanceTime (ticking 1200 0)) = [] := by decide +kernel

/-- The delay of AB is about to be reached by a command. -/
def ordering : State := { running with pending := [.delayReached .ab] }

/-! The invariants, in a device that waits for its first request. -/

/-- Awake, with a request in the queue. -/
def waiting : State := { awake with pending := [.identify] }

theorem waiting_steps : ∃ t, step waiting = .next t := ⟨_, rfl⟩

theorem test_hyp_StateRulesAreKept :
    LinesAgree waiting ∧ ConfiguredOutsideUnset waiting ∧ IdleOutsideRun waiting ∧ LatchOnlyWhileStarted waiting ∧
      ∃ t, step waiting = .next t := by
  refine ⟨⟨by decide, by decide⟩, ⟨?_, by decide⟩, ?_, fun h => absurd rfl h, waiting_steps⟩
  · intro t h; cases h
  · intro _ b; cases b <;> exact ⟨rfl, rfl, rfl, rfl, rfl, rfl⟩

theorem test_hyp_StateRulesAreKept_decided : DecidedAfterClosure running ∧ ∃ t, step running = .next t := by
  refine ⟨⟨fun h => absurd rfl h, fun b w _ _ => ?_⟩, ⟨_, rfl⟩⟩
  cases b <;> decide

/-- The branch waits for its first closure: BLOCK has it report b = 0 and α = 2048, UNBLOCK has it report none (R93). -/
theorem test_no_decision_before_first_closure :
    let start := { running with bdu := { running.bdu with branches := running.bdu.branches.set .ab { tracking with
      decision := none, window := some ⟨0, 0, 0, 0, none, false, true⟩ } } }
    let blocked := { after (.block 0) start with sli := start.sli }
    ((branchReport blocked .ab).drop 16).take 5 = [1, 0, 0, 8, 0] ∧
      (branchReport (after (.unblock 0) blocked) .ab)[16]? = some 0 ∧ (branchReport start .ab)[16]? = some 0 ∧
      (branchReport running .ab)[16]? = some 1 := by decide +kernel

theorem test_hyp_ValveRulesAreKept :
    MapInjective waiting ∧ FailedGroupBlocks waiting ∧ BlockedIsQuiet waiting ∧ BlockedIsQuiet running ∧ BlockedIsQuiet quietlyBlocked ∧
      (∃ t, step waiting = .next t) ∧ (∃ t, step { running with pending := [.identify] } = .next t) := by
  refine ⟨running_map_injective, ?_, ?_, ?_, ?_, waiting_steps, ⟨_, rfl⟩⟩
  · intro g; cases g <;> decide
  · intro h; cases h
  · intro _ b; cases b <;> exact ⟨by decide, fun h => by cases h⟩
  · intro _ b
    cases b
    · exact ⟨by decide, fun _ => ⟨rfl, rfl, fun d h => by cases h; rfl⟩⟩
    · exact ⟨by decide, fun h => by cases h⟩
    · exact ⟨by decide, fun h => by cases h⟩

/-- AB's transaction on AB-F is open. -/
theorem firing_at_home (phase : Phase) (attempts guardEnd : Nat) : TransactionsAtHome (firing phase attempts guardEnd) := by
  intro b x h; cases b
  · cases h; rfl
  · cases h
  · cases h

theorem test_hyp_ValveRulesAreKept_home :
    TransactionsAtHome (firing .waiting 1 1322) ∧ ∃ t, step (firing .waiting 1 1322) = .next t :=
  ⟨firing_at_home .waiting 1 1322, _, rfl⟩

theorem test_hyp_BoundsAreKept :
    EventCountsBounded waiting ∧ PeriodsInBand running ∧ CountersBounded waiting ∧ DecisionsInRange waiting ∧
      ChainsAgree waiting ∧ ChainsAgree damaged ∧ ∃ t, step waiting = .next t := by
  refine ⟨?_, ?_, ⟨?_, ?_, ?_⟩, ⟨⟨?_, fun v h => by cases h⟩, ?_, ?_⟩, fun c => by cases c <;> decide, fun c => by cases c <;> decide,
    waiting_steps⟩
  · intro k; cases k <;> decide
  · intro _; exact ⟨.hz50, rfl, fun b => ⟨1536, by cases b <;> decide⟩⟩
  · intro b a h; cases b <;> cases h
  · intro b d h; cases b <;> cases h
  · intro t h; cases h
  · intro b; cases b <;> simp [waiting, awake, State.reset, DemandUnit.reset, PerBranch.fill, PerBranch.get, BranchDemand.reset, BranchSettings.reset]
  · intro t h; cases h
  · intro b d h; cases b <;> cases h

theorem test_hyp_BoundsAreKept_settings : TrackingInRange waiting ∧ ∃ t, step waiting = .next t :=
  ⟨⟨by decide, by decide, by decide, by decide, by decide⟩, waiting_steps⟩

theorem test_hyp_RingStaysOrdered : RingOrdered waiting ∧ ∃ t, step waiting = .next t :=
  ⟨⟨by decide, fun i r h => by simp [waiting, awake, State.reset, History.reset] at h⟩, waiting_steps⟩

theorem idealTable_complete : ∀ t, (some idealTable : Option (List Nat)) = some t → t.length = 65 ∧ firstFault t = none := by
  intro t h; cases h; decide

theorem test_hyp_DeviceStateMovesByTheTable :
    wellFormed .enable = true ∧ exec .enable ready = .next (after .enable ready) ∧ ConfiguredOutsideUnset ready ∧
      ready.oc.device ≠ (after .enable ready).oc.device :=
  ⟨rfl, rfl, ⟨idealTable_complete, by decide⟩, by decide⟩

/-- ACQUIRE one interval before its limit, at that interval's last tick. -/
def timingOut : State :=
  { acquiring with
    clock := ⟨31, 8, 0⟩, pli := { acquiring.pli with settling := false }
    ct := { acquiring.ct with progress := { Progress.empty with elapsed := 19199 } } }

theorem test_hyp_DeviceStateMovesByTheTable_tick : timingOut.oc.device ≠ (tick timingOut).oc.device := by decide +kernel

theorem test_hyp_SettingsStandWhileStarted :
    wellFormed (.setSync 0 0 64 0 2) = true ∧ exec (.setSync 0 0 64 0 2) running = .next (after (.setSync 0 0 64 0 2) running) ∧
      running.oc.device ≠ .unset ∧ running.oc.device ≠ .ready ∧ (after (.setSync 0 0 64 0 2) running).oc.device ≠ .unset :=
  ⟨rfl, rfl, by decide, by decide, by decide⟩

theorem test_hyp_OrdersOnlyWhereAllowed_grows :
    BlockedIsQuiet ordering ∧ TransactionsAtHome ordering ∧ step ordering = .next (after (.delayReached .ab) running) ∧
      (ordering.vlc.groups.get .abF).counters.orders <
        ((after (.delayReached .ab) running).vlc.groups.get .abF).counters.orders := by
  refine ⟨?_, (fun b x h => by cases b <;> cases h), rfl, by decide⟩
  intro _ b; cases b <;> exact ⟨by decide, fun h => by cases h⟩

/-- The gap of AB-F's transaction ends: the retry. -/
theorem test_hyp_OrdersOnlyWhereAllowed_retries :
    BlockedIsQuiet (firing .retryGap 1 1322) ∧ TransactionsAtHome (firing .retryGap 1 1322) ∧
      step { firing .retryGap 1 1322 with pending := [.retry .ab] } = .next (after (.retry .ab) (firing .retryGap 1 1322)) ∧
      ((firing .retryGap 1 1322).vlc.groups.get .abF).counters.retries <
        ((after (.retry .ab) (firing .retryGap 1 1322)).vlc.groups.get .abF).counters.retries := by
  refine ⟨?_, firing_at_home .retryGap 1 1322, rfl, by decide⟩
  intro _ b; cases b <;> exact ⟨by decide, fun h => by cases h⟩

theorem test_hyp_OrdersOnlyWhereAllowed :
    exec (.delayReached .ab) running = .next (after (.delayReached .ab) running) ∧
      ((after (.delayReached .ab) running).vlc.channels.get .v0).sent = some (fireFrame 5) ∧
      (running.vlc.channels.get .v0).sent ≠ some (fireFrame 5) := ⟨rfl, by decide, by decide⟩

/-! ## What the closures of one moment do -/

/-- R62: both branches lose sync, and the first names the halt. -/
theorem test_two_lose_sync :
    let t := after (.crossingSynthesized .ab) losingTogether
    t.oc.halt.branch = some .ab ∧ (t.causes.get .ab).sync = true ∧ (t.causes.get .bc).sync = true ∧
      (t.sli.events.get .syncLost).count = 2 ∧ t.hr.ring.length = 2 := by decide +kernel

/-- R56: a crossing at 1200 is below 2048 − W. -/
theorem test_crossing_rejected :
    ((after (.dataFrame (word 0x9007) risingOnAB) (seen 1200)).ct.tracks.get .ab).rejected = 1 := by decide +kernel

/-- R197: the address with its mark set, by hand: IDENTIFY's kind 0x81, length 3, OK, no attention, UNSET. -/
theorem test_reply_characters :
    (replyChars ⟨1, 0x81, .ok, false, .unset, []⟩).take 6 =
      [⟨1, true, true⟩, ⟨0x81, false, true⟩, ⟨3, false, true⟩, ⟨0, false, true⟩, ⟨0, false, true⟩, ⟨0, false, true⟩] := by
  decide +kernel

end Sys2Proof.Tests
end

/-! The Firing Delay Converter's table (5.1 and 5.3): what a table without a fault gives the conversion, the conversion itself, and
the reply that reads the table. -/

namespace Sys2Proof.Machine

open Safety

/-! ## READ_TABLE (R101) -/

theorem exec_readTable (s : State) : exec .readTable s = .next (running (takeRequest .readTable 0 doReadTable) s) := rfl

/-- A receptive unit answers READ_TABLE with its table's bytes, whatever the device state, and nothing else moves. -/
theorem exec_readTable_receptive (s : State) (h : Receptive s) :
    exec .readTable s = .next (answered .readTable .ok (tableBytes s) s) := by
  have hserve : serve .readTable doReadTable s = answered .readTable .ok (tableBytes s) s :=
    serve_answers .readTable doReadTable s s .ok (tableBytes s) rfl (.inr (.inl rfl))
  rw [exec_readTable, takeRequest_receptive _ _ _ s h, hserve]

theorem tableBytes_absent {s : State} (h : s.table = none) : tableBytes s = [0] := by
  simp [tableBytes, h, optional]

theorem tableBytes_complete {s : State} {t : List Nat} (h : s.table = some t) :
    tableBytes s = 1 :: (t.map (bigEndian 2)).flatten := by
  rw [tableBytes, h]; rfl

/-- Settles O13: the reply is `tableBytes` in every receptive state, absent or complete. -/
theorem readTableReply : Obligations.ReadTableReply := by
  intro s hs
  refine ⟨fun habsent => ?_, fun t hcomplete => ?_⟩
  · rw [exec_readTable_receptive s hs, tableBytes_absent habsent]
  · rw [exec_readTable_receptive s hs, tableBytes_complete hcomplete]

/-! ## A table without a fault (R99) -/

/-- The validation's recursion, read as a property of the entries: each lies in 1024..2048, and none rises above the one before it. -/
theorem firstFaultFrom_eq_none_iff (k : Nat) (above : Option Nat) (l : List Nat) :
    firstFaultFrom k above l = none ↔
      (∀ x ∈ l, 1024 ≤ x ∧ x ≤ 2048) ∧ (above.toList ++ l).IsChain (· ≥ ·) := by
  induction l generalizing k above with
  | nil => cases above <;> simp [firstFaultFrom]
  | cons x rest ih =>
    have hchain : (above.toList ++ x :: rest).IsChain (· ≥ ·) ↔
        (∀ p ∈ above, x ≤ p) ∧ (x :: rest).IsChain (· ≥ ·) := by
      cases above <;> simp
    unfold firstFaultFrom
    split
    · next hout => simp; omega
    · next hin =>
      split
      · next hrises =>
        obtain ⟨p, hp, hlt⟩ : ∃ p, above = some p ∧ p < x := by simpa [Option.any_eq_true] using hrises
        simp [hp]; omega
      · next hfalls =>
        have hle : ∀ p ∈ above, x ≤ p := by simpa [Option.any_eq_true] using hfalls
        have hx : 1024 ≤ x ∧ x ≤ 2048 := by omega
        rw [ih, hchain, and_iff_right hle]
        simp [hx]

theorem firstFault_eq_none_iff (t : List Nat) :
    firstFault t = none ↔ (∀ x ∈ t, 1024 ≤ x ∧ x ≤ 2048) ∧ t.Pairwise (· ≥ ·) := by
  rw [firstFault, firstFaultFrom_eq_none_iff, Option.toList_none, List.nil_append, List.isChain_iff_pairwise]

/-- The entries as the conversion reads them: an index beyond the table's end reads 2048. -/
def entry (t : List Nat) (k : Nat) : Nat := t.getD k Config.noOrder

theorem getElem?_eq_entry {t : List Nat} {k : Nat} (h : k < t.length) : t[k]? = some (entry t k) := by
  simp [entry, List.getD_eq_getElem?_getD, h]

theorem entry_in_range {t : List Nat} (hfault : firstFault t = none) (k : Nat) : 1024 ≤ entry t k ∧ entry t k ≤ 2048 := by
  have hrange := ((firstFault_eq_none_iff t).mp hfault).1
  by_cases hk : k < t.length
  · exact hrange _ (List.mem_of_getElem? (getElem?_eq_entry hk))
  · have hbeyond : entry t k = 2048 := by simp [entry, Config.noOrder, List.getD_eq_getElem?_getD, hk]
    omega

theorem entry_antitone {t : List Nat} (hfault : firstFault t = none) {i j : Nat} (hij : i ≤ j) (hj : j < t.length) :
    entry t j ≤ entry t i := by
  obtain rfl | hlt := Nat.eq_or_lt_of_le hij
  · exact Nat.le_refl _
  · have hpair := List.pairwise_iff_getElem.mp ((firstFault_eq_none_iff t).mp hfault).2 i j (hlt.trans hj) hj hlt
    simpa [entry, List.getD_eq_getElem?_getD, hj, hlt.trans hj] using hpair

/-! ## The conversion (R104, R105) -/

/-- R105, item 4: the step down from an entry, for a fall `D` of the interval and a remainder `r`. -/
def delayStep (D r : Nat) : Nat := (D * r + 32) / 64

theorem delayStep_le_fall {D r : Nat} (hr : r ≤ 63) : delayStep D r ≤ D := by
  have hprod : D * r ≤ D * 63 := Nat.mul_le_mul_left D hr
  unfold delayStep
  omega

theorem delayStep_mono {D r r' : Nat} (h : r ≤ r') : delayStep D r ≤ delayStep D r' :=
  Nat.div_le_div_right (Nat.add_le_add_right (Nat.mul_le_mul_left D h) 32)

@[simp] theorem delayStep_remainder_zero (D : Nat) : delayStep D 0 = 0 := by simp [delayStep]

@[simp] theorem delayStep_flat (r : Nat) : delayStep 0 r = 0 := by simp [delayStep]

@[simp] theorem convert_zero (t : List Nat) : convert (some t) 0 = 2048 := rfl

theorem convert_eq_entry_sub_step {t : List Nat} {b : Nat} (hb : 1 ≤ b) :
    convert (some t) b =
      entry t (b / 64) - delayStep (entry t (b / 64) - entry t (b / 64 + 1)) (b - 64 * (b / 64)) := by
  have hne : b ≠ 0 := by omega
  simp only [convert, if_neg hne]
  rfl

section
variable {t : List Nat} {b c : Nat} (hlen : t.length = 65) (hfault : firstFault t = none)
include hlen hfault

/-- R105 and R106 on one interval: the delay and its step add up to the entry above, and the step is no more than the fall. -/
theorem convert_add_step (hb : 1 ≤ b) (hmax : b ≤ 4095) :
    convert (some t) b + delayStep (entry t (b / 64) - entry t (b / 64 + 1)) (b - 64 * (b / 64)) = entry t (b / 64) ∧
      entry t (b / 64 + 1) ≤ convert (some t) b ∧ convert (some t) b ≤ entry t (b / 64) := by
  have hfall : entry t (b / 64 + 1) ≤ entry t (b / 64) := entry_antitone hfault (Nat.le_succ _) (by omega)
  have hstep : delayStep (entry t (b / 64) - entry t (b / 64 + 1)) (b - 64 * (b / 64)) ≤
      entry t (b / 64) - entry t (b / 64 + 1) := delayStep_le_fall (by omega)
  rw [convert_eq_entry_sub_step hb]
  omega

theorem convert_in_range (hmax : b ≤ 4095) : 1024 ≤ convert (some t) b ∧ convert (some t) b ≤ 2048 := by
  obtain rfl | hb := Nat.eq_zero_or_pos b
  · simp
  · obtain ⟨-, hlow, hhigh⟩ := convert_add_step hlen hfault hb hmax
    exact ⟨(entry_in_range hfault _).1.trans hlow, hhigh.trans (entry_in_range hfault _).2⟩

/-- Within one interval the step grows with the remainder; across intervals the entry between them separates the delays; and a
susceptance of 0 has the greatest delay there is. -/
theorem convert_antitone (hbc : b ≤ c) (hmax : c ≤ 4095) : convert (some t) c ≤ convert (some t) b := by
  obtain rfl | hb := Nat.eq_zero_or_pos b
  · exact (convert_in_range hlen hfault hmax).2
  have hc : 1 ≤ c := hb.trans_le hbc
  obtain hsame | hnext : b / 64 = c / 64 ∨ b / 64 + 1 ≤ c / 64 := by omega
  · rw [convert_eq_entry_sub_step hb, convert_eq_entry_sub_step hc, hsame]
    exact Nat.sub_le_sub_left (delayStep_mono (by omega)) _
  · calc convert (some t) c
      _ ≤ entry t (c / 64) := (convert_add_step hlen hfault hc hmax).2.2
      _ ≤ entry t (b / 64 + 1) := entry_antitone hfault hnext (by omega)
      _ ≤ convert (some t) b := (convert_add_step hlen hfault hb (hbc.trans hmax)).2.1

end

/-- Settles O50: each interval by `convert_add_step`, the order by `convert_antitone`, the range by `convert_in_range`. -/
theorem conversionInterpolatesAndFalls : Obligations.ConversionInterpolatesAndFalls := by
  constructor
  · intro t b hlen hfault hb hmax
    obtain ⟨hsum, hlow, hhigh⟩ := convert_add_step hlen hfault hb hmax
    refine ⟨entry t (b / 64), entry t (b / 64 + 1), b / 64, b - 64 * (b / 64), entry t (b / 64) - entry t (b / 64 + 1), _,
      rfl, rfl, by omega, by omega, getElem?_eq_entry (by omega), getElem?_eq_entry (by omega), by omega, rfl,
      hsum, hlow, hhigh, fun hr => ?_, fun hflat => ?_⟩
    · simpa [hr] using hsum
    · simpa [hflat] using hsum
  · intro t b c hlen hfault hbc hmax
    exact ⟨convert_antitone hlen hfault hbc hmax, (convert_in_range hlen hfault hmax).1,
      (convert_in_range hlen hfault (hbc.trans hmax)).2⟩

end Sys2Proof.Machine

/-! The preset latch's cancellation by request (R161, R162): what CANCEL_PRESET answers and leaves in both latch states. -/

namespace Sys2Proof.Machine

open Safety

/-! ## CANCEL_PRESET (R161, R162) -/

theorem exec_cancelPreset (s : State) :
    exec .cancelPreset s = .next (running (takeRequest .cancelPreset 0 doCancelPreset) s) := rfl

/-- A cancellation reads and writes nothing of what accepting a frame changes. -/
theorem cancelLatch_acceptFrame (c : CancelCause) (s : State) :
    cancelLatch c (acceptFrame s) = acceptFrame (cancelLatch c s) := by
  by_cases hlatch : s.pli.latch = none
  · rw [cancelLatch_none c s hlatch, cancelLatch_none c (acceptFrame s) hlatch]
  · rw [cancelLatch_some c s hlatch, cancelLatch_some c (acceptFrame s) hlatch]
    rfl

@[simp] theorem configured_cancelLatch (c : CancelCause) (s : State) : configured (cancelLatch c s) = configured s := by
  simp [configured]

@[simp] theorem plantReport_acceptFrame (s : State) : plantReport (acceptFrame s) = plantReport s := rfl

theorem doCancelPreset_acceptFrame (s : State) :
    doCancelPreset (acceptFrame s) =
      ⟨acceptFrame (cancelLatch .cancelPreset s), .ok, plantReport (cancelLatch .cancelPreset s)⟩ := by
  simp only [doCancelPreset, okay, cancelLatch_acceptFrame, plantReport_acceptFrame]

/-- In both latch states the reply is OK with the plant report of the state the cancellation leaves. -/
theorem exec_cancelPreset_receptive (s : State) (h : Receptive s) (hc : s.oc.device ≠ .unset ∨ configured s = false) :
    exec .cancelPreset s = .next (answered .cancelPreset .ok (plantReport (cancelLatch .cancelPreset s))
      (cancelLatch .cancelPreset s)) := by
  have hstays : (cancelLatch .cancelPreset s).oc.device ≠ .unset ∨ configured (cancelLatch .cancelPreset s) = false := by
    simpa using hc
  rw [exec_cancelPreset, takeRequest_receptive _ _ _ s h,
    serve_answers _ _ s _ _ _ (doCancelPreset_acceptFrame s) (.inr (.inr hstays))]

/-- Settles O28: the request answers on `cancelLatch`, which is the state itself where the latch is NOT_ARMED and the cancelled
state with its event where it is ARMED. -/
theorem cancelPresetCancels : Obligations.CancelPresetCancels := by
  intro s hs hc
  refine ⟨fun hnotArmed => ?_, fun harmed => ?_⟩
  · rw [exec_cancelPreset_receptive s hs hc, cancelLatch_none _ s hnotArmed]
  · rw [exec_cancelPreset_receptive s hs hc, cancelLatch_some _ s harmed]
    rfl

end Sys2Proof.Machine

/-! The supervisory link's reply to IDENTIFY (R193): its bytes, and a state that moves in nothing but the reply. -/

namespace Sys2Proof.Machine

open Safety

/-! ## IDENTIFY (R193) -/

theorem exec_identify (s : State) : exec .identify s = .next (running (takeRequest .identify 0 doIdentify) s) := rfl

/-- R193's items at their places: vendor, part and revision, then the address and the rate as the straps gave them, each
zero-extended to a byte, and the reset record. -/
theorem identity_eq_bytes (x : Supervisory) :
    identity x = [0x3A, 0x71, 0x03, 0x40, 0x01, x.address.setWidth 8, x.rate.setWidth 8,
      BitVec.ofNat 8 (codeReset x.resetCause)] ++ bigEndian 2 x.resetCount := by
  have hvendor : two 0x3A71 = [0x3A, 0x71] := by decide
  have hpart : two 0x0340 = [0x03, 0x40] := by decide
  have haddress : byte x.address.toNat = [x.address.setWidth 8] := by rw [byte, BitVec.ofNat_toNat]
  have hrate : byte x.rate.toNat = [x.rate.setWidth 8] := by rw [byte, BitVec.ofNat_toNat]
  rw [identity, hvendor, hpart, haddress, hrate]
  rfl

/-- Accepting the frame changes nothing that IDENTIFY reports. -/
theorem doIdentify_acceptFrame (s : State) : doIdentify (acceptFrame s) = ⟨acceptFrame s, .ok, identity s.sli⟩ := rfl

/-- A receptive unit answers IDENTIFY in every device state; a request that only reads has no configuration evaluated (R2). -/
theorem exec_identify_receptive (s : State) (h : Receptive s) :
    exec .identify s = .next (answered .identify .ok (identity s.sli) s) := by
  have hreads : readsOnly .identify = true := rfl
  rw [exec_identify, takeRequest_receptive _ _ _ s h,
    serve_answers _ _ s s _ _ (doIdentify_acceptFrame s) (.inr (.inl hreads))]

/-- Settles O12: the reply is `identity` in every receptive state, and `identity_eq_bytes` spells it. -/
theorem identifyReply : Obligations.IdentifyReply := by
  intro s hs
  rw [exec_identify_receptive s hs, identity_eq_bytes]

end Sys2Proof.Machine

/-! What the device can do, said once. `Shift` lists the small changes everything the device does is made of, each with what holds when
it happens. Every operation of the model is a run of them, so an invariant is kept by every step when each small change keeps it, and
what an operation cannot do is read off the acts its run is permitted. -/

namespace Sys2Proof.Machine

open Safety

/-! ## The small changes -/

/-- What a run of changes may do beyond the device's own bookkeeping: move a branch's angle counter or its run of synthesised
closures (R54, R61), let a counter climb by its time or be brought up to a mark, order or retry a group of a branch (R119), take PLANT
out of a cause set (R158), lose sync (R62), fail a group
(R134), lock (R53), give up an acquisition with a cause (R52), execute a request of a kind (R187), evaluate the configuration (R2),
reset (R194). -/
inductive Act where
  | counter (b : Branch)
  | climb
  | order (b : Branch)
  | unplant
  | lose
  | fail
  | lock
  | quit (c : HaltCause)
  | request (k : RequestKind)
  | evaluate
  | reset

/-- The change is aside of everything the invariants and the rules of the whole device speak of. -/
structure Aside (s t : State) : Prop where
  pending : t.pending = s.pending
  oc : t.oc = s.oc
  chains : t.slr.chains = s.slr.chains
  syncSettings : t.ct.settings = s.ct.settings
  nominal : t.ct.nominal = s.ct.nominal
  tracks : t.ct.tracks = s.ct.tracks
  branches : t.bdu.branches = s.bdu.branches
  table : t.table = s.table
  valveSettings : t.vlc.settings = s.vlc.settings
  map : t.vlc.map = s.vlc.map
  firing : t.vlc.firing = s.vlc.firing
  causes : t.causes = s.causes
  latch : t.pli.latch = s.pli.latch
  ring : t.hr.ring = s.hr.ring
  nextSeq : t.hr.nextSeq = s.hr.nextSeq
  events : EventCountsBounded s → EventCountsBounded t
  failure : ∀ g, (t.vlc.groups.get g).failure = (s.vlc.groups.get g).failure
  orders : ∀ g, (t.vlc.groups.get g).counters.orders ≤ (s.vlc.groups.get g).counters.orders
  retries : ∀ g, (t.vlc.groups.get g).counters.retries ≤ (s.vlc.groups.get g).counters.retries
  sent : ∀ c, (t.vlc.channels.get c).sent = (s.vlc.channels.get c).sent

/-- A branch's tracking items move as the tracker moves them: a counter runs only in RUN and stays at or below 2048 + W (R54), and the
period estimate stands, or moves by R58. -/
structure TrackStep (s : State) (b : Branch) (t : Track) : Prop where
  counter : ∀ a, t.counter = some a → (s.oc.device = .run ∧ a.count ≤ topCount s) ∨
    ∃ a₀, (s.ct.tracks.get b).counter = some a₀ ∧ a.count ≤ max a₀.count (topCount s)
  period : t.period = (s.ct.tracks.get b).period ∨ t.period = some (periodOf s b) ∨
    ∃ i, t.period = some (updatePeriod (halfPeriod (nominalOf s)) (periodOf s b) i)

/-- A branch's firing items move outside an order: a delay may be disarmed, and a transaction closed or carried on for its group, where
the device runs or a transaction is open. -/
structure FiringStep (s : State) (b : Branch) (f : Firing) : Prop where
  armed : f.armed = none ∨ f.armed = (s.vlc.firing.get b).armed
  transaction : ∀ x, f.transaction = some x → ∃ x₀, (s.vlc.firing.get b).transaction = some x₀ ∧ x.group = x₀.group
  live : s.oc.device = .run ∨ (s.vlc.firing.get b).transaction ≠ none

/-- What SET_SYNC may make of the tracking settings (R64). -/
structure SyncInRange (x : SyncSettings) : Prop where
  hysteresis : x.hysteresis ≤ 16383
  halfWidth : 64 ≤ x.halfWidth ∧ x.halfWidth ≤ 512
  latency : x.latency ≤ 255
  limit : 2 ≤ x.limit ∧ x.limit ≤ 16

/-- One small change of the device, of those that `P` permits. -/
inductive Shift (P : Act → Prop) (s : State) : State → Prop where
  | aside {t : State} (h : Aside s t) : Shift P s t
  | cancel (c : CancelCause) : Shift P s (cancelLatch c s)
  | consume (v : PresetValues) (hlatch : s.pli.latch = some v) (hrun : s.oc.device = .run) : Shift P s (consumeLatch v s)
  | judge (words : PerQuantity (PerLink LinkWord)) (c : LinkChannel) : Shift P s (judgeChannel words c s)
  | tracks (ts : PerBranch Track) (h : ∀ b, TrackStep s b (ts.get b))
      (hp : ∀ b, (ts.get b).counter = (s.ct.tracks.get b).counter ∧
        (ts.get b).synthesisedRun = (s.ct.tracks.get b).synthesisedRun ∨
        P (.counter b) ∧ ((∀ a, (ts.get b).counter = some a → a.count < topCount s) ∨ P .climb)) :
      Shift P s { s with ct := { s.ct with tracks := ts } }
  | count (b : Branch) (n : Nat) (hp : P (.counter b)) (h : n ≤ topCount s ∨ (s.vlc.firing.get b).armed = some n)
      (ht : n < topCount s ∨ P .climb) :
      Shift P s (reachCount b n s)
  | windows (ds : PerBranch BranchDemand)
      (h : ∀ b, ∃ w, ds.get b = { s.bdu.branches.get b with window := w } ∧
        w.map (·.first) = (s.bdu.branches.get b).window.map (·.first)) : Shift P s { s with bdu := { s.bdu with branches := ds } }
  | decide (b : Branch) (kind : ClosureKind) (hrun : s.oc.device = .run) : Shift P s (decideClosure b kind s)
  | openWindow (b : Branch) (first : Bool) (hrun : s.oc.device = .run)
      (h : first = true ∨ (s.bdu.branches.get b).decision ≠ none) : Shift P s (openWindow b first s)
  | addCause (b : Branch) (c : BlockCause) : Shift P s (addCause b c s)
  | plant (b : Branch) (level : Bool) (h : level = false → P .unplant) :
      Shift P s (changeCauses b (fun c => { c with plant := level }) s)
  | fail (g : Group) (c : FailureCause) (h : (s.vlc.groups.get g).failure = none) (hp : P .fail) :
      Shift P s (Machine.addCause g.branch .valve (raise .groupFailed (modGroup g (fun r => { clearReadiness r with failure := some c }) s)))
  | firing (b : Branch) (f : Firing → Firing) (h : FiringStep s b (f (s.vlc.firing.get b))) : Shift P s (modFiring b f s)
  | arm (b : Branch) (m : Machine.Move) (hrun : s.oc.device = .run)
      (h : (s.bdu.branches.get b).decision = some (decisionOf s.table m)) (hd : (decisionOf s.table m).delay ≠ Config.noOrder) :
      Shift P s (modFiring b (fun _ => ⟨some (decisionOf s.table m).delay, none, none⟩) s)
  | order (b : Branch) (g : Group) (n : Nat) (hp : P (.order b)) (h : orderable s g = true) (hb : g.branch = b) :
      Shift P s (openTransaction b g n s)
  | retry (b : Branch) (x again : Transaction) (hp : P (.order b)) (hx : (s.vlc.firing.get b).transaction = some x)
      (h : orderable s x.group = true) (hg : again.group = x.group) :
      Shift P s (modFiring b (fun f => { f with transaction := some again })
        (modGroupCounters x.group (fun c => { c with retries := count16 c.retries }) (sendFire x.group x.tag s)))
  | halt (c : HaltCause) (b : Option Branch) (g : Option Group) (f : Option FailureCause) (hrun : s.oc.device = .run)
      (hc : c = .syncLost ∧ P .lose ∨ c = .valveFailed ∧ P .fail ∧ s.vlc.settings.tripOnBlock = true) :
      Shift P s (enterHalted c b g f s)
  | store (r : ClosureRecord) : Shift P s (storeRecord r s)
  | lock (n : Nominal) (hacquire : s.oc.device = .acquire) (hp : P .lock) : Shift P s (lock n s)
  | quit (c : HaltCause) (hacquire : s.oc.device = .acquire) (hp : P (.quit c)) : Shift P s (enterHalted c none none none s)
  | enable (hready : s.oc.device = .ready) (hp : P (.request .enable)) : Shift P s (beginAcquisition s)
  | disable (hp : P (.request .disable)) : Shift P s (disableDevice s)
  | evaluate (hp : P .evaluate) : Shift P s (evaluateConfiguration s)
  | setSync (x : SyncSettings) (hstill : s.oc.device = .unset ∨ s.oc.device = .ready) (h : SyncInRange x)
      (hp : P (.request .setSync)) : Shift P s { s with ct := { s.ct with settings := x } }
  | load (t : List Nat) (hstill : s.oc.device = .unset ∨ s.oc.device = .ready) (hlen : t.length = 65) (h : firstFault t = none)
      (hp : P (.request .loadTable)) : Shift P s (evaluateConfiguration { s with table := some t })
  | configure (b : Branch) (x : BranchSettings) (hgain : x.gain ≠ 0) (hfallback : x.fallback ≤ 4095)
      (hp : P (.request .setBranch)) : Shift P s (evaluateConfiguration (modDemand b (fun d => { d with settings := x }) s))
  | setValve (x : ValveSettings) (hp : P (.request .setValve)) : Shift P s { s with vlc := { s.vlc with settings := x } }
  | resetChannels (hp : P (.request .resetChannels)) : Shift P s (doResetChannels s).state
  | remap (g : Group) (c : ValveChannel) (h : heldByOther s g c = false) (hp : P (.request .mapGroup)) :
      Shift P s (modGroup g movedGroup { s with vlc := { s.vlc with map := s.vlc.map.set g c } })
  | unfail (g : Group) (hp : P (.request .resetGroup)) :
      Shift P s (modGroup g (fun r => { r with failure := none, misfireRun := 0, refusalRun := 0 }) s)
  | unblock (b : Branch) (h : branchHasFailed s b = false) (hp : P (.request .unblock)) :
      Shift P s (changeCauses b unblockSet s)
  | armLatch (v : PresetValues) (hstarted : s.oc.device = .acquire ∨ s.oc.device = .run) (h : ∀ b, v.values.get b ≤ 4095)
      (hp : P (.request .armPreset)) : Shift P s { s with pli := { s.pli with latch := some v } }
  | reset (hr : History) (k : ResetKind) (n : Nat) (h : hr = s.hr ∨ hr = .reset) (hp : P .reset) :
      Shift P s (resetBlocks hr k n s)

/-- A run of small changes. -/
abbrev Shifts (P : Act → Prop) : State → State → Prop := Relation.ReflTransGen (Shift P)

namespace Aside

theorem refl (s : State) : Aside s s := by constructor <;> simp

theorem trans {s t u : State} (h : Aside s t) (k : Aside t u) : Aside s u where
  pending := k.pending.trans h.pending
  oc := k.oc.trans h.oc
  chains := k.chains.trans h.chains
  syncSettings := k.syncSettings.trans h.syncSettings
  nominal := k.nominal.trans h.nominal
  tracks := k.tracks.trans h.tracks
  branches := k.branches.trans h.branches
  table := k.table.trans h.table
  valveSettings := k.valveSettings.trans h.valveSettings
  map := k.map.trans h.map
  firing := k.firing.trans h.firing
  causes := k.causes.trans h.causes
  latch := k.latch.trans h.latch
  ring := k.ring.trans h.ring
  nextSeq := k.nextSeq.trans h.nextSeq
  events := k.events ∘ h.events
  failure g := (k.failure g).trans (h.failure g)
  orders g := (k.orders g).trans (h.orders g)
  retries g := (k.retries g).trans (h.retries g)
  sent c := (k.sent c).trans (h.sent c)

/-- A change of the interface alone that takes no event count above its bound. -/
theorem interface (s : State) (x : Supervisory) (h : EventCountsBounded s → ∀ k, (x.events.get k).count ≤ 255) :
    Aside s { s with sli := x } := by
  constructor
  case events => exact h
  all_goals simp

/-- A change of the recorder that leaves the ring and its numbering. -/
theorem recorder (s : State) (h : History) (hr : h.ring = s.hr.ring) (hn : h.nextSeq = s.hr.nextSeq) :
    Aside s { s with hr := h } := by constructor <;> simp [hr, hn, EventCountsBounded]

theorem receiver (s : State) (f : SampleLink → SampleLink) (h : (f s.slr).chains = s.slr.chains) : Aside s (modLink f s) := by
  constructor <;> simp [h, EventCountsBounded]

theorem clock (s : State) (c : Clock) : Aside s { s with clock := c } := by constructor <;> simp [EventCountsBounded]

theorem channel (s : State) (c : ValveChannel) (f : ChannelState → ChannelState)
    (h : (f (s.vlc.channels.get c)).sent = (s.vlc.channels.get c).sent) : Aside s (modChannel c f s) := by
  constructor <;> simp [EventCountsBounded]
  intro k
  by_cases e : k = c
  · simp [e, h]
  · rw [PerValve.get_set_ne _ _ _ _ e]

theorem group (s : State) (g : Group) (f : GroupState → GroupState)
    (hf : (f (s.vlc.groups.get g)).failure = (s.vlc.groups.get g).failure)
    (ho : (f (s.vlc.groups.get g)).counters.orders ≤ (s.vlc.groups.get g).counters.orders)
    (hr : (f (s.vlc.groups.get g)).counters.retries ≤ (s.vlc.groups.get g).counters.retries) : Aside s (modGroup g f s) := by
  constructor <;> simp [EventCountsBounded] <;> intro k <;> by_cases e : k = g <;> simp [e, PerGroup.get_set_ne, hf, ho, hr]

theorem groupCounters (s : State) (g : Group) (f : GroupCounters → GroupCounters)
    (ho : (f (s.vlc.groups.get g).counters).orders ≤ (s.vlc.groups.get g).counters.orders)
    (hr : (f (s.vlc.groups.get g).counters).retries ≤ (s.vlc.groups.get g).counters.retries) :
    Aside s (modGroupCounters g f s) := group s g _ rfl ho hr

theorem noteEvent (k : EventKind) (s : State) : Aside s (Machine.noteEvent k s) := by
  refine interface s _ fun h j => ?_
  by_cases e : j = k
  · simp [e, bump_le]
  · simpa [PerEvent.get_set_ne _ _ _ _ e] using h j

theorem takeTrigger (c : TriggerCause) (s : State) : Aside s (Machine.takeTrigger c s) := by
  unfold Machine.takeTrigger
  split
  · dsimp only
    split
    · exact (recorder s { s.hr with
        capture := .frozen, trigger := some ⟨c, s.hr.ring.getLast?.map (·.seq), s.slr.frameIndex⟩, remaining := s.hr.post
        ignored := 0, suppressed := 0 } rfl rfl).trans (noteEvent _ _)
    · exact recorder s _ rfl rfl
  · exact recorder s _ rfl rfl

theorem offerTrigger (c : TriggerCause) (s : State) : Aside s (Machine.offerTrigger c s) := by
  unfold Machine.offerTrigger
  split
  · exact takeTrigger c s
  · exact refl s

theorem raise (k : EventKind) (s : State) : Aside s (Machine.raise k s) := by
  unfold Machine.raise
  split
  · exact (noteEvent k s).trans (offerTrigger _ _)
  · exact noteEvent k s

/-- Raising an event after what is aside is aside. -/
theorem raised {s t : State} (k : EventKind) (h : Aside s t) : Aside s (Machine.raise k t) := h.trans (raise k t)

end Aside

/-- What fewer acts permit, more permit. -/
theorem Shift.mono {P Q : Act → Prop} (h : ∀ a, P a → Q a) {s t : State} (k : Shift P s t) : Shift Q s t := by
  cases k with
  | aside k => exact .aside k
  | cancel c => exact .cancel c
  | consume v hl hr => exact .consume v hl hr
  | judge w c => exact .judge w c
  | tracks ts k hp => exact .tracks ts k fun b => (hp b).imp_right fun e => ⟨h _ e.1, e.2.imp_right (h _)⟩
  | count b n hp k ht => exact .count b n (h _ hp) k (ht.imp_right (h _))
  | windows ds k => exact .windows ds k
  | decide b k hr => exact .decide b k hr
  | openWindow b f hr k => exact .openWindow b f hr k
  | addCause b c => exact .addCause b c
  | plant b l k => exact .plant b l fun e => h _ (k e)
  | fail g c k hp => exact .fail g c k (h _ hp)
  | firing b f k => exact .firing b f k
  | arm b m hr k hd => exact .arm b m hr k hd
  | order b g n hp k hb => exact .order b g n (h _ hp) k hb
  | retry b x a hp hx k hg => exact .retry b x a (h _ hp) hx k hg
  | halt c b g f hr hc => exact .halt c b g f hr (hc.imp (.imp_right (h _)) (.imp_right (.imp_left (h _))))
  | store r => exact .store r
  | lock n ha hp => exact .lock n ha (h _ hp)
  | quit c ha hp => exact .quit c ha (h _ hp)
  | enable hr hp => exact .enable hr (h _ hp)
  | disable hp => exact .disable (h _ hp)
  | evaluate hp => exact .evaluate (h _ hp)
  | setSync x hs k hp => exact .setSync x hs k (h _ hp)
  | load t hs hl k hp => exact .load t hs hl k (h _ hp)
  | configure b x hg hb hp => exact .configure b x hg hb (h _ hp)
  | setValve x hp => exact .setValve x (h _ hp)
  | resetChannels hp => exact .resetChannels (h _ hp)
  | remap g c k hp => exact .remap g c k (h _ hp)
  | unfail g hp => exact .unfail g (h _ hp)
  | unblock b k hp => exact .unblock b k (h _ hp)
  | armLatch v hs k hp => exact .armLatch v hs k (h _ hp)
  | reset hr k n e hp => exact .reset hr k n e (h _ hp)

namespace Shifts

variable {P : Act → Prop}

theorem aside {s t : State} (h : Aside s t) : Shifts P s t := .single (.aside h)

theorem raise {s t : State} (k : EventKind) (h : Shifts P s t) : Shifts P s (Machine.raise k t) := h.tail (.aside (.raise k t))

theorem mono {Q : Act → Prop} (h : ∀ a, P a → Q a) {s t : State} (hs : Shifts P s t) : Shifts Q s t := by
  induction hs with
  | refl => exact .refl
  | tail _ hlast ih => exact ih.tail (hlast.mono h)

end Shifts

/-! ## Groups and cause sets (R134, R145 to R153) -/

section
variable {P : Act → Prop} {s : State}

/-- R134, R146, R152: an AVAILABLE group fails and its branch gains VALVE, and where that is new the device may halt. -/
theorem failGroup_shifts (g : Group) (c : FailureCause) (hp : P .fail) : Shifts P s (failGroup g c s) := by
  unfold failGroup
  split
  · exact .refl
  · next havailable =>
    have hfails : Shifts P s _ := .single (.fail g c havailable hp)
    dsimp only
    split
    · next hhalts =>
      simp only [Bool.and_eq_true, beq_iff_eq] at hhalts
      exact hfails.tail (.halt _ _ _ _ hhalts.1.2 (.inr ⟨rfl, hp, hhalts.2⟩))
    · exact hfails

theorem enterSilent_shifts (c : ValveChannel) (hp : P .fail) : Shifts P s (enterSilent c s) := by
  unfold enterSilent
  split
  · have hsilent : Aside s (raise .channelSilent (modChannel c (fun r =>
        { r with link := .silent, silence := Config.silenceMark, silences := count16 r.silences }) s)) :=
      .raised _ (.channel s c _ rfl)
    dsimp only
    split
    · exact (Shifts.aside hsilent).trans (failGroup_shifts _ _ hp)
    · exact .aside hsilent
  · exact .refl

/-! ## Readiness and indications (R113 to R118) -/

theorem hearChannel_aside (c : ValveChannel) : Aside s (hearChannel c s) := .channel s c _ rfl

theorem takeFv_aside (g : Group) : Aside s (takeFv g s) := by
  unfold takeFv
  dsimp only
  repeat' split
  · exact .group s g _ rfl le_rfl le_rfl
  · exact .refl s
  · exact .group s g _ rfl le_rfl le_rfl
  · exact .refl s
  · exact .raised _ (.groupCounters s g _ le_rfl le_rfl)
  · exact .refl s

theorem clearReadiness_aside (g : Group) : Aside s (modGroup g clearReadiness s) := .group s g _ rfl le_rfl le_rfl

theorem moveReadiness_aside (b : Branch) (p : Polarity) : Aside s (moveReadiness b p s) :=
  (Aside.group s _ _ rfl le_rfl le_rfl).trans (clearReadiness_aside _)

theorem clearBranchReadiness_aside (b : Branch) : Aside s (clearBranchReadiness b s) :=
  (clearReadiness_aside _).trans (clearReadiness_aside _)

theorem countStray_aside (g : Group) : Aside s (countStray g s) := .raised _ (.groupCounters s g _ le_rfl le_rfl)

theorem takeSelfFired_aside (g : Group) : Aside s (takeSelfFired g s) := .raised _ (.groupCounters s g _ le_rfl le_rfl)

theorem compareStatus_aside (g : Group) (st : ValveStatus) : Aside s (compareStatus g st s) := by
  unfold compareStatus
  dsimp only
  split
  · exact .raised _ (.group s g _ rfl le_rfl le_rfl)
  · exact .refl s

theorem checkLimits_shifts (g : Group) (st : ValveStatus) (hp : P .fail) : Shifts P s (checkLimits g st s) := by
  unfold checkLimits
  repeat' split
  · exact failGroup_shifts _ _ hp
  · exact failGroup_shifts _ _ hp
  · exact .refl

/-! ## Transactions (R119 to R130) -/

theorem settle_shifts (b : Branch) (o : Outcome) (n : Option Nat)
    (h : s.oc.device = .run ∨ (s.vlc.firing.get b).transaction ≠ none) : Shifts P s (settle b o n s) :=
  .single (.firing b _ ⟨.inr rfl, by simp, h⟩)

theorem closeOvertaken_shifts (b : Branch) (x : Transaction)
    (h : s.oc.device = .run ∨ (s.vlc.firing.get b).transaction ≠ none) : Shifts P s (closeOvertaken b x s) :=
  (settle_shifts b .overtaken _ h).tail (.aside (.groupCounters _ _ _ le_rfl le_rfl))

theorem closeFired_shifts (b : Branch) (x : Transaction)
    (h : s.oc.device = .run ∨ (s.vlc.firing.get b).transaction ≠ none) : Shifts P s (closeFired b x s) :=
  (settle_shifts b .fired _ h).tail (.aside (.group _ _ _ rfl le_rfl le_rfl))

/-- A transaction closes with an outcome that its group counts and an event reports. -/
theorem closed_shifts (b : Branch) (x : Transaction) (o : Outcome) (k : EventKind) (f : GroupState → GroupState)
    (h : s.oc.device = .run ∨ (s.vlc.firing.get b).transaction ≠ none)
    (hf : ∀ r, (f r).failure = r.failure ∧ (f r).counters.orders ≤ r.counters.orders ∧
      (f r).counters.retries ≤ r.counters.retries) :
    Shifts P s (raise k (modGroup x.group f (settle b o (some x.attempts) s))) :=
  .raise k ((settle_shifts b o _ h).tail (.aside (.group _ _ _ (hf _).1 (hf _).2.1 (hf _).2.2)))

theorem closeRefused_shifts (b : Branch) (x : Transaction) (c : RefusalCause)
    (h : s.oc.device = .run ∨ (s.vlc.firing.get b).transaction ≠ none) (hp : P .fail) : Shifts P s (closeRefused b x c s) := by
  unfold closeRefused
  dsimp only
  split
  · refine .trans ?_ (failGroup_shifts _ _ hp)
    exact closed_shifts b x _ _ _ h fun _ => ⟨rfl, le_rfl, le_rfl⟩
  · exact closed_shifts b x _ _ _ h fun _ => ⟨rfl, le_rfl, le_rfl⟩

theorem closeMisfire_shifts (b : Branch) (x : Transaction)
    (h : s.oc.device = .run ∨ (s.vlc.firing.get b).transaction ≠ none) (hp : P .fail) : Shifts P s (closeMisfire b x s) := by
  unfold closeMisfire
  dsimp only
  split
  · refine .trans ?_ (failGroup_shifts _ _ hp)
    exact closed_shifts b x _ _ _ h fun _ => ⟨rfl, le_rfl, le_rfl⟩
  · exact closed_shifts b x _ _ _ h fun _ => ⟨rfl, le_rfl, le_rfl⟩

theorem matching_ne_none {g : Group} {tag : BitVec 4} {x : Transaction} (h : matching s g tag = some x) :
    (s.vlc.firing.get g.branch).transaction ≠ none := by
  rintro e
  simp [matching, e] at h

theorem takeFired_shifts (g : Group) (tag : BitVec 4) : Shifts P s (takeFired g tag s) := by
  unfold takeFired
  split
  · next h => exact closeFired_shifts _ _ (.inr (matching_ne_none h))
  · exact .aside (countStray_aside g)

theorem takeRefused_shifts (g : Group) (tag : BitVec 4) (c : RefusalCause) (hp : P .fail) :
    Shifts P s (takeRefused g tag c s) := by
  unfold takeRefused
  split
  · next h => exact closeRefused_shifts _ _ _ (.inr (matching_ne_none h)) hp
  · exact .aside (countStray_aside g)

/-- R113: an indication may fail its group only where it is a REFUSED or a STATUS. -/
theorem takeIndication_shifts (c : ValveChannel) (i : Indication)
    (hp : P .fail ∨ i = .fv ∨ i = .selfFired ∨ ∃ tag, i = .fired tag) : Shifts P s (takeIndication c i s) := by
  have hheard : Shifts P s (hearChannel c s) := .aside (hearChannel_aside c)
  have hstored (st : ValveStatus) : Shifts P s (modChannel c (fun r => { r with status := some st }) (hearChannel c s)) :=
    hheard.tail (.aside (.channel _ c _ rfl))
  unfold takeIndication
  dsimp only
  split <;> split
  · exact hstored _
  · exact hheard
  · exact hheard.tail (.aside (takeFv_aside _))
  · exact hheard.trans (takeFired_shifts _ _)
  · exact hheard.trans (takeRefused_shifts _ _ _ (by simpa using hp))
  · exact hheard.tail (.aside (takeSelfFired_aside _))
  · exact ((hstored _).tail (.aside (compareStatus_aside _ _))).trans (checkLimits_shifts _ _ (by simpa using hp))

theorem takeValveFrame_shifts (c : ValveChannel) (bytes : List Byte) (hp : P .fail ∨ readIndication bytes = none) :
    Shifts P s (takeValveFrame c bytes s) := by
  unfold takeValveFrame
  split
  · next h => exact takeIndication_shifts c _ (.inl (by simpa [h] using hp))
  · exact .aside (.channel s c _ rfl)

/-! ## The marks of the angle counter (R110, R124, R125) -/

theorem counterRuns_run {b : Branch} (h : counterRuns s b = true) : s.oc.device = .run := by
  simp only [counterRuns, Bool.and_eq_true, beq_iff_eq] at h
  exact h.1

@[simp] theorem topCount_reachCount (b : Branch) (n : Nat) : topCount (reachCount b n s) = topCount s := rfl

theorem reachDelay_shifts (b : Branch) (hc : P (.counter b)) (hu : P .climb) (ho : P (.order b)) : Shifts P s (reachDelay b s) := by
  unfold reachDelay
  split
  · exact .refl
  · next delay harmed =>
    split
    · next hruns =>
      have hrun : s.oc.device = .run := counterRuns_run hruns
      have hreached : Shifts P s (modFiring b (fun f => { f with armed := none }) (reachCount b delay s)) :=
        (Relation.ReflTransGen.single (.count b delay hc (.inr harmed) (.inr hu))).tail
          (.firing b _ ⟨.inl rfl, fun x hx => ⟨x, hx, rfl⟩, .inl hrun⟩)
      dsimp only
      split
      · next hready =>
        simp only [Bool.and_eq_true] at hready
        exact hreached.tail (.order b _ _ ho hready.2 (Branch.branch_group b _))
      · exact (hreached.tail (.firing b _ ⟨.inr rfl, fun x hx => ⟨x, hx, rfl⟩, .inl hrun⟩)).tail
          (.aside (.groupCounters _ _ _ le_rfl le_rfl))
    · exact .refl

theorem reachGuardEnd_shifts (b : Branch) (hc : P (.counter b)) (hu : P .climb) (hf : P .fail) : Shifts P s (reachGuardEnd b s) := by
  unfold reachGuardEnd
  split
  · next x hx =>
    split
    · next hdue =>
      obtain ⟨-, htop, hruns⟩ := hdue
      have hrun : s.oc.device = .run := counterRuns_run hruns
      have hreached : Shifts P s (reachCount b x.guardEnd s) := .single (.count b _ hc (.inl htop) (.inr hu))
      dsimp only
      split
      · exact hreached.tail (.firing b _ ⟨.inr rfl, fun y hy => ⟨x, hx, by cases hy; rfl⟩, .inl hrun⟩)
      · exact hreached.trans (closeMisfire_shifts b x (.inl hrun) hf)
    · exact .refl
  · exact .refl

theorem reachRetry_shifts (b : Branch) (hc : P (.counter b)) (hu : P .climb) (ho : P (.order b)) (hf : P .fail) :
    Shifts P s (reachRetry b s) := by
  unfold reachRetry
  split
  · next x hx =>
    dsimp only
    split
    · next hdue =>
      obtain ⟨-, htop, hruns, hmay⟩ := hdue
      have hrun : s.oc.device = .run := counterRuns_run hruns
      have hreached : Shifts P s (reachCount b (x.guardEnd + Config.retryGap) s) := .single (.count b _ hc (.inl htop) (.inr hu))
      split
      · exact hreached.tail (.retry b x _ ho hx hmay rfl)
      · exact hreached.trans (closeMisfire_shifts b x (.inl hrun) hf)
    · exact .refl
  · exact .refl

/-- What stands at the next mark is one of the three marks. -/
theorem nextMark_act {b : Branch} {n : Nat} {act : Branch → State → State} (h : nextMark s b = some (n, act)) :
    act = reachDelay ∨ act = reachGuardEnd ∨ act = reachRetry := by
  unfold nextMark at h
  repeat' split at h
  all_goals simp_all

theorem passMarks_shifts (limit : Nat) (b : Branch) (fuel : Nat) (hc : P (.counter b)) (hu : P .climb) (ho : P (.order b)) (hf : P .fail) :
    Shifts P s (passMarks limit b fuel s) := by
  induction fuel generalizing s with
  | zero => exact .refl
  | succ fuel ih =>
    unfold passMarks
    split
    · next mark act hmark =>
      split
      · refine .trans ?_ ih
        obtain rfl | rfl | rfl := nextMark_act hmark
        · exact reachDelay_shifts b hc hu ho
        · exact reachGuardEnd_shifts b hc hu hf
        · exact reachRetry_shifts b hc hu ho hf
      · exact .refl
    · exact .refl

/-- R112: the half-cycle that ends is settled; only an open transaction can fail its group in it. -/
theorem settleHalfCycle_shifts (b : Branch) (hrun : s.oc.device = .run)
    (hf : P .fail ∨ (s.vlc.firing.get b).transaction = none) : Shifts P s (settleHalfCycle b s) := by
  have hdisarmed : Shifts P s (modFiring b (fun f => { f with armed := none }) s) :=
    .single (.firing b _ ⟨.inl rfl, fun x hx => ⟨x, hx, rfl⟩, .inl hrun⟩)
  unfold settleHalfCycle
  dsimp only
  split
  · next hopen =>
    replace hf : P .fail := hf.resolve_right (by simp [hopen])
    split
    · exact hdisarmed.trans (closeMisfire_shifts b _ (.inl hrun) hf)
    · exact hdisarmed.trans (closeOvertaken_shifts b _ (.inl hrun))
  · exact hdisarmed
  · exact hdisarmed.trans (settle_shifts b _ _ (.inl hrun))

/-- R107, R109: a decided delay handed over is armed, or settles the half-cycle. -/
theorem handOver_shifts (b : Branch) (p : Polarity) (m : Machine.Move) (n : Nat) (hrun : s.oc.device = .run)
    (hm : (s.bdu.branches.get b).decision = some (decisionOf s.table m)) :
    Shifts P s (handOver b p (decisionOf s.table m).delay n s) := by
  have hsettled (o : Outcome) : Shifts P s (modFiring b (fun _ => ⟨none, some ⟨o, none⟩, none⟩) s) :=
    .single (.firing b _ ⟨.inl rfl, by simp, .inl hrun⟩)
  unfold handOver
  split
  · exact hsettled _
  · next horder =>
    split
    · exact .raise _ ((hsettled _).tail (.aside (.groupCounters _ _ _ le_rfl le_rfl)))
    · exact .single (.arm b m hrun hm horder)

end

end Sys2Proof.Machine

/-! Closures, crossings, sync loss, plant lines and the sample link as runs of small changes. -/

namespace Sys2Proof.Machine

open Safety

section
variable {P : Act → Prop} {s : State}

/-! ## A closure (R60, R72, R107) -/

theorem takePicks_aside (n : Nat) : Aside s (takePicks n s) := .clock s _

theorem noOrder_le_topCount : Config.noOrder ≤ topCount s := Nat.le_add_right _ _

theorem handOverDelay_shifts (b : Branch) (kind : ClosureKind) (p : Polarity) (m : Machine.Move) (n : Nat)
    (hrun : s.oc.device = .run) (hm : (s.bdu.branches.get b).decision = some (decisionOf s.table m)) (hc : P (.counter b)) :
    Shifts P s (handOverDelay b kind p (decisionOf s.table m).delay n s) := by
  have hpicked : Shifts P s (takePicks 1 s) := .aside (takePicks_aside 1)
  unfold handOverDelay
  split
  · next hmeets =>
    have hbelow : (decisionOf s.table m).delay < Config.noOrder := by
      simp only [advanceMeets, Bool.and_eq_true, decide_eq_true_eq] at hmeets
      exact hmeets.2
    split
    · exact hpicked.trans (handOver_shifts (s := takePicks 1 s) b p m n hrun hm)
    · have hadvanced : Shifts P s (reachCount b (decisionOf s.table m).delay (takePicks 1 s)) :=
        hpicked.tail (.count b _ hc (.inl (hbelow.le.trans noOrder_le_topCount)) (.inl (hbelow.trans_le noOrder_le_topCount)))
      exact hadvanced.trans (handOver_shifts (s := reachCount b _ (takePicks 1 s)) b p m _ hrun hm)
  · exact handOver_shifts b p m n hrun hm

/-- The decided branch's closure is recorded, its next window opens, and its delay is handed over. -/
theorem finishClosure_shifts (b : Branch) (kind : ClosureKind) (ended polarity : Polarity) (start : Nat) (before : BranchDemand)
    (m : Machine.Move) (hrun : s.oc.device = .run) (hm : (s.bdu.branches.get b).decision = some (decisionOf s.table m))
    (hc : P (.counter b)) : Shifts P s (finishClosure b kind ended polarity start before s) := by
  unfold finishClosure
  dsimp only
  generalize hstored : storeRecord (closureRecord b kind ended before s) s = u
  obtain ⟨hoc, hbdu, htable⟩ : u.oc = s.oc ∧ u.bdu = s.bdu ∧ u.table = s.table := by simp [← hstored]
  have hdecided : (u.bdu.branches.get b).decision ≠ none := by simp [hbdu, hm]
  have hopened : Shifts P s (openWindow b false u) :=
    (Relation.ReflTransGen.single (hstored ▸ .store _)).tail (.openWindow b false (by rw [hoc, hrun]) (.inr hdecided))
  have hmoved : Shifts P s (moveReadiness b polarity (openWindow b false u)) := hopened.tail (.aside (moveReadiness_aside _ _))
  have hdelay : (((openWindow b false u).bdu.branches.get b).decision.map (·.delay)).getD Config.noOrder =
      (decisionOf u.table m).delay := by simp [openWindow, hbdu, hm, htable]
  rw [hdelay]
  refine hmoved.trans (handOverDelay_shifts (s := moveReadiness b polarity (openWindow b false u)) b kind polarity m start ?_ ?_ hc)
  · simp [hoc, hrun]
  · simp [openWindow, hbdu, hm, htable]

theorem decideClosure_decision (b : Branch) (kind : ClosureKind) :
    ((decideClosure b kind s).bdu.branches.get b).decision =
      some (decisionOf (decideClosure b kind s).table (closureMove s b kind)) := by
  simp [decideClosure_branches, closedDemand]

theorem closeHalfCycle_shifts (b : Branch) (kind : ClosureKind) (ended polarity : Polarity) (start : Nat)
    (hrun : s.oc.device = .run) (hc : P (.counter b)) (hf : P .fail ∨ (s.vlc.firing.get b).transaction = none) :
    Shifts P s (closeHalfCycle b kind ended polarity start s) := by
  have hsettled : Shifts P s (settleHalfCycle b s) := settleHalfCycle_shifts b hrun hf
  unfold closeHalfCycle
  dsimp only
  split
  · next hstill =>
    refine (hsettled.tail (.decide b kind hstill)).trans
      (finishClosure_shifts b kind ended polarity start _ _ ?_ (decideClosure_decision b kind) hc)
    simpa using hstill
  · exact hsettled

/-! ## Crossings (R55 to R57) and synthesised closures (R61, R62) -/

/-- A change of one branch's tracking items. -/
theorem modTrack_shifts (b : Branch) (f : Track → Track) (h : TrackStep s b (f (s.ct.tracks.get b)))
    (hp : (f (s.ct.tracks.get b)).counter = (s.ct.tracks.get b).counter ∧
      (f (s.ct.tracks.get b)).synthesisedRun = (s.ct.tracks.get b).synthesisedRun ∨
      P (.counter b) ∧ ((∀ a, (f (s.ct.tracks.get b)).counter = some a → a.count < topCount s) ∨ P .climb)) :
    Shifts P s (modTrack b f s) := by
  refine .single (.tracks _ (fun c => ?_) fun c => ?_) <;> by_cases e : c = b
  · simpa [e] using h
  · rw [PerBranch.get_set_ne _ _ _ _ e]
    exact ⟨fun a ha => .inr ⟨a, ha, le_max_left ..⟩, .inl rfl⟩
  · simpa [e] using hp
  · exact .inl (by rw [PerBranch.get_set_ne _ _ _ _ e]; exact ⟨rfl, rfl⟩)

/-- Tracking items other than the counter, the run of synthesised closures and the period are the tracker's own. -/
theorem modTrack_shifts_of_stands (b : Branch) (f : Track → Track)
    (hc : (f (s.ct.tracks.get b)).counter = (s.ct.tracks.get b).counter)
    (hn : (f (s.ct.tracks.get b)).synthesisedRun = (s.ct.tracks.get b).synthesisedRun)
    (hp : (f (s.ct.tracks.get b)).period = (s.ct.tracks.get b).period) : Shifts P s (modTrack b f s) :=
  modTrack_shifts b f ⟨fun a ha => .inr ⟨a, hc ▸ ha, le_max_left ..⟩, .inl hp⟩ (.inl ⟨hc, hn⟩)

theorem startCount_lt_topCount (p : Nat) (position : Position) : startCount s p position < topCount s := by
  have hcap : startCount s p position ≤ 2047 := Nat.min_le_left ..
  exact hcap.trans_lt (Nat.lt_of_lt_of_le (by decide) (Nat.le_add_right Config.halfCycle _))

theorem startCrossing_shifts (b : Branch) (c : Candidate) (hrun : s.oc.device = .run) (hc : P (.counter b)) :
    Shifts P s (startCrossing b c s) := by
  unfold startCrossing
  dsimp only
  refine .tail (.tail (modTrack_shifts b _ ⟨?_, .inl rfl⟩ (.inr ⟨hc, .inl ?_⟩)) (.openWindow b true hrun (.inl rfl)))
    (.aside (clearBranchReadiness_aside b))
  · rintro a ⟨⟩
    exact .inl ⟨hrun, (startCount_lt_topCount _ _).le⟩
  · rintro a ⟨⟩
    exact startCount_lt_topCount _ _

theorem rejectCrossing_shifts (b : Branch) : Shifts P s (rejectCrossing b s) :=
  Shifts.raise _ (modTrack_shifts_of_stands b _ rfl rfl rfl)

theorem acceptCrossing_shifts (b : Branch) (c : Candidate) (hrun : s.oc.device = .run) (hc : P (.counter b))
    (hf : P .fail ∨ (s.vlc.firing.get b).transaction = none) :
    Shifts P s (acceptCrossing b c s) := by
  unfold acceptCrossing
  dsimp only
  refine .trans (modTrack_shifts b _ ⟨?_, ?_⟩ (.inr ⟨hc, .inl ?_⟩)) (closeHalfCycle_shifts b _ _ _ _ hrun hc hf)
  · rintro a ⟨⟩
    exact .inl ⟨hrun, (startCount_lt_topCount _ _).le⟩
  · cases (s.ct.tracks.get b).lastAccepted
    · exact .inr (.inl rfl)
    · exact .inr (.inr ⟨_, rfl⟩)
  · rintro a ⟨⟩
    exact startCount_lt_topCount _ _

theorem runCrossing_shifts (b : Branch) (c : Candidate) (hrun : s.oc.device = .run) (hc : P (.counter b))
    (hf : P .fail ∨ (s.vlc.firing.get b).transaction = none) :
    Shifts P s (runCrossing b c s) := by
  unfold runCrossing
  split
  · exact startCrossing_shifts b c hrun hc
  · split
    · exact acceptCrossing_shifts b c hrun hc hf
    · exact rejectCrossing_shifts b

theorem loseSync_shifts (b : Branch) (hl : P .lose) : Shifts P s (loseSync b s) := by
  have hlost : Shifts P s (addCause b .sync (raise .syncLost (modTrack b (fun t => { t with sync := .outOfSync }) s))) :=
    .tail (Shifts.raise _ (modTrack_shifts_of_stands b _ rfl rfl rfl)) (.addCause b .sync)
  unfold loseSync
  dsimp only
  split
  · next hrun => exact hlost.tail (.halt _ _ _ _ hrun (.inl ⟨rfl, hl⟩))
  · exact hlost

theorem loseAtLimit_shifts (b : Branch) (hl : P .lose) : Shifts P s (loseAtLimit b s) := by
  unfold loseAtLimit
  split
  · exact loseSync_shifts b hl
  · exact .refl

/-- R61: a counter synthesised back to W runs in RUN; outside it none runs. -/
theorem noteSynthesised_shifts (b : Branch) (counter : Option AngleCounter)
    (h : ∀ a, counter = some a → s.oc.device = .run ∧ a.count < topCount s) (hc : P (.counter b)) :
    Shifts P s (noteSynthesised b counter s) :=
  Shifts.raise _ (modTrack_shifts b _ ⟨fun a ha => .inl ((h a ha).imp_right le_of_lt), .inl rfl⟩
    (.inr ⟨hc, .inl fun a ha => (h a ha).2⟩))

theorem synthesise_shifts (b : Branch) (hrun : s.oc.device = .run) (hc : P (.counter b)) (hf : P .fail) :
    Shifts P s (synthesise b s) := by
  unfold synthesise
  dsimp only
  refine .trans (noteSynthesised_shifts b _ ?_ hc) (closeHalfCycle_shifts b _ _ _ _ (by simpa using hrun) hc (.inl hf))
  rintro a ⟨⟩
  exact ⟨hrun, Nat.lt_add_of_pos_left (by decide)⟩

/-- R61: a counter that a command brings to 2048 + W passes its branch's marks and may order; one that stands there may not. -/
theorem closeAtTop_shifts (b : Branch) (hc : P (.counter b)) (hf : P .fail)
    (ho : P (.order b) ∧ P .climb ∨ (counterRuns s b = true → topCount s ≤ countOf s b)) : Shifts P s (closeAtTop b s) := by
  have hclosed {t : State} : Shifts P t (if counterRuns t b then synthesise b t else t) := by
    split
    · next hruns => exact synthesise_shifts b (counterRuns_run hruns) hc hf
    · exact .refl
  unfold closeAtTop
  split
  · next hruns =>
    dsimp only
    split
    · next hbelow =>
      obtain ⟨horder, hclimb⟩ := ho.resolve_right fun h => absurd (h hruns) (Nat.not_le.mpr hbelow)
      exact (passMarks_shifts _ b 8 hc hclimb horder hf).trans hclosed
    · exact synthesise_shifts b (counterRuns_run hruns) hc hf
  · split
    · exact noteSynthesised_shifts b none (by simp) hc
    · exact .refl

end

/-! ## What a run of changes cannot do -/

/-- R2: the configuration's evaluation moves the device to READY, or not at all. -/
theorem evaluateConfiguration_oc (s : State) : (evaluateConfiguration s).oc = s.oc ∨
    s.oc.device = .unset ∧ configured s = true ∧ (evaluateConfiguration s).oc = { s.oc with device := .ready } := by
  unfold evaluateConfiguration
  split
  · next h => exact .inr ⟨h.1, h.2, rfl⟩
  · exact .inl rfl

theorem evaluateConfiguration_run {s : State} (h : (evaluateConfiguration s).oc.device = .run) : s.oc.device = .run := by
  obtain e | ⟨-, -, e⟩ := evaluateConfiguration_oc s <;> rw [e] at h
  · exact h
  · exact absurd h (by simp)

/-- No change but a lock enters RUN, and one that may not move a branch's counter leaves it as it is while RUN lasts. -/
structure CounterStands (b : Branch) (s t : State) : Prop where
  run : t.oc.device = .run → s.oc.device = .run
  counter : t.oc.device = .run → (t.ct.tracks.get b).counter = (s.ct.tracks.get b).counter
  synthesisedRun : (t.ct.tracks.get b).synthesisedRun = (s.ct.tracks.get b).synthesisedRun
  settings : t.ct.settings = s.ct.settings

theorem CounterStands.refl (b : Branch) (s : State) : CounterStands b s s := ⟨id, fun _ => rfl, rfl, rfl⟩

theorem CounterStands.trans {b : Branch} {s t u : State} (h : CounterStands b s t) (k : CounterStands b t u) :
    CounterStands b s u :=
  ⟨h.run ∘ k.run, fun e => (k.counter e).trans (h.counter (k.run e)), k.synthesisedRun.trans h.synthesisedRun,
    k.settings.trans h.settings⟩

/-- The acts of a device at work: none of a lock, a request, a reset or the end of an acquisition. -/
def Working (P : Act → Prop) : Prop :=
  ¬ P .lock ∧ ¬ P .evaluate ∧ ¬ P .reset ∧ (∀ c, ¬ P (.quit c)) ∧ ∀ k, ¬ P (.request k)

theorem Shift.counter_stands {P : Act → Prop} {s t : State} (h : Shift P s t) (hw : Working P) (b : Branch)
    (hb : ¬ P (.counter b)) : CounterStands b s t := by
  obtain ⟨hlock, hevaluate, hreset, hquit, hrequest⟩ := hw
  cases h with
  | aside h => constructor <;> simp [h.oc, h.tracks, h.syncSettings]
  | tracks ts _ hp =>
    obtain ⟨hcounter, hn⟩ := (hp b).resolve_right fun e => hb e.1
    exact ⟨id, fun _ => hcounter, hn, rfl⟩
  | count c n hp _ _ =>
    have hne : b ≠ c := by rintro rfl; exact hb hp
    constructor <;> simp [reachCount, PerBranch.get_set_ne _ _ _ _ hne]
  | halt c b' g f hrun hc =>
    constructor <;> simp [enterHalted_oc _ _ _ _ _ (.inr hrun), enterHalted_tracks _ _ _ _ _ (.inr hrun), haltTrack]
  | lock _ _ hp => exact absurd hp hlock
  | evaluate hp => exact absurd hp hevaluate
  | reset _ _ _ _ hp => exact absurd hp hreset
  | quit _ _ hp => exact absurd hp (hquit _)
  | enable _ hp | disable hp | setSync _ _ _ hp | load _ _ _ _ hp | configure _ _ _ _ hp | setValve _ hp | resetChannels hp
  | remap _ _ _ hp | unfail _ hp | unblock _ _ hp | armLatch _ _ _ hp => exact absurd hp (hrequest _)
  | _ => constructor <;> simp [modGroupCounters]

theorem Shifts.counter_stands {P : Act → Prop} {s t : State} (h : Shifts P s t) (hw : Working P) (b : Branch)
    (hb : ¬ P (.counter b)) : CounterStands b s t := by
  induction h with
  | refl => exact .refl b _
  | tail _ hlast ih => exact ih.trans (hlast.counter_stands hw b hb)

/-- Nothing but a lock enters RUN. -/
theorem Shift.run_of_run {P : Act → Prop} {s t : State} (h : Shift P s t) (hlock : ¬ P .lock) (hrun : t.oc.device = .run) :
    s.oc.device = .run := by
  cases h with
  | aside h => exact h.oc ▸ hrun
  | lock _ _ hp => exact absurd hp hlock
  | halt c b g f hr hc => exact hr
  | quit c ha hp => rw [enterHalted_oc _ _ _ _ _ (.inl ha)] at hrun; exact absurd hrun (by simp)
  | enable hr hp => exact absurd hrun (by simp [beginAcquisition])
  | disable hp =>
    unfold disableDevice at hrun
    split at hrun <;> simp_all
  | evaluate hp => exact evaluateConfiguration_run hrun
  | load t _ _ _ _ => exact evaluateConfiguration_run (s := { s with table := some t }) hrun
  | configure b x _ _ _ => exact evaluateConfiguration_run (s := modDemand b (fun d => { d with settings := x }) s) hrun
  | reset hr k n _ _ => exact absurd hrun (by simp [resetBlocks, State.reset, OperatingControl.reset])
  | _ => simpa [modGroupCounters, doResetChannels, okay] using hrun

theorem Shifts.run_of_run {P : Act → Prop} {s t : State} (h : Shifts P s t) (hlock : ¬ P .lock) (hrun : t.oc.device = .run) :
    s.oc.device = .run := by
  induction h with
  | refl => exact hrun
  | tail _ hlast ih => exact ih (hlast.run_of_run hlock hrun)

/-- A branch's counter, where it runs, stands at 2048 + W. -/
def AtTop (s : State) (b : Branch) : Prop := counterRuns s b = true → topCount s ≤ countOf s b

theorem AtTop.of_stands {b : Branch} {s t : State} (h : AtTop s b) (k : CounterStands b s t) : AtTop t b := by
  intro hruns
  have hrun := counterRuns_run hruns
  have hcounter := k.counter hrun
  have htop : topCount t = topCount s := by simp [topCount, k.settings]
  have hcount : countOf t b = countOf s b := by simp [countOf, hcounter]
  rw [htop, hcount]
  exact h (by simpa [counterRuns, hrun, k.run hrun, hcounter] using hruns)

/-! ## Branches at their top together (R61, R62) -/

/-- What a closure at the top of one branch's counter may do: it moves that counter, and may fail a group. -/
def closing (b : Branch) : Act → Prop
  | .counter c => c = b
  | .fail => True
  | _ => False

/-- The acts of closures and losses of sync that bring no order. -/
def orderless : Act → Prop
  | .counter _ | .fail | .lose => True
  | _ => False

theorem closing_working (b : Branch) : Working (closing b) := ⟨id, id, id, fun _ => id, fun _ => id⟩

theorem closing_le_orderless {b : Branch} (a : Act) (h : closing b a) : orderless a := by
  cases a with
  | counter | fail | lose => trivial
  | _ => exact h

section
variable {s : State}

theorem closeAtTop_closing {b : Branch} (h : AtTop s b) : Shifts (closing b) s (closeAtTop b s) :=
  closeAtTop_shifts b rfl trivial (.inr h)

theorem closeEach_shifts {l : List Branch} (hl : l.Nodup) (h : ∀ c ∈ l, AtTop s c) :
    Shifts orderless s (l.foldl (fun s c => closeAtTop c s) s) ∧
      ∀ b, b ∉ l → CounterStands b s (l.foldl (fun s c => closeAtTop c s) s) := by
  induction l generalizing s with
  | nil => exact ⟨.refl, fun b _ => .refl b s⟩
  | cons c l ih =>
    obtain ⟨hc, hl⟩ := List.nodup_cons.mp hl
    have hclosed := closeAtTop_closing (h c (.head _))
    have hstands {b : Branch} (hb : b ≠ c) : CounterStands b s (closeAtTop c s) := hclosed.counter_stands (closing_working c) b hb
    obtain ⟨hrest, hothers⟩ := ih hl (s := closeAtTop c s) fun d hd =>
      (h d (.tail _ hd)).of_stands (hstands fun e => hc (e ▸ hd))
    refine ⟨(hclosed.mono closing_le_orderless).trans hrest, fun b hb => ?_⟩
    obtain ⟨hbc, hbl⟩ : b ≠ c ∧ b ∉ l := by simpa using hb
    exact (hstands hbc).trans (hothers b hbl)

theorem loseEach_shifts (l : List Branch) : Shifts orderless s (l.foldl (fun s c => loseAtLimit c s) s) := by
  induction l generalizing s with
  | nil => exact .refl
  | cons c l ih => exact (loseAtLimit_shifts c trivial).trans ih

/-- R62, R6: at its limit a branch's loss of sync leaves no device in RUN. -/
theorem loseAtLimit_leaves_run {b : Branch} (h : s.ct.settings.limit ≤ (s.ct.tracks.get b).synthesisedRun) :
    (loseAtLimit b s).oc.device ≠ .run := by
  unfold loseAtLimit loseSync
  rw [if_pos h]
  dsimp only
  split
  · next hrun => rw [enterHalted_oc _ _ _ _ _ (.inr hrun)]; simp
  · next hrun => exact hrun

theorem anyOrder_nodup {α : Type} {l : List α} (h : l.Nodup) (s : State) : (anyOrder l s).Nodup :=
  (anyOrder_perm l s).nodup_iff.mpr h

theorem Branch.all_nodup : Branch.all.Nodup := by decide

theorem losesWith_iff {b c : Branch} : losesWith s b c = true ↔
    c ≠ b ∧ counterRuns s c = true ∧ topCount s ≤ countOf s c ∧
      s.ct.settings.limit ≤ (s.ct.tracks.get c).synthesisedRun + 1 := by
  simp [losesWith, and_assoc]

/-- R6: the branches that reach their limit together close without an order, `b` keeps its items meanwhile, and its loss of sync then
ends RUN. -/
theorem loseTogether_shifts (b : Branch) (h : s.ct.settings.limit ≤ (s.ct.tracks.get b).synthesisedRun) :
    Shifts orderless s (loseTogether b s) ∧ (loseTogether b s).oc.device ≠ .run := by
  unfold loseTogether
  dsimp only
  generalize hothers : Branch.all.filter (losesWith s b) = others
  have hnodup : (anyOrder others s).Nodup := anyOrder_nodup (hothers ▸ Branch.all_nodup.filter _) s
  have hmem {c : Branch} (hc : c ∈ anyOrder others s) : losesWith s b c = true := by
    have hc := (anyOrder_perm others s).mem_iff.mp hc
    rw [← hothers] at hc
    exact (List.mem_filter.mp hc).2
  obtain ⟨hclose, hstands⟩ := closeEach_shifts (s := takePicks others.length s) hnodup fun c hc _ =>
    (losesWith_iff.mp (hmem hc)).2.2.1
  have hkept := hstands b fun hb => (losesWith_iff.mp (hmem hb)).1 rfl
  change Shifts orderless s (List.foldl _ (loseAtLimit b (inAnyOrder closeAtTop others s)) _) ∧
    (List.foldl _ (loseAtLimit b (inAnyOrder closeAtTop others s)) _).oc.device ≠ .run
  unfold inAnyOrder
  generalize (anyOrder others s).foldl (fun s c => closeAtTop c s) (takePicks others.length s) = u at hclose hkept ⊢
  have hlimit : u.ct.settings.limit ≤ (u.ct.tracks.get b).synthesisedRun := by
    simpa [hkept.settings, hkept.synthesisedRun] using h
  refine ⟨.trans (.head (.aside (takePicks_aside _)) hclose) (.trans (loseAtLimit_shifts b trivial) (loseEach_shifts _)), fun hrun => ?_⟩
  exact loseAtLimit_leaves_run hlimit ((loseEach_shifts _).run_of_run id hrun)

/-- R61, R62: a branch at its top brings no order, and leaves the other counters as they are or RUN behind. -/
theorem reachTop_shifts (b : Branch) (h : AtTop s b) :
    Shifts orderless s (reachTop b s) ∧
      ((reachTop b s).oc.device ≠ .run ∨ ∀ c, c ≠ b → CounterStands c s (reachTop b s)) := by
  have hclosed := closeAtTop_closing h
  unfold reachTop
  split
  · dsimp only
    split
    · next hlimit =>
      obtain ⟨hlose, hleft⟩ := loseTogether_shifts b hlimit
      exact ⟨(hclosed.mono closing_le_orderless).trans hlose, .inl hleft⟩
    · exact ⟨hclosed.mono closing_le_orderless, .inr fun c hc => hclosed.counter_stands (closing_working b) c hc⟩
  · exact ⟨.refl, .inr fun c _ => .refl c s⟩

theorem AtTop.of_left {b : Branch} {t : State} (h : t.oc.device ≠ .run) : AtTop t b := fun hruns =>
  absurd (counterRuns_run hruns) h

theorem reachEach_shifts {l : List Branch} (hl : l.Nodup) (h : ∀ c ∈ l, AtTop s c) :
    Shifts orderless s (l.foldl (fun s c => reachTop c s) s) := by
  induction l generalizing s with
  | nil => exact .refl
  | cons c l ih =>
    obtain ⟨hc, hl⟩ := List.nodup_cons.mp hl
    obtain ⟨hreached, hstands⟩ := reachTop_shifts c (h c (.head _))
    refine hreached.trans (ih hl fun d hd => ?_)
    obtain hleft | hstands := hstands
    · exact .of_left hleft
    · exact (h d (.tail _ hd)).of_stands (hstands d fun e => hc (e ▸ hd))

/-- R59, R69: the closures that come before a delivery. -/
theorem closeBeforeDelivery_shifts (used : PerQuantity Half) : Shifts orderless s (closeBeforeDelivery used s) := by
  unfold closeBeforeDelivery inAnyOrder
  refine .head (.aside (takePicks_aside _)) (reachEach_shifts (anyOrder_nodup (Branch.all_nodup.filter _) s) fun c hc _ => ?_)
  have hdue := (List.mem_filter.mp ((anyOrder_perm _ s).mem_iff.mp hc)).2
  simp only [closesBefore, Bool.and_eq_true, decide_eq_true_eq] at hdue
  exact hdue.1.2

/-- What CROSSING_SYNTHESIZED of one branch may do: pass that branch's marks, then close it, and any others at their limit. -/
def synthesising (b : Branch) : Act → Prop
  | .order c => c = b
  | .counter _ | .climb | .fail | .lose => True
  | _ => False

theorem orderless_le_synthesising {b : Branch} (a : Act) (h : orderless a) : synthesising b a := by
  cases a with
  | order | climb => exact absurd h id
  | _ => exact h

/-- The same from anywhere below the top, where the branch's own marks come first (R110). -/
theorem reachTop_synthesising (b : Branch) : Shifts (synthesising b) s (reachTop b s) := by
  have hclosed : Shifts (synthesising b) s (closeAtTop b s) := closeAtTop_shifts b trivial trivial (.inl ⟨rfl, trivial⟩)
  unfold reachTop
  split
  · dsimp only
    split
    · next hlimit => exact hclosed.trans ((loseTogether_shifts b hlimit).1.mono orderless_le_synthesising)
    · exact hclosed
  · exact .refl

end

end Sys2Proof.Machine

/-! The plant lines, the sample link and the acquisition as runs of small changes. -/

namespace Sys2Proof.Machine

open Safety

section
variable {P : Act → Prop} {s : State}

/-! ## Plant lines (R155 to R158) -/

theorem setPlantCause_shifts (level : Bool) (hp : level = false → P .unplant) : Shifts P s (setPlantCause level s) :=
  .tail (.tail (.single (.plant .ab level hp)) (.plant .bc level hp)) (.plant .ca level hp)

theorem breakerClose_shifts : Shifts P s (breakerClose s) := by
  have hoffered : Shifts P s (offerTrigger .breakerClose s) := .aside (.offerTrigger _ s)
  unfold breakerClose
  dsimp only
  split
  · exact hoffered
  · next v hlatch =>
    split
    · next hrun => exact hoffered.tail (.consume v hlatch hrun)
    · exact hoffered.tail (.cancel _)

theorem actOnLevel_shifts (i : PlantInput) (level : Bool) (hp : P .unplant) : Shifts P s (actOnLevel i level s) := by
  unfold actOnLevel
  split
  · split
    · exact breakerClose_shifts
    · exact .refl
  · exact setPlantCause_shifts level fun _ => hp
  · exact .refl

theorem Aside.input (s : State) (i : PlantInput) (f : InputState → InputState) : Aside s (modInput i f s) := by
  constructor <;> simp [EventCountsBounded]

theorem changeLevel_shifts (i : PlantInput) (hp : P .unplant) : Shifts P s (changeLevel i s) := by
  unfold changeLevel
  dsimp only
  split
  · exact (Shifts.aside (.raised _ (.input s i _))).trans (actOnLevel_shifts i _ hp)
  · exact .refl

theorem moveRawLevel_aside (i : PlantInput) (level : Bool) : Aside s (moveRawLevel i level s) := by
  unfold moveRawLevel
  split
  · exact .refl s
  · constructor <;> simp [EventCountsBounded]

theorem endSettling_shifts : Shifts P s (endSettling s) := by
  unfold endSettling
  split
  · have hsettled : Aside s { s with
        clock := { s.clock with sinceReset := Config.stableMark }
        pli := { s.pli with
          settling := false
          inputs := s.pli.inputs.mapKey fun i r => { r with debounced := s.pins.raw.get i } } } := by
      constructor <;> simp [EventCountsBounded]
    dsimp only
    split
    · exact (Shifts.aside hsettled).trans (setPlantCause_shifts true (by simp))
    · exact .aside hsettled
  · exact .refl

theorem receiverOn_shifts : Shifts P s (receiverOn s) := by
  unfold receiverOn
  split
  · exact endSettling_shifts.tail (.aside (by constructor <;> simp [EventCountsBounded]))
  · exact .refl

/-! ## The gap counter's marks (R36, R37) -/

/-- A change of one branch's window that keeps the first-window mark. -/
theorem modWindow_shifts (b : Branch) (f : Window → Window) (h : ∀ w, (f w).first = w.first) :
    Shifts P s (modWindow b f s) := by
  refine .single (.windows _ fun c => ?_)
  by_cases e : c = b
  · refine ⟨(s.bdu.branches.get b).window.map f, by simp [e], ?_⟩
    simp [e, Function.comp_def, h]
  · exact ⟨(s.bdu.branches.get c).window, by rw [PerBranch.get_set_ne _ _ _ _ e], rfl⟩

/-- Each branch's window changed by its own function. -/
theorem windows_shifts (f : Branch → Window → Window) (h : ∀ b w, (f b w).first = w.first) :
    Shifts P s (forBranches (fun b => modWindow b (f b)) s) :=
  .trans (.trans (modWindow_shifts .ab _ (h .ab)) (modWindow_shifts .bc _ (h .bc))) (modWindow_shifts .ca _ (h .ca))

theorem markWindows_shifts (f : Window → Window) (h : ∀ w, (f w).first = w.first) : Shifts P s (markWindows f s) :=
  windows_shifts _ fun _ => h

theorem Aside.lines (s : State) (l : List DelayEntry) : Aside s { s with bdu := { s.bdu with lines := l } } := by
  constructor <;> simp [EventCountsBounded]

theorem flushLines_aside : Aside s (flushLines s) := .lines s []

theorem modLinkCounters_aside (f : LinkCounters → LinkCounters) : Aside s (modLinkCounters f s) := by
  constructor <;> simp [modLinkCounters, EventCountsBounded]

theorem markLate_aside : Aside s (markLate s) := by
  unfold markLate
  split
  · exact .raised _ (.receiver s _ rfl)
  · exact .refl s

theorem markGap_shifts : Shifts P s (markGap s) := markWindows_shifts _ fun _ => rfl

theorem markLost_aside : Aside s (markLost s) := by
  unfold markLost
  split
  · exact .raised _ ((Aside.receiver s _ rfl).trans flushLines_aside)
  · exact .refl s

theorem setGap_aside (n : Nat) : Aside s (setGap n s) := .receiver s _ rfl

theorem reachLate_shifts : Shifts P s (reachLate s) := by
  unfold reachLate
  split
  · exact .aside ((setGap_aside _).trans markLate_aside)
  · exact .refl

theorem reachGapMark_shifts : Shifts P s (reachGapMark s) := by
  unfold reachGapMark
  split
  · exact (reachLate_shifts.tail (.aside (setGap_aside _))).trans markGap_shifts
  · exact .refl

theorem reachLost_shifts : Shifts P s (reachLost s) := by
  unfold reachLost
  split
  · exact reachGapMark_shifts.tail (.aside ((setGap_aside _).trans markLost_aside))
  · exact .refl

/-! ## Acquisition (R47 to R53) -/

theorem Aside.progress (s : State) (p : Progress) : Aside s { s with ct := { s.ct with progress := p } } := by
  constructor <;> simp [EventCountsBounded]

theorem failAcquisition_shifts (c : HaltCause) (h : s.oc.device = .acquire) (hp : P (.quit c)) :
    Shifts P s (failAcquisition c s) :=
  (Shifts.aside (.raise _ s)).tail (.quit c (by simpa using h) hp)

theorem acquisitionTimeout_shifts (hp : P (.quit .acquireTimeout)) : Shifts P s (acquisitionTimeout s) := by
  unfold acquisitionTimeout
  split
  · next h => exact (Shifts.aside (.progress s _)).trans (failAcquisition_shifts .acquireTimeout h hp)
  · exact .refl

/-- What a frame of the sample link may do: what closures and losses of sync do, lock, or end an acquisition in failure. -/
def framing : Act → Prop
  | .counter _ | .fail | .lose | .lock | .quit .acquireFailed | .quit .phaseOrder => True
  | _ => False

theorem orderless_le_framing (a : Act) (h : orderless a) : framing a := by
  cases a with
  | counter | fail | lose | lock => trivial
  | _ => exact absurd h id

section
variable (hc : ∀ b, P (.counter b)) (hl : P .lock) (hfailed : P (.quit .acquireFailed)) (hphase : P (.quit .phaseOrder))
include hl hfailed hphase

theorem vabCrossing_shifts (q : Position) (h : s.oc.device = .acquire) : Shifts P s (vabCrossing q s) := by
  unfold vabCrossing
  dsimp only
  have hcounted : Shifts P s _ := .aside (.progress s (countCrossing q s.ct.progress))
  split
  · exact hcounted.tail (.lock _ h hl)
  · exact hcounted.trans (failAcquisition_shifts .phaseOrder h hphase)
  · split
    · exact hcounted.trans (failAcquisition_shifts .acquireFailed h hfailed)
    · exact hcounted

include hc

theorem confirmCrossing_shifts (b : Branch) (c : Candidate)
    (hf : P .fail ∨ (s.oc.device = .run → (s.vlc.firing.get b).transaction = none)) : Shifts P s (confirmCrossing b c s) := by
  unfold confirmCrossing
  split
  · next h =>
    unfold acquireCrossing
    dsimp only
    split
    · exact vabCrossing_shifts hl hfailed hphase _ h
    · exact .aside (.progress s _)
    · exact .aside (.progress s _)
  · next h => exact runCrossing_shifts b c h (hc b) (hf.imp_right fun hnone => hnone h)
  · exact .refl

theorem watchVoltage_shifts (b : Branch) (now : Half)
    (hf : P .fail ∨ (s.oc.device = .run → (s.vlc.firing.get b).transaction = none)) : Shifts P s (watchVoltage b now s) := by
  have hkept (c : Option Candidate) : Shifts P s (modTrack b (fun t => { t with previous := some now, candidate := c }) s) :=
    modTrack_shifts_of_stands b _ rfl rfl rfl
  unfold watchVoltage
  dsimp only
  split
  · split
    · exact hkept none
    · split
      · exact (hkept none).trans (confirmCrossing_shifts hc hl hfailed hphase b _ hf)
      · split
        · exact hkept none
        · exact hkept _
  · exact .refl

end

/-! ## Frames of the sample link (R21 to R35) -/

theorem feedDemand_shifts (used : PerQuantity Half) (held : PerQuantity Bool) : Shifts P s (feedDemand used held s) := by
  unfold feedDemand
  split
  · refine .tail ?_ (.aside (.lines _ _))
    exact windows_shifts _ fun _ _ => rfl
  · exact .refl

/-- One part of what a frame of the sample link does: the receiver's own work, the closures that come before a delivery, or one voltage
watched. -/
inductive FrameStep (s : State) : State → Prop where
  | shift {t : State} (h : Shift (fun _ => False) s t) : FrameStep s t
  | before (used : PerQuantity Half) : FrameStep s (closeBeforeDelivery used s)
  | watch (b : Branch) (now : Half) : FrameStep s (watchVoltage b now s)

/-- A run of such parts. -/
abbrev FrameSteps : State → State → Prop := Relation.ReflTransGen FrameStep

theorem FrameSteps.of_shifts {t : State} (h : Shifts (fun _ => False) s t) : FrameSteps s t :=
  h.lift id fun _ _ => FrameStep.shift

theorem FrameSteps.aside {t : State} (h : Aside s t) : FrameSteps s t := .single (.shift (.aside h))

theorem advanceFrame_aside : Aside s (modLink advanceFrame s) := .receiver s _ rfl

theorem deliver_steps (used : PerQuantity Half) (held : PerQuantity Bool) : FrameSteps s (deliver used held s) := by
  have hfed : FrameSteps s (feedDemand used held (modLink advanceFrame s)) :=
    .of_shifts ((Shifts.aside advanceFrame_aside).trans (feedDemand_shifts used held))
  exact ((hfed.tail (.watch .ab _)).tail (.watch .bc _)).tail (.watch .ca _)

theorem Aside.ite {c : Prop} [Decidable c] {t u : State} (h : Aside s t) (k : Aside s u) : Aside s (if c then t else u) := by
  split
  · exact h
  · exact k

theorem selectQuantity_aside (words : PerQuantity (PerLink LinkWord)) (q : Quantity) : Aside s (selectQuantity words q s) :=
  .ite (.raised _ (.receiver s (fun _ => _) rfl)) (.receiver s (fun _ => _) rfl)

theorem selectWords_aside (words : PerQuantity (PerLink LinkWord)) : Aside s (selectWords words s) := by
  unfold selectWords
  generalize Quantity.all = l
  induction l generalizing s with
  | nil => exact .refl s
  | cons q l ih => exact (selectQuantity_aside words q).trans ih

theorem trackBlock_chains (seq : Byte) (l : SampleLink) : (trackBlock seq l).chains = l.chains := by
  unfold trackBlock startBlock
  repeat' split
  all_goals rfl

theorem deliverPatched_steps (seq : Byte) : FrameSteps s (deliverPatched seq s) := by
  unfold deliverPatched
  dsimp only
  have hclosed : FrameSteps s _ := .single (.before (lastUsedValues s.slr))
  generalize closeBeforeDelivery (lastUsedValues s.slr) s = u at hclosed ⊢
  refine (hclosed.trans (FrameSteps.aside (.receiver u _ ?_))).trans (deliver_steps _ _)
  exact trackBlock_chains seq _

theorem deliverPatches_steps (n : Nat) (seq : Byte) : FrameSteps s (deliverPatches n seq s) := by
  induction n generalizing s seq with
  | zero => exact .refl
  | succ n ih => exact (deliverPatched_steps seq).trans (ih _)

theorem deliverReceived_steps (seq : Byte) (words : PerQuantity (PerLink LinkWord)) :
    FrameSteps s (deliverReceived seq words s) := by
  unfold deliverReceived
  dsimp only
  have hclosed : FrameSteps s _ := .single (.before (usedValues s.slr words))
  generalize closeBeforeDelivery (usedValues s.slr words) s = u at hclosed ⊢
  refine (hclosed.trans (FrameSteps.aside (.trans (.receiver u _ ?_) (selectWords_aside words)))).trans (deliver_steps _ _)
  exact trackBlock_chains seq _

theorem breakTracking_shifts : Shifts P s (breakTracking s) := by
  refine .tail (.single (.tracks (s.ct.tracks.mapKey fun _ t =>
    { t with previous := none, candidate := none, lastAccepted := none }) (fun b => ?_) fun b => ?_)) (.aside (.progress _ _))
  · simp only [PerBranch.get_mapKey]
    exact ⟨fun a ha => .inr ⟨a, ha, le_max_left ..⟩, .inl rfl⟩
  · simp

theorem measurementBreak_shifts : Shifts P s (measurementBreak s) :=
  Shifts.raise _ (.trans (.trans (Shifts.aside ((modLinkCounters_aside _).trans flushLines_aside))
    (markWindows_shifts markResync fun _ => rfl)) breakTracking_shifts)

theorem takeData_steps (seq : Byte) (words : PerQuantity (PerLink LinkWord)) : FrameSteps s (takeData seq words s) := by
  have hbroken : FrameSteps s (measurementBreak s) := .of_shifts measurementBreak_shifts
  have hnew : FrameSteps s (newStart seq words s) := by
    unfold newStart
    dsimp only
    split
    · exact (hbroken.trans (FrameSteps.aside (.receiver _ _ rfl))).trans (deliverReceived_steps seq words)
    · exact (FrameSteps.aside (.receiver _ _ rfl)).trans (deliverReceived_steps seq words)
  unfold takeData
  split
  · exact hnew
  · exact hnew
  all_goals
    dsimp only
    split
    · exact (deliverPatches_steps _ _).trans (deliverReceived_steps _ _)
    · split
      · exact (hbroken.trans (FrameSteps.aside (.receiver _ _ rfl))).trans (deliverReceived_steps seq words)
      · exact .aside (modLinkCounters_aside _)

theorem switchPrimary_aside : Aside s (switchPrimary s) := by
  unfold switchPrimary
  dsimp only
  split
  · exact .raised _ (.receiver s _ rfl)
  · exact .refl s

theorem takeCheck_shifts (index : BitVec 5) (words : PerQuantity (PerLink LinkWord)) : Shifts P s (takeCheck index words s) := by
  unfold takeCheck
  split
  · exact .aside (modLinkCounters_aside _)
  · have hjudged : Aside s (modLink (fun l => { l with block := { l.block with judged := true } }) s) := .receiver s _ rfl
    dsimp only
    split
    · exact .tail (.tail (.tail (Shifts.aside (hjudged.trans (modLinkCounters_aside _))) (.judge words .a)) (.judge words .b))
        (.aside switchPrimary_aside)
    · exact .aside (hjudged.trans (modLinkCounters_aside _))

theorem takeLinkFrame_steps (header : LinkWord) (words : PerQuantity (PerLink LinkWord)) :
    FrameSteps s (takeLinkFrame header words s) := by
  unfold takeLinkFrame
  split
  · exact .aside (modLinkCounters_aside _)
  · exact takeData_steps _ words
  · exact .of_shifts (takeCheck_shifts _ words)

/-- What the parts of a frame may do. -/
theorem FrameStep.shifts {t : State} (h : FrameStep s t) : Shifts framing s t := by
  cases h with
  | shift h => exact .single (h.mono fun _ => False.elim)
  | before used => exact (closeBeforeDelivery_shifts used).mono orderless_le_framing
  | watch b now => exact watchVoltage_shifts (fun _ => trivial) trivial trivial trivial b now (.inl trivial)

theorem FrameSteps.shifts {t : State} (h : FrameSteps s t) : Shifts framing s t := by
  induction h with
  | refl => exact .refl
  | tail _ hlast ih => exact ih.trans hlast.shifts

theorem takeLinkFrame_shifts (header : LinkWord) (words : PerQuantity (PerLink LinkWord)) :
    Shifts framing s (takeLinkFrame header words s) := (takeLinkFrame_steps header words).shifts

/-- A check frame, or one whose header is in error, does none of these things. -/
theorem takeLinkFrame_shifts_of_check (header : LinkWord) (words : PerQuantity (PerLink LinkWord))
    (h : isCheckHeader header = true) : Shifts P s (takeLinkFrame header words s) := by
  unfold isCheckHeader at h
  unfold takeLinkFrame
  split
  · exact .aside (modLinkCounters_aside _)
  · next hdata => simp [hdata] at h
  · exact takeCheck_shifts _ words

end

end Sys2Proof.Machine

/-! Requests, the supervisory line, the clock and the step as runs of small changes. -/

namespace Sys2Proof.Machine

open Safety

/-! ## What requests do (R187) -/

/-- The acts of a request of one kind: what its owner executes, and the evaluation of the configuration that follows (R2), which after
an ENABLE has nothing to do. Only RESET_GROUP may fail a group (R149). -/
def serving (k : RequestKind) : Act → Prop
  | .request j => j = k
  | .evaluate => readsOnly k = false ∧ k ≠ .enable
  | .fail => k = .resetGroup
  | _ => False

section
variable {P : Act → Prop} {s : State}

theorem doSetSync_shifts (mode : Byte) (h w : Half) (l limit : Byte) (hp : P (.request .setSync)) :
    Shifts P s (doSetSync mode h w l limit s).state := by
  unfold doSetSync
  split
  · next hstill =>
    split
    · next x hx =>
      refine .single (.setSync x hstill ?_ hp)
      unfold readSync at hx
      split at hx
      · split at hx
        · next hin =>
          simp only [inRange, Bool.and_eq_true, decide_eq_true_eq] at hin
          cases hx
          exact ⟨hin.1.1.2, hin.1.2, Nat.le_of_lt_succ l.isLt, hin.2⟩
        · exact absurd hx (by simp)
      · exact absurd hx (by simp)
    · exact .refl
  · exact .refl

theorem doSetLink_shifts (x : Half) : Shifts P s (doSetLink x s).state := by
  unfold doSetLink
  split
  · dsimp only [okay]
    exact .aside (.receiver s _ rfl)
  · exact .refl

theorem doSelectPrimary_shifts (c : Byte) : Shifts P s (doSelectPrimary c s).state := by
  unfold doSelectPrimary
  split
  · exact .refl
  · split
    · exact .refl
    · dsimp only [okay]
      exact .aside (.receiver s _ rfl)

theorem doSetFilters_shifts (shares : List Half) : Shifts P s (doSetFilters shares s).state := by
  unfold doSetFilters
  split
  · exact .refl
  · exact (Shifts.aside (by constructor <;> simp [EventCountsBounded])).tail (.cancel _)

theorem doSetValve_shifts (g r : Byte) (l : Half) (f m d trip : Byte) (hp : P (.request .setValve)) :
    Shifts P s (doSetValve g r l f m d trip s).state := by
  unfold doSetValve
  split
  · exact .single (.setValve _ hp)
  · exact .refl

theorem doMapGroup_shifts (group channel : Byte) (hp : P (.request .mapGroup)) :
    Shifts P s (doMapGroup group channel s).state := by
  unfold doMapGroup
  split
  · next g c _ _ =>
    split
    · exact .refl
    · next hfree =>
      split
      · exact .refl
      · split
        · exact .refl
        · split
          · exact .refl
          · exact .tail (.single (.remap g c (by simpa using hfree) hp)) (.cancel _)
  · exact .refl

theorem takeSnapshots_aside : Aside s (takeSnapshots s) := by
  constructor <;> simp [takeSnapshots, EventCountsBounded]

theorem clearValveCounters_aside : Aside s (clearValveCounters s) := by
  constructor <;> simp [clearValveCounters, EventCountsBounded, GroupCounters.zero]

theorem resetGroup_shifts (g : Group) (hp : P (.request .resetGroup)) (hf : P .fail) : Shifts P s (resetGroup g s) := by
  have hfreed : Shifts P s (modGroup g (fun r => { r with failure := none, misfireRun := 0, refusalRun := 0 }) s) :=
    .single (.unfail g hp)
  unfold resetGroup
  dsimp only
  have hlimits : Shifts P s (match currentStatus s g with
      | some st => checkLimits g st (modGroup g (fun r => { r with failure := none, misfireRun := 0, refusalRun := 0 }) s)
      | none => modGroup g (fun r => { r with failure := none, misfireRun := 0, refusalRun := 0 }) s) := by
    split
    · exact hfreed.trans (checkLimits_shifts _ _ hf)
    · exact hfreed
  split
  · exact hlimits.trans (failGroup_shifts _ _ hf)
  · exact hlimits

theorem doResetGroup_shifts (group : Byte) (hp : P (.request .resetGroup)) (hf : P .fail) :
    Shifts P s (doResetGroup group s).state := by
  unfold doResetGroup
  split
  · exact .refl
  · split
    · exact resetGroup_shifts _ hp hf
    · exact .refl

theorem doBlock_shifts (branch : Byte) : Shifts P s (doBlock branch s).state := by
  unfold doBlock
  split
  · exact .refl
  · next l _ =>
    refine .tail ?_ (.cancel _)
    generalize hl : l = k
    clear hl
    induction k generalizing s with
    | nil => exact .refl
    | cons b k ih => exact .head (.addCause b _) ih

/-- A change of a cause set leaves every group's failure as it is. -/
@[simp] theorem changeCauses_failure (b : Branch) (f : CauseSet → CauseSet) (s : State) (g : Group) :
    ((changeCauses b f s).vlc.groups.get g).failure = (s.vlc.groups.get g).failure := by
  have hcounters (k : Group) (f : GroupCounters → GroupCounters) (s : State) :
      ((modGroupCounters k f s).vlc.groups.get g).failure = (s.vlc.groups.get g).failure := by
    by_cases e : g = k
    · simp [modGroupCounters, e]
    · simp [modGroupCounters, PerGroup.get_set_ne _ _ _ _ e]
  unfold changeCauses enterBlocked closeOvertaken
  dsimp only
  repeat' split
  all_goals simp [hcounters]

theorem doUnblock_shifts (branch : Byte) (hp : P (.request .unblock)) : Shifts P s (doUnblock branch s).state := by
  unfold doUnblock
  split
  · exact .refl
  · next l _ =>
    split
    · exact .refl
    · next hnone =>
      refine .tail ?_ (.cancel _)
      replace hnone : ∀ b ∈ l, branchHasFailed s b = false := by simpa using hnone
      clear * - hnone hp
      induction l generalizing s with
      | nil => exact .refl
      | cons b l ih =>
        exact .head (.unblock b (hnone b (.head _)) hp)
          (ih fun c hc => by simpa [branchHasFailed] using hnone c (.tail _ hc))

theorem doArmPreset_shifts (ab bc ca : Half) (closures : Byte) (hp : P (.request .armPreset)) :
    Shifts P s (doArmPreset ab bc ca closures s).state := by
  unfold doArmPreset
  split
  · next hmay =>
    split
    · next v hv =>
      refine .single (.armLatch v hmay.1 ?_ hp)
      unfold readPreset at hv
      split at hv
      · next hin =>
        simp only [inRange, Bool.and_eq_true, decide_eq_true_eq] at hin
        cases hv
        intro b
        cases b
        · exact hin.1.1.1.2
        · exact hin.1.1.2.2
        · exact hin.1.2.2
      · exact absurd hv (by simp)
    · exact .refl
  · exact .refl

theorem doReadHistory_shifts (q : Index) (n : Byte) : Shifts P s (doReadHistory q n s).state := by
  unfold doReadHistory
  split <;> exact .refl

theorem doSetCapture_shifts (triggers post : Half) : Shifts P s (doSetCapture triggers post s).state := by
  unfold doSetCapture
  split
  · split
    · exact .aside (.recorder s _ rfl rfl)
    · exact .refl
  · exact .refl

theorem doReleaseCapture_shifts : Shifts P s (doReleaseCapture s).state := by
  unfold doReleaseCapture
  split
  · exact .refl
  · exact .refl
  · exact .aside (.recorder s _ rfl rfl)

theorem doSetAttentionMask_shifts (mask : BitVec 32) : Shifts P s (doSetAttentionMask mask s).state := by
  unfold doSetAttentionMask
  split
  · exact .aside (.interface s _ id)
  · exact .refl

theorem doReadCounters_shifts (clear : Byte) (report : List Byte) {cleared : State} (h : Aside s cleared) :
    Shifts P s (doReadCounters clear report cleared s).state := by
  unfold doReadCounters
  split
  · exact .refl
  · dsimp only [okay]
    split
    · exact .aside h
    · exact .refl

theorem doReadBranch_shifts (b : Byte) : Shifts P s (doReadBranch b s).state := by
  unfold doReadBranch
  split <;> exact .refl

/-! ## From the owner to the reply (R2, R187, R188) -/

/-- The state a request's execution leaves once the configuration has been evaluated, where it is (R2). -/
def concluded (k : RequestKind) (r : Response) : State :=
  if r.status = .ok ∧ readsOnly k = false then evaluateConfiguration r.state else r.state

theorem concluded_shifts {k : RequestKind} {r : Response} (hk : k ≠ .enable) (h : Shifts (serving k) s r.state) :
    Shifts (serving k) s (concluded k r) := by
  unfold concluded
  split
  · next hok => exact h.tail (.evaluate ⟨hok.2, hk⟩)
  · exact h

theorem doLoadTable_concluded (entries : List Half) (hlen : entries.length = 65) :
    Shifts (serving .loadTable) s (concluded .loadTable (doLoadTable entries s)) := by
  unfold doLoadTable
  split
  · next hstill =>
    dsimp only
    split
    · exact .refl
    · next hnone => exact .single (.load _ hstill (by simpa using hlen) hnone rfl)
  · exact .refl

theorem readBranchSettings_in_range {gain : BitVec 24} {trim fallback step : Half} {hold : Byte} {floor : BitVec 32}
    {x : BranchSettings} (h : readBranchSettings gain trim fallback step hold floor = some x) :
    x.gain ≠ 0 ∧ x.fallback ≤ 4095 := by
  unfold readBranchSettings at h
  split at h
  · next hin =>
    simp only [inRange, Bool.and_eq_true, decide_eq_true_eq] at hin
    cases h
    exact ⟨Nat.ne_of_gt hin.1.1.1.1.1.1, hin.1.1.1.2.2⟩
  · exact absurd h (by simp)

theorem doSetBranch_concluded (branch : Byte) (gain : BitVec 24) (trim fallback step : Half) (hold : Byte) (floor : BitVec 32) :
    Shifts (serving .setBranch) s (concluded .setBranch (doSetBranch branch gain trim fallback step hold floor s)) := by
  unfold doSetBranch
  split
  · exact .refl
  · split
    · exact .refl
    · next x hx =>
      obtain ⟨hgain, hfallback⟩ := readBranchSettings_in_range hx
      exact .single (.configure _ x hgain hfallback rfl)

/-- R3: after an ENABLE that is accepted the device is in ACQUIRE, where nothing is evaluated. -/
theorem doEnable_concluded : Shifts (serving .enable) s (concluded .enable (doEnable s)) := by
  unfold doEnable
  split
  · next hready => exact .single (.enable hready rfl)
  · exact .refl

theorem acceptFrame_aside : Aside s (acceptFrame s) := .interface s _ id

theorem buildReply_aside (code : Byte) (status : Status) (payload : List Byte) : Aside s (buildReply code status payload s) :=
  .interface s _ id

theorem serve_shifts {k : RequestKind} {body : State → Response} (h : ∀ u, Shifts (serving k) u (concluded k (body u))) :
    Shifts (serving k) s (serve k body s) :=
  ((Shifts.aside acceptFrame_aside).trans (h _)).tail (.aside (buildReply_aside _ _ _))

theorem becomeMute_aside : Aside s (becomeMute s) := .interface s _ id

theorem modLineCounters_aside (f : LineCounters → LineCounters) : Aside s (modLineCounters f s) := .interface s _ id

theorem abandon_aside (f : LineCounters → LineCounters) : Aside s (abandon f s) :=
  .raised _ (becomeMute_aside.trans (modLineCounters_aside f))

theorem takeRequest_shifts {k : RequestKind} (n : Nat) {body : State → Response}
    (h : ∀ u, Shifts (serving k) u (concluded k (body u))) : Shifts (serving k) s (takeRequest k n body s) := by
  unfold takeRequest
  split
  · split
    · exact .refl
    · exact .aside (modLineCounters_aside _)
    · exact serve_shifts h
    · exact (Shifts.aside (abandon_aside _)).trans (serve_shifts h)
  · exact .refl

/-- Where the owner's own execution is a run of the kind's acts, so is the whole of the request. -/
theorem takeRequest_shifts_of_body {k : RequestKind} (n : Nat) (hk : k ≠ .enable) {body : State → Response}
    (h : ∀ u, Shifts (serving k) u (body u).state) : Shifts (serving k) s (takeRequest k n body s) :=
  takeRequest_shifts n fun u => concluded_shifts hk (h u)

/-- R197: a table's 130 bytes are 65 fields. -/
theorem halves_length (p : List Byte) : (halves p).length = p.length / 2 := by
  induction p using halves.induct with
  | case1 hi lo rest ih =>
    simp only [halves, List.length_cons, ih]
    omega
  | case2 p h =>
    match p, h with
    | [], _ => rfl
    | [_], _ => simp [halves]
    | a :: b :: r, h => exact absurd rfl (h a b r)

/-- Whatever a kind's owner does with a payload of the kind's length is a run of the kind's acts. -/
theorem ownerOf_concluded (k : RequestKind) (p : List Byte) (hlen : lengthFits k p.length = true) :
    Shifts (serving k) s (concluded k (ownerOf k p s)) := by
  cases k
  case setBranch => exact doSetBranch_concluded ..
  case loadTable =>
    refine doLoadTable_concluded _ ?_
    have h130 : p.length = 130 := by simpa [lengthFits] using hlen
    rw [halves_length, h130]
  case enable => exact doEnable_concluded
  all_goals refine concluded_shifts (by decide) ?_
  case identify | readState | readTable | restart => exact .refl
  case readEvents => exact .aside (.interface s _ fun _ j => by simp [noEvents])
  case setAttentionMask => exact doSetAttentionMask_shifts _
  case setSync => exact doSetSync_shifts _ _ _ _ _ rfl
  case setLink => exact doSetLink_shifts _
  case selectPrimary => exact doSelectPrimary_shifts _
  case resetChannels => exact .single (.resetChannels rfl)
  case setFilters => exact doSetFilters_shifts _
  case readBranch => exact doReadBranch_shifts _
  case setValve => exact doSetValve_shifts _ _ _ _ _ _ _ rfl
  case mapGroup => exact doMapGroup_shifts _ _ rfl
  case readValves =>
    unfold ownerOf
    dsimp only
    repeat' split
    · exact .refl
    · exact .aside takeSnapshots_aside
    · exact .refl
  case resetGroup => exact doResetGroup_shifts _ rfl rfl
  case disable => exact .single (.disable rfl)
  case block => exact doBlock_shifts _
  case unblock => exact doUnblock_shifts _ rfl
  case armPreset => exact doArmPreset_shifts _ _ _ _ rfl
  case cancelPreset => exact .single (.cancel _)
  case readHistory => exact doReadHistory_shifts _ _
  case setCapture => exact doSetCapture_shifts _ _
  case triggerCapture => exact .aside (.takeTrigger _ s)
  case releaseCapture => exact doReleaseCapture_shifts
  case readCounters =>
    unfold ownerOf
    dsimp only
    repeat' split
    · exact doReadCounters_shifts _ _ (modLinkCounters_aside _)
    · exact doReadCounters_shifts _ _ clearValveCounters_aside
    · exact doReadCounters_shifts _ _ (modLineCounters_aside _)
    · exact .refl

end

end Sys2Proof.Machine

/-! The supervisory line, character by character, and the frame that each request row stands for (R182 to R187). -/

namespace Sys2Proof.Machine

open Safety

/-! ## Fields of a payload (R197) -/

theorem ofBytes_append (l k : List Byte) : ofBytes (l ++ k) = ofBytes l * 256 ^ k.length + ofBytes k := by
  have hfold (n : Nat) (k : List Byte) :
      k.foldl (fun n b => 256 * n + b.toNat) n = n * 256 ^ k.length + k.foldl (fun n b => 256 * n + b.toNat) 0 := by
    induction k generalizing n with
    | nil => simp
    | cons b k ih =>
      rw [List.foldl_cons, List.foldl_cons, ih, ih (256 * 0 + b.toNat), List.length_cons]
      ring
  simpa [ofBytes, List.foldl_append] using hfold _ k

@[simp] theorem bigEndian_length (k n : Nat) : (bigEndian k n).length = k := by
  induction k generalizing n with
  | zero => rfl
  | succ k ih => simp [bigEndian, ih]

/-- R197: bytes read back give the integer they were written from. -/
theorem ofBytes_bigEndian {k n : Nat} (h : n < 256 ^ k) : ofBytes (bigEndian k n) = n := by
  induction k generalizing n with
  | zero => simp only [pow_zero, Nat.lt_one_iff] at h; simp [bigEndian, ofBytes, h]
  | succ k ih =>
    have hhigh : n / 256 < 256 ^ k := Nat.div_lt_of_lt_mul (by rw [pow_succ] at h; omega)
    rw [bigEndian, ofBytes_append, ih hhigh]
    simp [ofBytes]
    omega

section
variable {p : List Byte} {at_ : Nat}

theorem field8_eq {x : Byte} (h : (p.drop at_).take 1 = [x]) : field8 p at_ = x := by simp [field8, fieldNat, h, ofBytes]

theorem field16_eq {x : Half} (h : (p.drop at_).take 2 = bigEndian 2 x.toNat) : field16 p at_ = x := by
  rw [field16, fieldNat, h, ofBytes_bigEndian x.isLt, BitVec.ofNat_toNat, BitVec.setWidth_eq]

theorem field24_eq {x : BitVec 24} (h : (p.drop at_).take 3 = bigEndian 3 x.toNat) : field24 p at_ = x := by
  rw [field24, fieldNat, h, ofBytes_bigEndian x.isLt, BitVec.ofNat_toNat, BitVec.setWidth_eq]

theorem field32_eq {x : BitVec 32} (h : (p.drop at_).take 4 = bigEndian 4 x.toNat) : field32 p at_ = x := by
  rw [field32, fieldNat, h, ofBytes_bigEndian x.isLt, BitVec.ofNat_toNat, BitVec.setWidth_eq]

end

theorem halves_halfBytes (l : List Half) : halves (halfBytes l) = l := by
  induction l with
  | nil => rfl
  | cons x l ih =>
    have hx : 256 * (x.toNat / 256 % 256) + x.toNat % 256 = x.toNat := by have := x.isLt; omega
    have hcons : halfBytes (x :: l) = BitVec.ofNat 8 (x.toNat / 256) :: BitVec.ofNat 8 x.toNat :: halfBytes l := rfl
    rw [hcons, halves, ih]
    simp [hx]

/-! ## A request row and its frame (10.10) -/

theorem lengthFits_of_request {i : Instr} {k : RequestKind} {p : List Byte} (h : wellFormed i = true)
    (e : requestOf i = some (k, p)) : lengthFits k p.length = true := by
  cases i with
  | setBranch => exact Laws.Shape.setBranch _ _ _ _ _ _ _ _ h _ _ e
  | setFilters => exact Laws.Shape.setFilters _ h _ _ e
  | loadTable => exact Laws.Shape.loadTable _ h _ _ e
  | _ => cases e <;> rfl

/-- A row's meaning is its kind's owner, given the row's payload, where its own execution is that. -/
theorem exec_of_owner {i : Instr} {k : RequestKind} {p : List Byte} {n : Nat} {body : State → Response} (s : State)
    (hexec : exec i s = .next (running (takeRequest k n body) s)) (hlen : n = p.length) (hbody : body = ownerOf k p) :
    exec i s = .next (running (takeRequest k p.length (ownerOf k p)) s) := by
  rw [hexec, hlen, hbody]

/-- What a well-formed request row does is what its kind's owner does with the payload of its frame. -/
theorem exec_request {i : Instr} {k : RequestKind} {p : List Byte} (s : State) (h : wellFormed i = true)
    (e : requestOf i = some (k, p)) : exec i s = .next (running (takeRequest k p.length (ownerOf k p)) s) := by
  cases i with
  | setAttentionMask mask =>
    cases e
    refine exec_of_owner s rfl rfl ?_
    rw [ownerOf, field32_eq (x := mask) rfl]
  | setSync mode hysteresis width latency limit =>
    cases e
    refine exec_of_owner s rfl rfl ?_
    rw [ownerOf, field8_eq (x := mode) rfl, field16_eq (x := hysteresis) rfl, field16_eq (x := width) rfl, field8_eq (x := latency) rfl,
      field8_eq (x := limit) rfl]
  | setLink tolerance =>
    cases e
    refine exec_of_owner s rfl rfl ?_
    rw [ownerOf, field16_eq (x := tolerance) rfl]
  | setBranch branch gain trim fallback step hold floor rest =>
    cases e
    have hrest : ¬ 185 < rest.length := Nat.not_lt.mpr (by simpa [wellFormed] using h)
    refine exec_of_owner (n := 15 + rest.length) (body := doSetBranch branch gain trim fallback step hold floor) s ?_ ?_ ?_
    · simp only [exec, execSetBranch, if_neg hrest]
    · simp [halfBytes]; omega
    · rw [ownerOf, field8_eq (x := branch) rfl, field24_eq (x := gain) rfl, field16_eq (x := trim) rfl,
        field16_eq (x := fallback) rfl, field16_eq (x := step) rfl, field8_eq (x := hold) rfl, field32_eq (x := floor) rfl]
  | setFilters shares =>
    cases e
    have hlen : shares.length = 12 := by simpa [wellFormed] using h
    refine exec_of_owner (body := doSetFilters shares) s ?_ (Laws.Shape.halfBytes_length shares).symm ?_
    · simp only [exec, execSetFilters, if_pos hlen]
    · rw [ownerOf, halves_halfBytes]
  | loadTable entries =>
    cases e
    have hlen : entries.length = 65 := by simpa [wellFormed] using h
    refine exec_of_owner (body := doLoadTable entries) s ?_ (Laws.Shape.halfBytes_length entries).symm ?_
    · simp only [exec, execLoadTable, if_pos hlen]
    · rw [ownerOf, halves_halfBytes]
  | setValve guardTime retries lastRetry refusals misfires redundancy trip =>
    cases e
    refine exec_of_owner s rfl rfl ?_
    rw [ownerOf, field8_eq (x := guardTime) rfl, field8_eq (x := retries) rfl, field16_eq (x := lastRetry) rfl,
      field8_eq (x := refusals) rfl, field8_eq (x := misfires) rfl, field8_eq (x := redundancy) rfl, field8_eq (x := trip) rfl]
  | mapGroup group channel =>
    cases e
    refine exec_of_owner s rfl rfl ?_
    rw [ownerOf, field8_eq (x := group) rfl, field8_eq (x := channel) rfl]
  | armPreset ab bc ca closures =>
    cases e
    refine exec_of_owner s rfl rfl ?_
    rw [ownerOf, field16_eq (x := ab) rfl, field16_eq (x := bc) rfl, field16_eq (x := ca) rfl, field8_eq (x := closures) rfl]
  | readHistory fromSeq max =>
    cases e
    refine exec_of_owner s rfl rfl ?_
    rw [ownerOf, field32_eq (x := fromSeq) rfl, field8_eq (x := max) rfl]
  | setCapture triggers post =>
    cases e
    refine exec_of_owner s rfl rfl ?_
    rw [ownerOf, field16_eq (x := triggers) rfl, field16_eq (x := post) rfl]
  | selectPrimary x | readBranch x | resetGroup x | block x | unblock x =>
    cases e
    refine exec_of_owner s rfl rfl ?_
    rw [ownerOf, field8_eq (x := x) rfl]
  | readCountersLink clear =>
    cases e
    exact exec_of_owner s rfl rfl (congrArg doReadCountersLink (field8_eq (p := [0, clear]) (at_ := 1) rfl).symm)
  | readCountersValve clear =>
    cases e
    exact exec_of_owner s rfl rfl (congrArg doReadCountersValve (field8_eq (p := [1, clear]) (at_ := 1) rfl).symm)
  | readCountersSupervisory clear =>
    cases e
    exact exec_of_owner s rfl rfl (congrArg doReadCountersSupervisory (field8_eq (p := [2, clear]) (at_ := 1) rfl).symm)
  | _ => cases e <;> exact exec_of_owner s rfl rfl rfl

/-! ## Characters (R182 to R184) -/

/-- In OFF nothing is received. -/
theorem takeChars_off {s : State} (h : s.sli.receive = .off) (cs : List LineChar) : takeChars cs s = s := by
  have hchar (c : LineChar) : takeChar c s = s := by simp [takeChar, h]
  induction cs with
  | nil => rfl
  | cons c cs ih => rw [takeChars_cons, hchar, ih]

theorem bumpBy_of_bump (limit k n : Nat) : bumpBy limit k (bump limit n) = bumpBy limit (k + 1) n := by
  unfold bumpBy bump
  split <;> omega

/-- In ANSWERING every character is counted, and ignored. -/
theorem takeChars_answering {s : State} (h : s.sli.receive = .answering) (cs : List LineChar) (hcs : cs ≠ []) :
    takeChars cs s =
      modLineCounters (fun k => { k with ignoredAnswering := bumpBy 65535 cs.length k.ignoredAnswering }) s := by
  have hchar (s : State) (h : s.sli.receive = .answering) (c : LineChar) :
      takeChar c s = modLineCounters (fun k => { k with ignoredAnswering := count16 k.ignoredAnswering }) s := by
    simp [takeChar, h]
  induction cs generalizing s with
  | nil => exact absurd rfl hcs
  | cons c cs ih =>
    rw [takeChars_cons, hchar s h]
    cases cs with
    | nil =>
      have hone (n : Nat) : bumpBy 65535 1 n = count16 n := by unfold bumpBy count16 bump; split <;> omega
      simp only [takeChars_nil, List.length_singleton, hone]
    | cons d cs =>
      rw [ih (by exact h) (by simp)]
      simp only [modLineCounters, count16, bumpBy_of_bump, List.length_cons]

/-- In MUTE a character whose mark is clear is not heard. -/
theorem takeChars_mute {s : State} (h : s.sli.receive = .mute) (cs : List LineChar)
    (hcs : ∀ c ∈ cs, c.mark = false ∧ c.stopOk = true) : takeChars cs s = s := by
  induction cs with
  | nil => rfl
  | cons c cs ih =>
    obtain ⟨hmark, hstop⟩ := hcs c (.head _)
    have hchar : takeChar c s = s := by simp [takeChar, h, hmark, hstop]
    rw [takeChars_cons, hchar, ih fun d hd => hcs d (.tail _ hd)]

theorem endsFrame_eq_false_iff {n : Nat} {c : LineChar} :
    endsFrame n c = false ↔ c.stopOk = true ∧ c.mark = false ∧ ¬ (n = 2 ∧ 200 < c.data.toNat) := by
  simp [endsFrame, and_assoc]

theorem stillOpen_iff {data : List Byte} :
    stillOpen data = true ↔ data.length < 3 ∨ data.length < 5 + (data.getD 2 0).toNat := by simp [stillOpen]

theorem openChars_cons {taken : List Byte} {c : LineChar} {cs : List LineChar} : openChars taken (c :: cs) = true ↔
    endsFrame taken.length c = false ∧ stillOpen (taken ++ [c.data]) = true ∧ openChars (taken ++ [c.data]) cs = true := by
  simp [openChars, and_assoc]

/-- The characters that leave a frame open have no framing error and no mark. -/
theorem plain_of_openChars {taken : List Byte} {cs : List LineChar} (h : openChars taken cs = true) :
    ∀ c ∈ cs, c.mark = false ∧ c.stopOk = true := by
  induction cs generalizing taken with
  | nil => simp
  | cons c cs ih =>
    obtain ⟨hends, -, hrest⟩ := openChars_cons.mp h
    obtain ⟨hstop, hmark, -⟩ := endsFrame_eq_false_iff.mp hends
    simp only [List.mem_cons, forall_eq_or_imp]
    exact ⟨⟨hmark, hstop⟩, ih hrest⟩

/-- R183: in LISTENING the characters that leave the frame open join it. -/
theorem takeChars_open {s : State} {cs : List LineChar} (h : s.sli.receive = .listening)
    (hopen : openChars s.sli.assembly cs = true) :
    takeChars cs s = { s with sli := { s.sli with assembly := s.sli.assembly ++ cs.map (·.data) } } := by
  induction cs generalizing s with
  | nil => simp
  | cons c cs ih =>
    obtain ⟨x, mark, stop⟩ := c
    obtain ⟨hends, hstill, hrest⟩ := openChars_cons.mp hopen
    obtain ⟨rfl, rfl, hlen⟩ := endsFrame_eq_false_iff.mp hends
    rw [stillOpen_iff, List.length_append, List.length_singleton] at hstill
    dsimp only at hlen hstill
    have hjoins : takeChar ⟨x, false, true⟩ s = { s with sli := { s.sli with assembly := s.sli.assembly ++ [x] } } :=
      takeChar_joins s x h (by omega) (by omega)
    rw [takeChars_cons, hjoins, ih (by exact h) hrest]
    simp

/-- A whole frame leaves the frame open up to its last byte. -/
theorem openChars_of_whole {taken rest : List Byte} (x : Byte) (hwhole : wholeFrame (taken ++ (rest ++ [x])) = true)
    (htaken : taken ≠ []) : openChars taken (rest.map fun b => ⟨b, false, true⟩) = true := by
  obtain ⟨a, k, len, tail, hframe⟩ : ∃ a k len tail, taken ++ (rest ++ [x]) = a :: k :: len :: tail := by
    unfold wholeFrame at hwhole
    split at hwhole
    · exact ⟨_, _, _, _, ‹_›⟩
    · exact absurd hwhole (by simp)
  obtain ⟨hmax, hlen⟩ : len.toNat ≤ 200 ∧ tail.length = len.toNat + 2 := by simpa [hframe, wholeFrame] using hwhole
  have htotal : taken.length + rest.length + 1 = 5 + len.toNat := by
    have := congrArg List.length hframe
    simp at this
    omega
  clear hwhole
  induction rest generalizing taken with
  | nil => rfl
  | cons b rest ih =>
    have hthird (n : Nat) (hn : n = 2) : (taken ++ b :: (rest ++ [x]))[n]? = some len := by
      rw [← List.cons_append, hframe, hn]; rfl
    have hpos : 0 < taken.length := List.length_pos_iff.mpr htaken
    refine openChars_cons.mpr ⟨?_, ?_, ih (by simp) (by simpa using hframe) (by simp at htotal ⊢; omega)⟩
    · have hb : taken.length = 2 → b = len := fun e => by
        have := hthird taken.length e
        rw [List.getElem?_append_right (Nat.le_refl _)] at this
        simpa using this
      by_cases e : taken.length = 2
      · simp [endsFrame, e, hb e, hmax]
      · simp [endsFrame, e]
    · by_cases e : taken.length + 1 < 3
      · simp [stillOpen, e]
      · have hget : (taken ++ [b]).getD 2 0 = len := by
          have := hthird 2 rfl
          rw [List.append_cons, List.getElem?_append_left (by simp; omega)] at this
          simp [List.getD_eq_getElem?_getD, this]
        rw [stillOpen_iff]
        rw [hget]
        simp only [List.length_append, List.length_cons, List.length_nil] at htotal ⊢
        omega

end Sys2Proof.Machine

/-! The supervisory line, the clock and every command as runs of small changes. -/

namespace Sys2Proof.Machine

open Safety

/-! ## The supervisory line (R183 to R187) -/

/-- The acts of a frame with a kind code: those of the request it names. -/
def asked (code : Byte) (a : Act) : Prop := ∃ k, kindCode k = code ∧ serving k a

section
variable {P : Act → Prop} {s : State}

theorem takeAddressed_shifts (code : Byte) (payload : List Byte) : Shifts (asked code) s (takeAddressed code payload s) := by
  have hanswered (status : Status) : Shifts (asked code) s (answerOnly code status s) :=
    .aside (acceptFrame_aside.trans (buildReply_aside _ _ _))
  unfold takeAddressed
  split
  · exact hanswered _
  · next k hk =>
    have hcode : kindCode k = code := by simpa using List.find?_some hk
    split
    · next hfits => exact (serve_shifts fun u => ownerOf_concluded k payload hfits).mono fun a ha => ⟨k, hcode, ha⟩
    · exact hanswered _

theorem takeBroadcast_shifts (code : Byte) (payload : List Byte) : Shifts (asked code) s (takeBroadcast code payload s) := by
  have hcounted (f : LineCounters → LineCounters) : Aside s (modLineCounters f (becomeMute s)) :=
    becomeMute_aside.trans (modLineCounters_aside f)
  unfold takeBroadcast
  dsimp only
  split
  · next h =>
    have hserved (a : Act) (ha : serving .disable a) : asked code a := ⟨_, h.2.symm, ha⟩
    exact ((Shifts.aside (hcounted _)).tail (.disable (hserved _ rfl))).tail (.evaluate (hserved _ ⟨rfl, by decide⟩))
  · split
    · next h =>
      have hserved (a : Act) (ha : serving .triggerCapture a) : asked code a := ⟨_, h.2.symm, ha⟩
      exact (Shifts.aside ((hcounted _).trans (.takeTrigger _ _))).tail (.evaluate (hserved _ ⟨rfl, by decide⟩))
    · exact .aside (hcounted _)

theorem completeFrame_shifts (frame : List Byte) : Shifts (asked (frame.getD 1 0)) s (completeFrame frame s) := by
  unfold completeFrame
  dsimp only
  split
  · split
    · exact takeBroadcast_shifts _ _
    · exact takeAddressed_shifts _ _
  · exact .aside (abandon_aside _)

theorem appendChar_shifts (x : Byte) :
    Shifts (fun a => ∃ y, s.sli.assembly[1]? = some y ∧ asked y a) s (appendChar x s) := by
  unfold appendChar
  dsimp only
  split
  · exact .aside (abandon_aside _)
  · split
    · next hcomplete =>
      have hlong : 1 < s.sli.assembly.length := by
        have := hcomplete.2
        rw [List.length_append, List.length_singleton] at this
        omega
      refine (completeFrame_shifts _).mono fun a ha => ⟨s.sli.assembly[1], List.getElem?_eq_getElem hlong, ?_⟩
      simpa [List.getD_eq_getElem?_getD, List.getElem?_append_left hlong, hlong] using ha
    · exact .aside (.interface s _ id)

theorem beginFrame_aside (x : Byte) : Aside s (beginFrame x s) := by
  unfold beginFrame
  split
  · exact .interface s _ id
  · exact becomeMute_aside

/-- Only a character that joins a frame in assembly can complete one. -/
theorem takeChar_aside (c : LineChar) (h : s.sli.receive ≠ .listening ∨ c.mark = true ∨ c.stopOk = false) :
    Aside s (takeChar c s) := by
  unfold takeChar
  split
  · exact .refl s
  · exact modLineCounters_aside _
  · split
    · exact modLineCounters_aside _
    · split
      · exact beginFrame_aside _
      · exact .refl s
  · next hlistening =>
    split
    · exact abandon_aside _
    · next hstop =>
      split
      · exact (abandon_aside _).trans (beginFrame_aside _)
      · next hmark => exact absurd (h.resolve_left (· hlistening)) (by simp_all)

theorem takeChar_shifts (c : LineChar) :
    Shifts (fun a => s.sli.receive = .listening ∧ ∃ y, s.sli.assembly[1]? = some y ∧ asked y a) s (takeChar c s) := by
  by_cases h : s.sli.receive ≠ .listening ∨ c.mark = true ∨ c.stopOk = false
  · exact .aside (takeChar_aside c h)
  · obtain ⟨hlistening, hmark, hstop⟩ : s.sli.receive = .listening ∧ c.mark = false ∧ c.stopOk = true := by simpa using h
    have hjoins : takeChar c s = appendChar c.data s := by simp [takeChar, hlistening, hmark, hstop]
    rw [hjoins]
    exact (appendChar_shifts c.data).mono fun a ha => ⟨hlistening, ha⟩

/-- Characters that complete no frame are aside, whatever they do to the receiver. -/
theorem takeChars_open_aside {cs : List LineChar} {a : Byte} (hopen : openChars [a] cs = true)
    (h : s.sli.receive ≠ .listening ∨ s.sli.assembly = [a]) : Aside s (takeChars cs s) := by
  cases hreceive : s.sli.receive with
  | off => rw [takeChars_off hreceive]; exact .refl s
  | answering =>
    cases cs with
    | nil => exact .refl s
    | cons c cs => rw [takeChars_answering hreceive _ (by simp)]; exact modLineCounters_aside _
  | mute => rw [takeChars_mute hreceive cs (plain_of_openChars hopen)]; exact .refl s
  | listening =>
    rw [takeChars_open hreceive (by rwa [h.resolve_left (· hreceive)])]
    exact .interface s _ id

/-- After them the frame stands in assembly, or the receiver is deaf to it. -/
theorem takeChars_open_assembly {cs : List LineChar} {a : Byte} (hopen : openChars [a] cs = true)
    (h : s.sli.receive ≠ .listening ∨ s.sli.assembly = [a]) :
    (takeChars cs s).sli.receive ≠ .listening ∨ (takeChars cs s).sli.assembly = a :: cs.map (·.data) := by
  cases hreceive : s.sli.receive with
  | off => simp [takeChars_off hreceive, hreceive]
  | answering =>
    cases cs with
    | nil => simp [hreceive]
    | cons c cs => rw [takeChars_answering hreceive _ (by simp)]; simp [modLineCounters, hreceive]
  | mute => simp [takeChars_mute hreceive cs (plain_of_openChars hopen), hreceive]
  | listening =>
    have hassembly : s.sli.assembly = [a] := h.resolve_left (· hreceive)
    rw [takeChars_open hreceive (by rwa [hassembly])]
    exact .inr (by simp [hassembly])

/-- The first character of a frame leaves the frame begun, or the receiver deaf to the rest. -/
theorem takeChar_begins {c : LineChar} (hmark : c.mark = true) (hstop : c.stopOk = true) :
    (takeChar c s).sli.receive ≠ .listening ∨ (takeChar c s).sli.assembly = [c.data] := by
  have hbegun (u : State) : (beginFrame c.data u).sli.receive ≠ .listening ∨ (beginFrame c.data u).sli.assembly = [c.data] := by
    unfold beginFrame
    split
    · exact .inr rfl
    · exact .inl (by simp [becomeMute])
  cases hreceive : s.sli.receive with
  | off | answering => simp [takeChar, hreceive, modLineCounters]
  | mute => simpa [takeChar, hreceive, hmark, hstop] using hbegun s
  | listening => simpa [takeChar, hreceive, hmark, hstop] using hbegun _

/-- R184: a frame abandoned, or broken off, does nothing beyond the interface. -/
theorem takeChars_broken_aside {chars : List LineChar} (h : brokenFrame chars = true) : Aside s (takeChars chars s) := by
  cases chars with
  | nil => exact .refl s
  | cons c cs =>
    obtain ⟨⟨hmark, hstop⟩, hopen⟩ : (c.mark = true ∧ c.stopOk = true) ∧ openChars [c.data] cs = true := by
      simpa [brokenFrame] using h
    exact (takeChar_aside c (.inr (.inl hmark))).trans (takeChars_open_aside hopen (takeChar_begins hmark hstop))

theorem takeChars_abandoned_aside {chars : List LineChar} (h : abandonedFrame chars = true) : Aside s (takeChars chars s) := by
  cases chars with
  | nil => exact .refl s
  | cons c cs =>
    obtain ⟨⟨⟨hmark, hstop⟩, hopen⟩, hlast⟩ : ((c.mark = true ∧ c.stopOk = true) ∧ openChars [c.data] cs.dropLast = true) ∧
        cs.getLast?.any (endsFrame cs.length) = true := by simpa [abandonedFrame] using h
    obtain ⟨last, hcs, hends⟩ : ∃ last, cs.getLast? = some last ∧ endsFrame cs.length last = true := by
      simpa [Option.any_eq_true] using hlast
    have hsplit : cs.dropLast ++ [last] = cs := List.dropLast_append_getLast? last hcs
    have hbroken : Aside s (takeChars (c :: cs.dropLast) s) := takeChars_broken_aside (by simp [brokenFrame, hmark, hstop, hopen])
    have hassembly := takeChars_open_assembly hopen (takeChar_begins (s := s) hmark hstop)
    rw [← hsplit, ← List.cons_append, takeChars_append, takeChars_cons, takeChars_nil]
    rw [← takeChars_cons] at hassembly
    generalize takeChars (c :: cs.dropLast) s = u at hbroken hassembly
    refine hbroken.trans ?_
    by_cases hplain : u.sli.receive ≠ .listening ∨ last.mark = true ∨ last.stopOk = false
    · exact takeChar_aside last hplain
    · obtain ⟨hlistening, hlastMark, hlastStop⟩ : u.sli.receive = .listening ∧ last.mark = false ∧ last.stopOk = true := by
        simpa using hplain
      obtain ⟨htwo, hlong⟩ : cs.length = 2 ∧ 200 < last.data.toNat := by
        simpa [endsFrame, hlastMark, hlastStop] using hends
      have hthree : (u.sli.assembly ++ [last.data]).length = 3 ∧ 200 < last.data.toNat := by
        rw [hassembly.resolve_left (· hlistening)]
        simp [htwo, hlong]
      have habandoned : takeChar last u = abandon (fun c => { c with lengthAbandonments := count16 c.lengthAbandonments }) u := by
        simp [takeChar, hlistening, hlastMark, hlastStop, appendChar, hthree.1, hlong]
      rw [habandoned]
      exact abandon_aside _

/-- R183 to R187: a whole frame does no more than the request its second character names. -/
theorem takeChars_whole_shifts {frame : List Byte} (h : wholeFrame frame = true) :
    Shifts (asked (frame.getD 1 0)) s (takeChars (frameChars frame) s) := by
  obtain ⟨a, body, last, rfl⟩ : ∃ a body last, frame = a :: (body ++ [last]) := by
    obtain ⟨a, tail, rfl, htail⟩ : ∃ a tail, frame = a :: tail ∧ tail ≠ [] := by
      unfold wholeFrame at h
      split at h
      · exact ⟨_, _, rfl, by simp⟩
      · exact absurd h (by simp)
    exact ⟨a, tail.dropLast, tail.getLast htail, by rw [List.dropLast_append_getLast]⟩
  have hopen : openChars [a] (body.map fun b => ⟨b, false, true⟩) = true := openChars_of_whole last h (by simp)
  have hchars : frameChars (a :: (body ++ [last])) =
      (⟨a, true, true⟩ :: body.map fun b => ⟨b, false, true⟩) ++ [⟨last, false, true⟩] := by simp [frameChars]
  have hbroken : Aside s (takeChars (⟨a, true, true⟩ :: body.map fun b => ⟨b, false, true⟩) s) :=
    takeChars_broken_aside (by simpa [brokenFrame] using hopen)
  have hassembly := takeChars_open_assembly hopen (takeChar_begins (s := s) (c := ⟨a, true, true⟩) rfl rfl)
  rw [hchars, takeChars_append, takeChars_cons, takeChars_nil]
  rw [← takeChars_cons] at hassembly
  generalize takeChars (⟨a, true, true⟩ :: body.map fun b => ⟨b, false, true⟩) s = u at hbroken hassembly
  refine (Shifts.aside hbroken).trans ((takeChar_shifts _).mono ?_)
  rintro act ⟨hlistening, y, hy, hasked⟩
  rw [hassembly.resolve_left (· hlistening)] at hy
  cases body with
  | nil => simp at hy
  | cons b body =>
    obtain rfl : b = y := by simpa using hy
    simpa using hasked

theorem takeChars_shifts (hp : ∀ k a, serving k a → P a) (cs : List LineChar) : Shifts P s (takeChars cs s) := by
  induction cs generalizing s with
  | nil => exact .refl
  | cons c cs ih => exact ((takeChar_shifts c).mono fun a ⟨_, _, _, k, _, ha⟩ => hp k a ha).trans ih

theorem takeGap_aside : Aside s (takeGap s) := by
  unfold takeGap
  split
  · exact abandon_aside _
  · exact .refl s

theorem startReply_aside : Aside s (startReply s) := by
  unfold startReply
  split
  · exact .interface s _ id
  · exact .refl s

/-! ## Resets (R194 to R196) -/

theorem Aside.pins (s : State) (p : Pins) : Aside s { s with pins := p } := by constructor <;> simp [EventCountsBounded]

theorem beginReset_shifts (k : ResetKind) (hp : P .reset) : Shifts P s (beginReset k s) := by
  unfold beginReset
  split
  · exact .single (.reset _ _ _ (.inr rfl) hp)
  · exact .single (.reset _ _ _ (.inr rfl) hp)
  · exact .single (.reset _ _ _ (.inl rfl) hp)
  · exact .single (.reset _ _ _ (.inl rfl) hp)

theorem endReset_shifts (hp : P .reset) : Shifts P s (endReset s) := .single (.reset _ _ _ (.inl rfl) hp)

theorem endReply_shifts (hp : P .reset) : Shifts P s (endReply s) := by
  unfold endReply
  split
  · split
    · exact beginReset_shifts _ hp
    · exact .aside (.interface s _ id)
  · exact .refl

end

end Sys2Proof.Machine

/-! The clock, every command, and the step as runs of small changes. -/

namespace Sys2Proof.Machine

open Safety

/-! ## The clock -/

/-- What a tick may do, where the branches of `Q` are those that may bring an order. -/
def ticking (Q : Branch → Prop) : Act → Prop
  | .order b => Q b
  | .counter _ | .climb | .unplant | .lose | .fail => True
  | .quit c => c = .acquireTimeout
  | _ => False

theorem orderless_le_ticking {Q : Branch → Prop} (a : Act) (h : orderless a) : ticking Q a := by
  cases a with
  | counter | fail | lose => trivial
  | _ => exact absurd h id

theorem synthesising_le_ticking {Q : Branch → Prop} {b : Branch} (hb : Q b) (a : Act) (h : synthesising b a) : ticking Q a := by
  cases a with
  | order c => exact (show c = b from h) ▸ hb
  | counter | climb | fail | lose => trivial
  | _ => exact absurd h id

/-- What a mark of one branch's counter may do. -/
def marking (b : Branch) : Act → Prop
  | .counter c | .order c => c = b
  | .climb | .fail => True
  | _ => False

theorem marking_working (b : Branch) : Working (marking b) := ⟨id, id, id, fun _ => id, fun _ => id⟩

section
variable {P : Act → Prop} {s : State}

/-- R54: time takes no counter above 2048 + W. -/
theorem advanceCounter_le (top p : Nat) (a : AngleCounter) : (advanceCounter top p a).count ≤ max a.count top := by
  unfold advanceCounter
  repeat' split
  · exact le_max_left ..
  · exact le_max_left ..
  · next hbelow _ => exact le_max_of_le_right (Nat.not_le.mp hbelow)

theorem advanceAngle_shifts (b : Branch) (hc : P (.counter b)) (hu : P .climb) : Shifts P s (advanceAngle b s) := by
  unfold advanceAngle
  split
  · refine modTrack_shifts b _ ⟨fun a ha => .inr ?_, .inl rfl⟩ (.inr ⟨hc, .inr hu⟩)
    obtain ⟨a₀, ha₀, rfl⟩ := Option.map_eq_some_iff.mp ha
    exact ⟨a₀, ha₀, advanceCounter_le ..⟩
  · exact .refl

theorem advanceInterval_aside : Aside s (advanceInterval s) := by
  constructor <;> simp [advanceInterval, EventCountsBounded]

theorem advanceTime_shifts (hc : ∀ b, P (.counter b)) (hu : P .climb) : Shifts P s (advanceTime s) := by
  have hangles : Shifts P s (forBranches advanceAngle s) :=
    ((advanceAngle_shifts .ab (hc _) hu).trans (advanceAngle_shifts .bc (hc _) hu)).trans (advanceAngle_shifts .ca (hc _) hu)
  unfold advanceTime
  dsimp only
  split
  · exact hangles.tail (.aside (.clock _ _))
  · exact hangles.tail (.aside ((Aside.clock _ _).trans advanceInterval_aside))

/-- A mark on a branch that may order, or on none. -/
theorem runDue_shifts (Q : Branch → Prop) (d : Due)
    (h : ∀ b, d = .delay b ∨ d = .retry b ∨ d = .top b ∧ ¬ AtTop s b → Q b) : Shifts (ticking Q) s (runDue d s) := by
  cases d with
  | settling => exact endSettling_shifts
  | receiver => exact receiverOn_shifts
  | late => exact .aside markLate_aside
  | gap => exact markGap_shifts
  | lost => exact .aside markLost_aside
  | timeout => exact acquisitionTimeout_shifts rfl
  | silent c => exact enterSilent_shifts c trivial
  | line i => exact changeLevel_shifts i trivial
  | delay b => exact reachDelay_shifts b trivial trivial (h b (.inl rfl))
  | guardEnd b => exact reachGuardEnd_shifts b trivial trivial trivial
  | retry b => exact reachRetry_shifts b trivial trivial (h b (.inr (.inl rfl))) trivial
  | top b =>
    by_cases htop : AtTop s b
    · exact (reachTop_shifts b htop).1.mono orderless_le_ticking
    · exact (reachTop_synthesising b).mono (synthesising_le_ticking (h b (.inr (.inr ⟨rfl, htop⟩))))

/-- R61, R62: a closure at the top of one branch leaves the counters of the others as they are, or RUN behind. -/
theorem reachTop_others (b c : Branch) (hc : c ≠ b) (h : AtTop s c) : AtTop (reachTop b s) c := by
  have hclosed : Shifts (marking b) s (closeAtTop b s) := closeAtTop_shifts b rfl trivial (.inl ⟨rfl, trivial⟩)
  have hkept : AtTop (closeAtTop b s) c := h.of_stands (hclosed.counter_stands (marking_working b) c hc)
  unfold reachTop
  split
  · dsimp only
    split
    · next hlimit => exact .of_left (loseTogether_shifts b hlimit).2
    · exact hkept
  · exact h

/-- A mark that is not a branch's own leaves its counter at its top. -/
theorem runDue_keeps_top {b : Branch} {d : Due} (h : AtTop s b)
    (hd : d ≠ .delay b ∧ d ≠ .guardEnd b ∧ d ≠ .retry b ∧ d ≠ .top b) : AtTop (runDue d s) b := by
  have hkept {P : Act → Prop} {t : State} (hw : Working P) (hb : ¬ P (.counter b)) (hs : Shifts P s t) : AtTop t b :=
    h.of_stands (hs.counter_stands hw b hb)
  have hnone : Working fun _ => False := by simp [Working]
  cases d with
  | settling => exact hkept hnone id endSettling_shifts
  | receiver => exact hkept hnone id receiverOn_shifts
  | late => exact hkept hnone id (.aside markLate_aside)
  | gap => exact hkept hnone id markGap_shifts
  | lost => exact hkept hnone id (.aside markLost_aside)
  | timeout =>
    simp only [runDue, acquisitionTimeout]
    split
    · next hacquire =>
      refine .of_left ?_
      rw [failAcquisition, enterHalted_oc _ _ _ _ _ (.inl (by simpa using hacquire))]
      simp
    · exact h
  | silent c => exact hkept (P := (· = .fail)) (by simp [Working]) (by simp) (enterSilent_shifts c rfl)
  | line i => exact hkept (P := (· = .unplant)) (by simp [Working]) (by simp) (changeLevel_shifts i rfl)
  | delay c =>
    have hc : b ≠ c := by rintro rfl; exact hd.1 rfl
    exact hkept (marking_working c) hc (reachDelay_shifts c rfl trivial rfl)
  | guardEnd c =>
    have hc : b ≠ c := by rintro rfl; exact hd.2.1 rfl
    exact hkept (marking_working c) hc (reachGuardEnd_shifts c rfl trivial trivial)
  | retry c =>
    have hc : b ≠ c := by rintro rfl; exact hd.2.2.1 rfl
    exact hkept (marking_working c) hc (reachRetry_shifts c rfl trivial rfl trivial)
  | top c =>
    have hc : b ≠ c := by rintro rfl; exact hd.2.2.2 rfl
    exact reachTop_others c b hc h

theorem runDues_shifts {Q : Branch → Prop} {l : List Due} (hnodup : l.Nodup)
    (h : ∀ b, ¬ Q b → .delay b ∉ l ∧ .guardEnd b ∉ l ∧ .retry b ∉ l ∧ (.top b ∈ l → AtTop s b)) :
    Shifts (ticking Q) s (l.foldl (fun s d => runDue d s) s) := by
  induction l generalizing s with
  | nil => exact .refl
  | cons d l ih =>
    obtain ⟨hd, hnodup⟩ := List.nodup_cons.mp hnodup
    refine (runDue_shifts Q d fun b hb => ?_).trans (ih hnodup fun b hb => ?_)
    · by_contra hquiet
      obtain ⟨hdelay, -, hretry, htop⟩ := h b hquiet
      obtain rfl | rfl | ⟨rfl, hbelow⟩ := hb
      · exact hdelay (.head _)
      · exact hretry (.head _)
      · exact hbelow (htop (.head _))
    · obtain ⟨hdelay, hguard, hretry, htop⟩ := h b hb
      simp only [List.mem_cons, not_or] at hdelay hguard hretry
      refine ⟨hdelay.2, hguard.2, hretry.2, fun hmem => runDue_keeps_top (htop (.tail _ hmem)) ?_⟩
      exact ⟨Ne.symm hdelay.1, Ne.symm hguard.1, Ne.symm hretry.1, fun e => hd (e ▸ hmem)⟩

/-- Every mark there is, once. -/
def allDue : List Due :=
  [.settling, .receiver, .late, .gap, .lost, .timeout] ++ ValveChannel.all.map .silent ++ PlantInput.all.map .line ++
    ([.ab, .bc, .ca].map fun b => [Due.delay b, .guardEnd b, .retry b, .top b]).flatten

theorem dueIf_sublist (c : Bool) (d : Due) : (dueIf c d).Sublist [d] := by cases c <;> simp [dueIf]

theorem dueIf_flatten_sublist {α : Type} (p : α → Bool) (f : α → Due) (l : List α) :
    (l.map fun x => dueIf (p x) (f x)).flatten.Sublist (l.map f) := by
  induction l with
  | nil => exact .slnil
  | cons x l ih => exact (dueIf_sublist (p x) (f x)).append ih

theorem dueAt_nodup (s t : State) : (dueAt s t).Nodup := by
  refine List.Nodup.sublist (l₂ := allDue) ?_ (by decide)
  have hangle (b : Branch) : (angleDue s t b).Sublist [Due.delay b, .guardEnd b, .retry b, .top b] :=
    (((dueIf_sublist _ _).append (dueIf_sublist _ _)).append (dueIf_sublist _ _)).append (dueIf_sublist _ _)
  have hinterval : (intervalDue s t).Sublist
      ([.settling, .receiver, .late, .gap, .lost, .timeout] ++ ValveChannel.all.map .silent ++ PlantInput.all.map .line) :=
    ((((((((dueIf_sublist _ _).append (dueIf_sublist _ _)).append (dueIf_sublist _ _)).append (dueIf_sublist _ _)).append
      (dueIf_sublist _ _)).append (dueIf_sublist _ _))).append (dueIf_flatten_sublist _ _ _)).append (dueIf_flatten_sublist _ _ _)
  exact ((hinterval.append (hangle .ab)).append (hangle .bc)).append (hangle .ca)

/-- A branch with a delay armed or a transaction open. -/
def Busy (s : State) (b : Branch) : Prop := (s.vlc.firing.get b).armed ≠ none ∨ (s.vlc.firing.get b).transaction ≠ none

theorem mem_dueIf {c : Bool} {d e : Due} : e ∈ dueIf c d ↔ c = true ∧ e = d := by cases c <;> simp [dueIf]

/-- The marks of a branch that a tick brings about: its delay and its transaction's stand in its firing items, its top in its counter. -/
theorem dueAt_of_branch {t : State} (b : Branch) (hmem : .delay b ∈ dueAt s t ∨ .guardEnd b ∈ dueAt s t ∨ .retry b ∈ dueAt s t) :
    Busy t b := by
  cases b <;>
    simp only [dueAt, intervalDue, angleDue, List.mem_append, mem_dueIf, List.mem_flatten, List.mem_map, reduceCtorEq, and_false,
      false_or, or_false, Due.delay.injEq, Due.guardEnd.injEq, Due.retry.injEq, and_true, exists_exists_and_eq_and, exists_false,
      Option.any_eq_true] at hmem <;>
    rcases hmem with ⟨x, hx, -⟩ | ⟨x, hx, -⟩ | ⟨x, hx, -⟩ <;> simp [Busy, hx]

theorem dueAt_top {t : State} (b : Branch) (hmem : .top b ∈ dueAt s t) : AtTop t b := by
  intro _
  cases b <;>
    simp only [dueAt, intervalDue, angleDue, List.mem_append, mem_dueIf, List.mem_flatten, List.mem_map, reduceCtorEq, and_false,
      false_or, or_false, Due.top.injEq, and_true, exists_exists_and_eq_and, exists_false, Option.any_eq_true,
      decide_eq_true_eq] at hmem <;>
    obtain ⟨a, ha, htop⟩ := hmem <;> simpa [countOf, ha] using htop

@[simp] theorem advanceTime_firing : (advanceTime s).vlc.firing = s.vlc.firing := by
  have hangle (b : Branch) (s : State) : (advanceAngle b s).vlc.firing = s.vlc.firing := by
    unfold advanceAngle
    split <;> simp
  have hangles : (forBranches advanceAngle s).vlc.firing = s.vlc.firing := by rw [forBranches, hangle, hangle, hangle]
  unfold advanceTime
  dsimp only
  split
  · exact hangles
  · exact hangles

/-- A tick is a run of changes in which only a busy branch may order. -/
theorem tick_shifts : Shifts (ticking (Busy s)) s (tick s) := by
  unfold tick running
  split
  · exact .refl
  · have hadvanced : Shifts (ticking (Busy s)) s (advanceTime s) := advanceTime_shifts (fun _ => trivial) trivial
    have hbusy (b : Branch) : Busy (advanceTime s) b ↔ Busy s b := by simp [Busy]
    unfold tickRunning inAnyOrder
    dsimp only
    generalize advanceTime s = u at hadvanced hbusy
    have hnodup : (anyOrder (dueAt s u) u).Nodup := anyOrder_nodup (dueAt_nodup s u) u
    refine (hadvanced.tail (.aside (takePicks_aside _))).trans (runDues_shifts hnodup fun b hb => ?_)
    simp only [(anyOrder_perm (dueAt s u) u).mem_iff]
    refine ⟨fun h => hb ?_, fun h => hb ?_, fun h => hb ?_, fun h => (?_ : AtTop u b)⟩
    · exact (hbusy b).mp (dueAt_of_branch b (.inl h))
    · exact (hbusy b).mp (dueAt_of_branch b (.inr (.inl h)))
    · exact (hbusy b).mp (dueAt_of_branch b (.inr (.inr h)))
    · exact dueAt_top b h

end

end Sys2Proof.Machine

/-! Every command, and the step, as a run of small changes. -/

namespace Sys2Proof.Machine

open Safety

/-! ## Every command -/

/-- What a command that brings no request may do. -/
def working : Instr → Act → Prop
  | .dataFrame _ _, a => framing a
  | .acquireTimeout, a => a = .quit .acquireTimeout
  | .crossingSynthesized b, a => synthesising b a
  | .delayReached b, a => a = .counter b ∨ a = .climb ∨ a = .order b
  | .guardExpiry b, a => a = .counter b ∨ a = .climb ∨ a = .fail
  | .retry b, a => marking b a
  | .refused _ _ _, a | .status _ _, a | .channelSilent _, a => a = .fail
  | .plantLineChanged _, a => a = .unplant
  | .powerOn, a | .supplyDip, a | .resetLine, a | .resetLineRelease, a | .supplyRecovery, a | .replySent, a => a = .reset
  | _, _ => False

/-- What a command may do: the acts of the request it may bring, or its own. -/
def permitted (s : State) (c : Instr) (a : Act) : Prop := (∃ k, Asks s c k ∧ serving k a) ∨ working c a

/-- A command completes, as a run of the changes that `P` permits. -/
def Runs (P : Act → Prop) (s : State) (o : Host.Outcome State Fault Refusal) : Prop := ∃ t, o = .next t ∧ Shifts P s t

section
variable {P : Act → Prop} {s : State}

theorem Runs.next {t : State} (h : Shifts P s t) : Runs P s (.next t) := ⟨t, rfl, h⟩

theorem Runs.running {f : State → State} (h : Shifts P s (f s)) : Runs P s (.next (running f s)) := by
  refine .next ?_
  unfold Machine.running
  split
  · exact .refl
  · exact h

theorem Runs.mono {Q : Act → Prop} {o : Host.Outcome State Fault Refusal} (h : ∀ a, P a → Q a) (k : Runs P s o) : Runs Q s o := by
  obtain ⟨t, ht, hs⟩ := k
  exact ⟨t, ht, hs.mono h⟩

/-- A request row is a run of its kind's acts, well-formed or not: a payload that is not of the table's length is turned away. -/
theorem exec_request_runs {i : Instr} {k : RequestKind} {p : List Byte} (h : requestOf i = some (k, p)) :
    Runs (serving k) s (exec i s) := by
  by_cases hw : wellFormed i = true
  · rw [exec_request s hw h]
    exact .running (takeRequest_shifts _ fun u => ownerOf_concluded k p (lengthFits_of_request hw h))
  · have hbad (u : State) : Shifts (serving k) u (concluded k (badLength u)) := by
      unfold concluded
      rw [if_neg (by simp [badLength, turnAway])]
      exact .refl
    cases i with
    | setBranch branch gain trim fallback step hold floor rest =>
      cases h
      have hlong : 185 < rest.length := by simpa [wellFormed] using hw
      refine .running (takeRequest_shifts _ fun u => ?_)
      simpa only [if_pos hlong] using hbad u
    | setFilters shares =>
      cases h
      have hlen : ¬ shares.length = 12 := by simpa [wellFormed] using hw
      refine .running (takeRequest_shifts _ fun u => ?_)
      simpa only [if_neg hlen] using hbad u
    | loadTable entries =>
      cases h
      have hlen : ¬ entries.length = 65 := by simpa [wellFormed] using hw
      refine .running (takeRequest_shifts _ fun u => ?_)
      simpa only [if_neg hlen] using hbad u
    | requestFrame | frameAbandoned | gapAbandonment | dataFrame | checkFrame | valveFrameError => cases h
    | _ => exact absurd rfl hw

/-- The rows that are no request, apart from the frames and characters of the line. -/
theorem exec_working_runs (c : Instr) (hrequest : requestOf c = none) (hwell : wellFormed c = true)
    (hframe : ∀ f, c ≠ .requestFrame f) (hchar : ∀ x, c ≠ .characterWhileAnswering x) : Runs (working c) s (exec c s) := by
  cases c with
  | requestFrame f => exact absurd rfl (hframe f)
  | characterWhileAnswering x => exact absurd rfl (hchar x)
  | powerOn => exact .next (.trans (Shifts.aside (.pins s _)) (beginReset_shifts _ rfl))
  | supplyDip =>
    refine .next ?_
    split
    · exact .refl
    · exact .trans (Shifts.aside (.pins s _)) (beginReset_shifts _ rfl)
  | resetLine =>
    refine .next ?_
    split
    · exact .refl
    · exact .trans (Shifts.aside (.pins s _)) (beginReset_shifts _ rfl)
  | resetLineRelease =>
    refine .next ?_
    split
    · exact .trans (Shifts.aside (.pins s _)) (endReset_shifts rfl)
    · exact .refl
  | supplyRecovery =>
    refine .next ?_
    split
    · exact .trans (Shifts.aside (.pins s _)) (endReset_shifts rfl)
    · exact .refl
  | receiverOn => exact .running receiverOn_shifts
  | frameAbandoned chars => exact .running (.aside (takeChars_abandoned_aside hwell))
  | gapAbandonment chars => exact .running (.aside ((takeChars_broken_aside hwell).trans takeGap_aside))
  | replyStart => exact .running (.aside startReply_aside)
  | replySent => exact .running (endReply_shifts rfl)
  | dataFrame header words => exact .running (takeLinkFrame_shifts header words)
  | checkFrame header words => exact .running (takeLinkFrame_shifts_of_check header words hwell)
  | linkLate => exact .running reachLate_shifts
  | measGap => exact .running reachGapMark_shifts
  | linkLost => exact .running reachLost_shifts
  | acquireTimeout => exact .running (acquisitionTimeout_shifts rfl)
  | crossingSynthesized b => exact .running (reachTop_synthesising b)
  | delayReached b => exact .running (reachDelay_shifts b (.inl rfl) (.inr (.inl rfl)) (.inr (.inr rfl)))
  | guardExpiry b => exact .running (reachGuardEnd_shifts b (.inl rfl) (.inr (.inl rfl)) (.inr (.inr rfl)))
  | retry b => exact .running (reachRetry_shifts b rfl trivial rfl trivial)
  | valveFrameError c bytes => exact .running (takeValveFrame_shifts c bytes (.inr (by simpa [wellFormed] using hwell)))
  | fv c => exact .running (takeIndication_shifts c _ (.inr (.inl rfl)))
  | fired c tag => exact .running (takeIndication_shifts c _ (.inr (.inr (.inr ⟨tag, rfl⟩))))
  | selfFired c => exact .running (takeIndication_shifts c _ (.inr (.inr (.inl rfl))))
  | refused c tag cause => exact .running (takeIndication_shifts c _ (.inl rfl))
  | status c fields => exact .running (takeIndication_shifts c _ (.inl rfl))
  | channelSilent c => exact .running (enterSilent_shifts c rfl)
  | rawLevelChange i level => exact .next (.aside (moveRawLevel_aside i level))
  | plantLineChanged i => exact .running (changeLevel_shifts i rfl)
  | initialSettlingEnd => exact .running endSettling_shifts
  | framingError data mark => exact .running (.aside (takeChar_aside _ (.inr (.inr rfl))))
  | _ => cases hrequest

/-- Every command that is what its row names is a run of the changes permitted it. -/
theorem exec_runs (c : Instr) (hwell : wellFormed c = true) : Runs (permitted s c) s (exec c s) := by
  cases hrequest : requestOf c with
  | some r =>
    obtain ⟨k, p⟩ := r
    refine (exec_request_runs hrequest).mono fun a ha => .inl ⟨k, ?_, ha⟩
    cases c with
    | requestFrame | characterWhileAnswering => cases hrequest
    | _ => simp [Asks, hrequest]
  | none =>
    cases c with
    | requestFrame frame =>
      refine .running ((takeChars_whole_shifts hwell).mono ?_)
      rintro a ⟨k, hk, ha⟩
      refine .inl ⟨k, ?_, ha⟩
      obtain ⟨x, y, l, rfl⟩ : ∃ x y l, frame = x :: y :: l := by
        simp only [wellFormed, wholeFrame] at hwell
        split at hwell
        · exact ⟨_, _, _, rfl⟩
        · exact absurd hwell (by simp)
      simpa [Asks] using hk.symm
    | characterWhileAnswering x =>
      refine .running ((takeChar_shifts x).mono ?_)
      rintro a ⟨hlistening, y, hy, k, rfl, ha⟩
      exact .inl ⟨k, ⟨hlistening, hy⟩, ha⟩
    | _ => exact (exec_working_runs _ hrequest hwell (by simp) (by simp)).mono fun a ha => .inr ha

/-- What any command may do, whatever its operands: an order by its row alone. -/
def anyhow (c : Instr) (a : Act) : Prop := working c a ∨ ∀ b, a ≠ .order b

theorem serving_le_anyhow {c : Instr} (k : RequestKind) (a : Act) (h : serving k a) : anyhow c a :=
  .inr (by rintro b rfl; exact h)

theorem framing_le_anyhow {c : Instr} (a : Act) (h : framing a) : anyhow c a :=
  .inr (by rintro b rfl; exact h)

/-- Whatever the command, it completes as a run of small changes. -/
theorem exec_runs_anyhow (c : Instr) : Runs (anyhow c) s (exec c s) := by
  by_cases hwell : wellFormed c = true
  · refine (exec_runs c hwell).mono fun a ha => ?_
    obtain ⟨k, -, ha⟩ | ha := ha
    · exact serving_le_anyhow k a ha
    · exact .inl ha
  · cases c with
    | requestFrame frame => exact .running (takeChars_shifts serving_le_anyhow _)
    | frameAbandoned chars => exact .running (takeChars_shifts serving_le_anyhow _)
    | gapAbandonment chars => exact .running ((takeChars_shifts serving_le_anyhow _).tail (.aside takeGap_aside))
    | setBranch | setFilters | loadTable => exact (exec_request_runs rfl).mono (serving_le_anyhow _)
    | dataFrame header words | checkFrame header words =>
      exact .running ((takeLinkFrame_shifts header words).mono framing_le_anyhow)
    | valveFrameError c bytes => exact .running (takeValveFrame_shifts c bytes (.inl (.inr (by simp))))
    | _ => exact absurd rfl hwell

end

end Sys2Proof.Machine

/-! What the small changes leave: the effects of a changed cause set, and the queue. -/

namespace Sys2Proof.Machine

open Safety

/-! ## A changed cause set (R145, R150, R151) -/

section
variable (b : Branch) (f : CauseSet → CauseSet) (s : State)

/-- A change of a set blocks the branch, unblocks it, or moves no branch. -/
theorem changeCauses_cases :
    (s.oc.device = .run ∧ noCauses (s.causes.get b) = true ∧ noCauses (f (s.causes.get b)) = false ∧
      changeCauses b f s = enterBlocked b { s with causes := s.causes.set b (f (s.causes.get b)) }) ∨
    (s.oc.device = .run ∧ noCauses (s.causes.get b) = false ∧ noCauses (f (s.causes.get b)) = true ∧
      changeCauses b f s = leaveBlocked b { s with causes := s.causes.set b (f (s.causes.get b)) }) ∨
    ((s.oc.device = .run → noCauses (f (s.causes.get b)) = noCauses (s.causes.get b)) ∧
      changeCauses b f s = { s with causes := s.causes.set b (f (s.causes.get b)) }) := by
  by_cases hrun : s.oc.device = .run
  · cases hold : noCauses (s.causes.get b) <;> cases hnew : noCauses (f (s.causes.get b)) <;>
      simp [changeCauses, hrun, hold, hnew]
  · exact .inr (.inr ⟨fun h => absurd h hrun, changeCauses_outside b f s hrun⟩)

@[simp] theorem enterBlocked_branches :
    (enterBlocked b s).bdu.branches = s.bdu.branches.set b (blockDemand (s.bdu.branches.get b)) := by
  unfold enterBlocked
  dsimp only
  split <;> simp [closeOvertaken, modGroupCounters, modDemand]

@[simp] theorem enterBlocked_fallbackActive : (enterBlocked b s).oc.fallbackActive = fallbackLevel (enterBlocked b s) := rfl

/-- R150: a branch that enters BLOCKED has nothing armed and nothing open. -/
theorem enterBlocked_firing_self :
    ((enterBlocked b s).vlc.firing.get b).armed = none ∧ ((enterBlocked b s).vlc.firing.get b).transaction = none := by
  unfold enterBlocked
  dsimp only
  split
  · simp [closeOvertaken, modGroupCounters]
  · next hnone => simpa using hnone

theorem enterBlocked_firing_ne {c : Branch} (h : c ≠ b) : (enterBlocked b s).vlc.firing.get c = s.vlc.firing.get c := by
  unfold enterBlocked
  dsimp only
  split <;> simp [closeOvertaken, modGroupCounters, PerBranch.get_set_ne _ _ _ _ h]

theorem closeOvertaken_orders (x : Transaction) (g : Group) :
    ((closeOvertaken b x s).vlc.groups.get g).counters.orders = (s.vlc.groups.get g).counters.orders ∧
      ((closeOvertaken b x s).vlc.groups.get g).counters.retries = (s.vlc.groups.get g).counters.retries := by
  by_cases h : g = x.group <;> simp [closeOvertaken, modGroupCounters, h, PerGroup.get_set_ne]

/-- No change of a set orders or retries a group. -/
theorem changeCauses_orders (g : Group) :
    ((changeCauses b f s).vlc.groups.get g).counters.orders = (s.vlc.groups.get g).counters.orders ∧
      ((changeCauses b f s).vlc.groups.get g).counters.retries = (s.vlc.groups.get g).counters.retries := by
  unfold changeCauses enterBlocked
  dsimp only
  repeat' split
  all_goals simp [closeOvertaken_orders, leaveBlocked]

end

/-! ## The latch consumed, lock, DISABLE (R10, R53, R83) -/

section
variable (s : State)

@[simp] theorem consumeLatch_branch (v : PresetValues) (b : Branch) : (consumeLatch v s).bdu.branches.get b =
    if namedForPreset s b = true then presetDemand v b (s.bdu.branches.get b) else s.bdu.branches.get b := by
  have hnamed : (PerBranch.mk (namedForPreset s .ab) (namedForPreset s .bc) (namedForPreset s .ca)).get b = namedForPreset s b := by
    cases b <;> rfl
  simp [consumeLatch, hnamed]

@[simp] theorem consumeLatch_latch (v : PresetValues) : (consumeLatch v s).pli.latch = none := by simp [consumeLatch]

@[simp] theorem lock_device (n : Nominal) : (lock n s).oc.device = .run := by simp [lock]

@[simp] theorem lock_nominal (n : Nominal) : (lock n s).ct.nominal = some n := by simp [lock]

@[simp] theorem lock_track (n : Nominal) (b : Branch) : (lock n s).ct.tracks.get b = lockTrack n (s.ct.tracks.get b) := by
  simp [lock]

@[simp] theorem lock_branch (n : Nominal) (b : Branch) :
    (lock n s).bdu.branches.get b = runDemand (!noCauses (s.causes.get b)) (s.bdu.branches.get b) := by simp [lock]

@[simp] theorem lock_firing (n : Nominal) (b : Branch) : (lock n s).vlc.firing.get b = .clear := by simp [lock]

/-- R11: in UNSET and READY, DISABLE changes nothing. -/
theorem disableDevice_still (h : s.oc.device = .unset ∨ s.oc.device = .ready) : disableDevice s = s := by
  obtain h | h := h <;> simp [disableDevice, h]

/-- R10: what DISABLE leaves of a started or halted device. -/
structure Disabled (s t : State) : Prop where
  oc : t.oc = ⟨.ready, .clear, false, true, none⟩
  nominal : t.ct.nominal = none
  track : ∀ b, t.ct.tracks.get b = disableTrack (s.ct.tracks.get b)
  branch : ∀ b, t.bdu.branches.get b = leaveRunDemand (s.bdu.branches.get b)
  firing : ∀ b, t.vlc.firing.get b = .clear
  causes : ∀ b, t.causes.get b = { s.causes.get b with sync := false }
  latch : t.pli.latch = none
  groups : ∀ g, t.vlc.groups.get g = clearReadiness (s.vlc.groups.get g)

theorem disableDevice_disables (hunset : s.oc.device ≠ .unset) (hready : s.oc.device ≠ .ready) : Disabled s (disableDevice s) := by
  unfold disableDevice
  split
  · contradiction
  · contradiction
  · constructor <;> simp

end

/-! ## A reset (R194) -/

section
variable (hr : History) (k : ResetKind) (n : Nat) (s : State)

@[simp] theorem resetBlocks_oc : (resetBlocks hr k n s).oc = .reset := rfl
@[simp] theorem resetBlocks_slr : (resetBlocks hr k n s).slr = .reset := rfl
@[simp] theorem resetBlocks_ct : (resetBlocks hr k n s).ct = .reset := rfl
@[simp] theorem resetBlocks_bdu : (resetBlocks hr k n s).bdu = .reset := rfl
@[simp] theorem resetBlocks_table : (resetBlocks hr k n s).table = none := rfl
@[simp] theorem resetBlocks_vlc : (resetBlocks hr k n s).vlc = .reset := rfl
@[simp] theorem resetBlocks_causes : (resetBlocks hr k n s).causes = .fill .empty := rfl
@[simp] theorem resetBlocks_pli : (resetBlocks hr k n s).pli = .reset := rfl
@[simp] theorem resetBlocks_hr : (resetBlocks hr k n s).hr = hr := rfl
@[simp] theorem resetBlocks_events : (resetBlocks hr k n s).sli.events = noEvents := rfl
@[simp] theorem resetBlocks_pending : (resetBlocks hr k n s).pending = s.pending := rfl

end

/-! ## The queue (log entry 15) -/

theorem Shift.pending {P : Act → Prop} {s t : State} (h : Shift P s t) : t.pending = s.pending := by
  cases h with
  | aside h => exact h.pending
  | _ => simp [modGroupCounters, beginAcquisition, doResetChannels, okay]

theorem Shifts.pending {P : Act → Prop} {s t : State} (h : Shifts P s t) : t.pending = s.pending := by
  induction h with
  | refl => rfl
  | tail _ hlast ih => rw [hlast.pending, ih]

/-- What every small change keeps, and the queue does not matter to, every step keeps. -/
theorem kept_by_step {I : State → Prop} (hqueue : ∀ s l, I s → I { s with pending := l })
    (hshift : ∀ s t, Shift (fun _ => True) s t → I s → I t) : ∀ s t : State, I s → step s = .next t → I t := by
  have hshifts {s t : State} (h : Shifts (fun _ => True) s t) (hs : I s) : I t := by
    induction h with
    | refl => exact hs
    | tail _ hlast ih => exact hshift _ _ hlast ih
  intro s t hs hstep
  unfold step at hstep
  split at hstep
  · cases hstep
    exact hshifts (tick_shifts.mono fun _ _ => trivial) hs
  · next c rest _ =>
    obtain ⟨u, hu, hrun⟩ := exec_runs_anyhow (s := { s with pending := rest }) c
    rw [hu] at hstep
    cases hstep
    exact hshifts (Shifts.mono (fun _ _ => trivial) hrun) (hqueue s rest hs)

/-- Settles O1. -/
theorem stepRunsFrontCommand : Obligations.StepRunsFrontCommand := by
  intro s c rest h
  simp [step, h]

/-- Settles O2: a command is a run of small changes, and none of them touches the queue. -/
theorem everyCommandCompletes : Obligations.EveryCommandCompletes := by
  intro c s
  obtain ⟨t, ht, hrun⟩ := exec_runs_anyhow (s := s) c
  exact ⟨t, ht, hrun.pending⟩

end Sys2Proof.Machine

/-! The rules of the device state, kept by every small change (R2, R13 to R16, R93, R159). -/

namespace Sys2Proof.Machine

open Safety

section
variable {P : Act → Prop} {s t : State}

/-! ## Output lines (R15, R16) -/

theorem fallbackLevel_of_left (h : s.oc.device ≠ .run) : fallbackLevel s = true := by simp [fallbackLevel, h]

theorem fallbackLevel_congr (hdevice : t.oc.device = s.oc.device)
    (hstate : ∀ b, (t.bdu.branches.get b).state = (s.bdu.branches.get b).state) : fallbackLevel t = fallbackLevel s := by
  have hab := hstate .ab
  have hbc := hstate .bc
  have hca := hstate .ca
  simp only [PerBranch.get] at hab hbc hca
  simp [fallbackLevel, hdevice, PerBranch.toList, hab, hbc, hca]

/-- A change that moves neither the device, nor its lines, nor a branch's state. -/
theorem linesAgree_of_stands (h : LinesAgree s) (hdevice : t.oc.device = s.oc.device)
    (htrip : t.oc.tripRequest = s.oc.tripRequest) (hline : t.oc.fallbackActive = s.oc.fallbackActive)
    (hstate : ∀ b, (t.bdu.branches.get b).state = (s.bdu.branches.get b).state) : LinesAgree t := by
  refine ⟨fun htrips => ?_, ?_⟩
  · rw [hdevice]
    exact h.1 (htrip ▸ htrips)
  · rw [hline, fallbackLevel_congr hdevice hstate, h.2]

/-- A change after which FALLBACK_ACTIVE was re-evaluated. -/
theorem linesAgree_of_refreshed (h : LinesAgree s) (hdevice : t.oc.device = s.oc.device)
    (htrip : t.oc.tripRequest = s.oc.tripRequest) (hline : t.oc.fallbackActive = fallbackLevel t) : LinesAgree t :=
  ⟨fun htrips => hdevice ▸ h.1 (htrip ▸ htrips), hline⟩

theorem linesAgree_raise (k : EventKind) (h : LinesAgree s) : LinesAgree (Machine.raise k s) :=
  linesAgree_of_stands h (by simp) (by simp) (by simp) (by simp)

/-- Outside RUN, FALLBACK_ACTIVE is asserted; that is all R16 asks there. -/
theorem linesAgree_of_left (hdevice : t.oc.device ≠ .run) (htrip : t.oc.tripRequest = true → t.oc.device = .halted)
    (hline : t.oc.fallbackActive = true) : LinesAgree t := ⟨htrip, by rw [hline, fallbackLevel_of_left hdevice]⟩

theorem linesAgree_asserted (h : LinesAgree s) (hdevice : s.oc.device ≠ .run) : s.oc.fallbackActive = true := by
  rw [h.2, fallbackLevel_of_left hdevice]

theorem changeCauses_linesAgree (b : Branch) (f : CauseSet → CauseSet) (h : LinesAgree s) : LinesAgree (changeCauses b f s) := by
  obtain ⟨-, -, -, e⟩ | ⟨-, -, -, e⟩ | ⟨-, e⟩ := changeCauses_cases b f s <;> rw [e]
  · exact linesAgree_of_refreshed h (by simp) (by simp) (enterBlocked_fallbackActive ..)
  · exact linesAgree_of_refreshed h rfl rfl rfl
  · exact linesAgree_of_stands h rfl rfl rfl fun _ => rfl

theorem enterHalted_linesAgree (c : HaltCause) (b : Option Branch) (g : Option Group) (f : Option FailureCause)
    (h : s.oc.device = .acquire ∨ s.oc.device = .run) : LinesAgree (enterHalted c b g f s) := by
  have hoc := enterHalted_oc c b g f s h
  exact linesAgree_of_left (by rw [hoc]; simp) (fun _ => by rw [hoc]) (by rw [hoc])

theorem decideClosure_linesAgree (b : Branch) (kind : ClosureKind) (h : LinesAgree s) : LinesAgree (decideClosure b kind s) := by
  have hdecided : LinesAgree (refreshLines (modDemand b (fun _ => closedDemand s b kind) s)) := linesAgree_of_refreshed h rfl rfl rfl
  unfold decideClosure
  dsimp only
  split
  · split
    · exact linesAgree_raise _ (linesAgree_raise _ hdecided)
    · exact linesAgree_raise _ hdecided
  · split
    · exact linesAgree_raise _ hdecided
    · exact hdecided

theorem evaluateConfiguration_linesAgree (h : LinesAgree s) : LinesAgree (evaluateConfiguration s) := by
  unfold evaluateConfiguration
  split
  · next hunset =>
    have hasserted : s.oc.fallbackActive = true := linesAgree_asserted h (by simp [hunset.1])
    refine linesAgree_of_left (by simp) (fun htrips => ?_) hasserted
    exact absurd (h.1 htrips) (by simp [hunset.1])
  · exact h

theorem lock_linesAgree (n : Nominal) (ha : s.oc.device = .acquire) (h : LinesAgree s) : LinesAgree (lock n s) := by
  have htrip : s.oc.tripRequest ≠ true := fun htrips => absurd (h.1 htrips) (by simp [ha])
  exact ⟨fun htrips => absurd (by simpa using htrips) htrip, rfl⟩

theorem disableDevice_linesAgree (h : LinesAgree s) : LinesAgree (disableDevice s) := by
  unfold disableDevice
  split
  · exact h
  · exact h
  · exact linesAgree_of_left (by simp) (by simp) (by simp)

/-- R15, R16: every change keeps the lines as the rules give them. -/
theorem Shift.keeps_linesAgree (k : Shift P s t) (h : LinesAgree s) : LinesAgree t := by
  cases k with
  | aside k => exact linesAgree_of_stands h (by rw [k.oc]) (by rw [k.oc]) (by rw [k.oc]) (by simp [k.branches])
  | windows ds k =>
    refine linesAgree_of_stands h rfl rfl rfl fun b => ?_
    obtain ⟨w, hw, -⟩ := k b
    change (ds.get b).state = _
    rw [hw]
  | openWindow b first =>
    refine linesAgree_of_stands h rfl rfl rfl fun c => ?_
    by_cases e : c = b <;> simp [Machine.openWindow, e, PerBranch.get_set_ne]
  | decide b kind => exact decideClosure_linesAgree b kind h
  | consume v =>
    exact linesAgree_raise _ (linesAgree_of_refreshed h rfl rfl rfl)
  | addCause b c => exact changeCauses_linesAgree b _ h
  | plant b level => exact changeCauses_linesAgree b _ h
  | unblock b => exact changeCauses_linesAgree b _ h
  | fail g c => exact changeCauses_linesAgree _ _ (linesAgree_of_stands h (by simp) (by simp) (by simp) (by simp))
  | halt c b g f hrun => exact enterHalted_linesAgree c b g f (.inr hrun)
  | quit c ha => exact enterHalted_linesAgree c _ _ _ (.inl ha)
  | lock n ha => exact lock_linesAgree n ha h
  | enable hr =>
    have hasserted : s.oc.fallbackActive = true := linesAgree_asserted h (by simp [hr])
    refine linesAgree_of_left (by simp [beginAcquisition]) (fun htrips => ?_) hasserted
    exact absurd (h.1 htrips) (by simp [hr])
  | disable => exact disableDevice_linesAgree h
  | evaluate => exact evaluateConfiguration_linesAgree h
  | load l => exact evaluateConfiguration_linesAgree (linesAgree_of_stands h rfl rfl rfl fun _ => rfl)
  | configure b x =>
    refine evaluateConfiguration_linesAgree (linesAgree_of_stands h rfl rfl rfl fun c => ?_)
    by_cases e : c = b <;> simp [e, PerBranch.get_set_ne]
  | reset hr k n => exact linesAgree_of_left (t := resetBlocks hr k n s) (by simp [OperatingControl.reset]) (by simp [OperatingControl.reset]) rfl
  | judge | tracks | count | firing | arm | order | retry | store | setSync | setValve | resetChannels | remap | unfail | armLatch
  | cancel =>
    exact linesAgree_of_stands h (by simp [modGroupCounters, doResetChannels, okay]) (by simp [modGroupCounters, doResetChannels, okay])
      (by simp [modGroupCounters, doResetChannels, okay]) (by simp [modGroupCounters, doResetChannels, okay])

/-! ## The configuration (R2, R97) -/

theorem configured_iff : configured s = true ↔ s.table.isSome = true ∧ ∀ b, (s.bdu.branches.get b).settings.gain ≠ 0 := by
  simp only [configured, Bool.and_eq_true, PerBranch.toList, List.all_cons, List.all_nil, Bool.and_true, bne_iff_ne]
  refine and_congr_right fun _ => ⟨?_, fun h => ⟨h .ab, h .bc, h .ca⟩⟩
  rintro ⟨hab, hbc, hca⟩ b
  cases b
  · exact hab
  · exact hbc
  · exact hca

theorem configured_congr (htable : t.table = s.table)
    (hgain : ∀ b, (t.bdu.branches.get b).settings = (s.bdu.branches.get b).settings) : configured t = configured s := by
  rw [Bool.eq_iff_iff, configured_iff, configured_iff, htable]
  simp only [hgain]

/-- R2: after the evaluation the device is outside UNSET exactly where it is configured, if it was outside only there. -/
theorem evaluateConfiguration_outsideUnset (htable : TableComplete s) (h : s.oc.device ≠ .unset → configured s = true) :
    ConfiguredOutsideUnset (evaluateConfiguration s) := by
  unfold evaluateConfiguration
  split
  · next hboth => exact ⟨htable, fun _ => hboth.2, fun _ => by simp⟩
  · next hnot => exact ⟨htable, h, fun hc hunset => hnot ⟨hunset, hc⟩⟩

@[simp] theorem changeCauses_settings (b c : Branch) (f : CauseSet → CauseSet) :
    ((changeCauses b f s).bdu.branches.get c).settings = (s.bdu.branches.get c).settings := by
  obtain ⟨-, -, -, e⟩ | ⟨-, -, -, e⟩ | ⟨-, e⟩ := changeCauses_cases b f s <;> rw [e]
  · by_cases hc : c = b <;> simp [hc, blockDemand, PerBranch.get_set_ne]
  · by_cases hc : c = b <;> simp [leaveBlocked, hc, unblockDemand, PerBranch.get_set_ne]

/-- The small changes that bear on the configuration. -/
inductive Reconfigures (P : Act → Prop) (s : State) : State → Prop where
  | evaluate (hp : P .evaluate) : Reconfigures P s (evaluateConfiguration s)
  | load (l : List Nat) (hstill : s.oc.device = .unset ∨ s.oc.device = .ready) (hlen : l.length = 65) (h : firstFault l = none)
      (hp : P (.request .loadTable)) : Reconfigures P s (evaluateConfiguration { s with table := some l })
  | configure (b : Branch) (x : BranchSettings) (hgain : x.gain ≠ 0) (hp : P (.request .setBranch)) :
      Reconfigures P s (evaluateConfiguration (modDemand b (fun d => { d with settings := x }) s))
  | reset (hr : History) (k : ResetKind) (n : Nat) (hp : P .reset) : Reconfigures P s (resetBlocks hr k n s)

/-- A change that leaves the configuration as it is, and UNSET neither left nor entered. -/
structure ConfigurationStands (s t : State) : Prop where
  table : t.table = s.table
  settings : ∀ b, (t.bdu.branches.get b).settings = (s.bdu.branches.get b).settings
  unset : t.oc.device = .unset ↔ s.oc.device = .unset

theorem ConfigurationStands.configured (h : ConfigurationStands s t) : configured t = configured s :=
  configured_congr h.table h.settings

theorem Shift.reconfigures_or_stands (k : Shift P s t) : Reconfigures P s t ∨ ConfigurationStands s t := by
  cases k with
  | evaluate hp => exact .inl (.evaluate hp)
  | load l hstill hlen h hp => exact .inl (.load l hstill hlen h hp)
  | configure b x hgain _ hp => exact .inl (.configure b x hgain hp)
  | reset hr k n _ hp => exact .inl (.reset hr k n hp)
  | aside k => exact .inr ⟨k.table, by simp [k.branches], by rw [k.oc]⟩
  | windows ds k =>
    refine .inr ⟨rfl, fun b => ?_, Iff.rfl⟩
    obtain ⟨w, hw, -⟩ := k b
    change (ds.get b).settings = _
    rw [hw]
  | openWindow c first =>
    refine .inr ⟨rfl, fun b => ?_, Iff.rfl⟩
    by_cases e : b = c <;> simp [Machine.openWindow, e, PerBranch.get_set_ne]
  | decide c kind =>
    refine .inr ⟨by simp, fun b => ?_, by simp⟩
    by_cases e : b = c <;> simp [decideClosure_branches, e, closedDemand, PerBranch.get_set_ne]
  | consume v =>
    refine .inr ⟨by simp, fun b => ?_, by simp⟩
    rw [consumeLatch_branch]
    split <;> rfl
  | addCause c k => exact .inr ⟨by simp, by simp [Machine.addCause], by simp⟩
  | plant c l => exact .inr ⟨by simp, by simp, by simp⟩
  | unblock c => exact .inr ⟨by simp, by simp, by simp⟩
  | fail g c => exact .inr ⟨by simp, by simp [Machine.addCause], by simp⟩
  | halt c b' g f hrun =>
    exact .inr ⟨by simp, by simp [enterHalted_branches _ _ _ _ _ (.inr hrun), leaveRunDemand],
      by simp [enterHalted_oc _ _ _ _ _ (.inr hrun), hrun]⟩
  | quit c ha =>
    exact .inr ⟨by simp, by simp [enterHalted_branches _ _ _ _ _ (.inl ha), leaveRunDemand],
      by simp [enterHalted_oc _ _ _ _ _ (.inl ha), ha]⟩
  | lock n ha => exact .inr ⟨by simp, by simp [runDemand], by simp [ha]⟩
  | enable hr => exact .inr ⟨rfl, fun _ => rfl, by simp [beginAcquisition, hr]⟩
  | disable =>
    refine .inr ?_
    by_cases hstill : s.oc.device = .unset ∨ s.oc.device = .ready
    · rw [disableDevice_still s hstill]
      exact ⟨rfl, fun _ => rfl, Iff.rfl⟩
    · obtain ⟨hunset, hready⟩ := not_or.mp hstill
      have hdone := disableDevice_disables s hunset hready
      exact ⟨by simp, fun b => by rw [hdone.branch]; rfl, by simp [hdone.oc, hunset]⟩
  | _ => exact .inr ⟨by simp [modGroupCounters, doResetChannels, okay], by simp [modGroupCounters, doResetChannels, okay],
      by simp [modGroupCounters, doResetChannels, okay]⟩

theorem Shift.keeps_configuredOutsideUnset (k : Shift P s t) (h : ConfiguredOutsideUnset s) : ConfiguredOutsideUnset t := by
  obtain ⟨htable, hiff⟩ := h
  obtain k | k := k.reconfigures_or_stands
  · cases k with
    | evaluate => exact evaluateConfiguration_outsideUnset htable hiff.mp
    | load l hstill hlen hl =>
      refine evaluateConfiguration_outsideUnset ?_ fun hout => ?_
      · rintro l' ⟨⟩
        exact ⟨hlen, hl⟩
      · exact configured_iff.mpr ⟨rfl, (configured_iff.mp (hiff.mp hout)).2⟩
    | configure b x hgain =>
      refine evaluateConfiguration_outsideUnset htable fun hout => ?_
      obtain ⟨hsome, hgains⟩ := configured_iff.mp (hiff.mp hout)
      refine configured_iff.mpr ⟨hsome, fun c => ?_⟩
      by_cases e : c = b
      · simpa [e] using hgain
      · simpa [PerBranch.get_set_ne _ _ _ _ e] using hgains c
    | reset hr k n => exact ⟨by simp [TableComplete], by simp [OperatingControl.reset, configured]⟩
  · refine ⟨by rw [TableComplete, k.table]; exact htable, ?_⟩
    rw [k.configured, ← hiff, Ne, k.unset]

/-- R97: a table, once loaded, is complete. -/
theorem Shift.keeps_tableComplete (k : Shift P s t) (h : TableComplete s) : TableComplete t := by
  obtain k | k := k.reconfigures_or_stands
  · cases k with
    | evaluate => simpa [TableComplete] using h
    | load l hstill hlen hl =>
      intro l' hl'
      obtain rfl : l = l' := by simpa using hl'
      exact ⟨hlen, hl⟩
    | configure b x hgain => simpa [TableComplete] using h
    | reset hr k n => simp [TableComplete]
  · rw [TableComplete, k.table]
    exact h

/-! ## The latch (R159, R161) -/

theorem latchOnlyWhileStarted_of_stands (h : LatchOnlyWhileStarted s) (hlatch : t.pli.latch = s.pli.latch)
    (hdevice : s.oc.device = .acquire ∨ s.oc.device = .run → t.oc.device = .acquire ∨ t.oc.device = .run) :
    LatchOnlyWhileStarted t := fun harmed => hdevice (h (hlatch ▸ harmed))

theorem latchOnlyWhileStarted_of_none (hlatch : t.pli.latch = none) : LatchOnlyWhileStarted t := fun h => absurd hlatch h

theorem evaluateConfiguration_started (h : s.oc.device = .acquire ∨ s.oc.device = .run) :
    (evaluateConfiguration s).oc.device = .acquire ∨ (evaluateConfiguration s).oc.device = .run := by
  rwa [evaluateConfiguration_elsewhere s (by obtain h | h := h <;> simp [h])]

@[simp] theorem enterHalted_latch (c : HaltCause) (b : Option Branch) (g : Option Group) (f : Option FailureCause)
    (h : s.oc.device = .acquire ∨ s.oc.device = .run) : (enterHalted c b g f s).pli.latch = none := by
  simp [enterHalted, h]

theorem Shift.keeps_latchOnlyWhileStarted (k : Shift P s t) (h : LatchOnlyWhileStarted s) : LatchOnlyWhileStarted t := by
  cases k with
  | aside k => exact latchOnlyWhileStarted_of_stands h k.latch (by rw [k.oc]; exact id)
  | cancel => exact latchOnlyWhileStarted_of_none (cancelLatch_latch ..)
  | consume => exact latchOnlyWhileStarted_of_none (by simp)
  | halt c b g f hrun => exact latchOnlyWhileStarted_of_none (enterHalted_latch _ _ _ _ (.inr hrun))
  | quit c ha => exact latchOnlyWhileStarted_of_none (enterHalted_latch _ _ _ _ (.inl ha))
  | lock n => exact latchOnlyWhileStarted_of_stands h (by simp) fun _ => .inr (by simp)
  | enable => exact latchOnlyWhileStarted_of_stands h rfl fun _ => .inl rfl
  | disable =>
    by_cases hstill : s.oc.device = .unset ∨ s.oc.device = .ready
    · rwa [disableDevice_still s hstill]
    · obtain ⟨hunset, hready⟩ := not_or.mp hstill
      exact latchOnlyWhileStarted_of_none (disableDevice_disables s hunset hready).latch
  | evaluate => exact latchOnlyWhileStarted_of_stands h (by simp) evaluateConfiguration_started
  | load l => exact latchOnlyWhileStarted_of_stands h (by simp) fun hs => evaluateConfiguration_started hs
  | configure b x => exact latchOnlyWhileStarted_of_stands h (by simp) fun hs => evaluateConfiguration_started hs
  | armLatch v hstarted => exact fun _ => hstarted
  | reset => exact latchOnlyWhileStarted_of_none rfl
  | _ =>
    exact latchOnlyWhileStarted_of_stands h (by simp [modGroupCounters, doResetChannels, okay])
      (by simp [modGroupCounters, doResetChannels, okay])

/-! ## The control loop outside RUN (R8, R10, R13, R14) -/

/-- Where what a branch runs on stands, it stays idle. -/
theorem idleOutsideRun_of_stands (h : IdleOutsideRun s) (hdevice : t.oc.device ≠ .run → s.oc.device ≠ .run)
    (htracks : ∀ b, (t.ct.tracks.get b).counter = (s.ct.tracks.get b).counter)
    (hbranches : t.bdu.branches = s.bdu.branches) (hfiring : t.vlc.firing = s.vlc.firing) : IdleOutsideRun t := by
  intro hleft b
  obtain ⟨hcounter, hdemand⟩ := h (hdevice hleft) b
  exact ⟨(htracks b).trans hcounter, by rwa [hbranches, hfiring]⟩

theorem idleOutsideRun_of_run (h : t.oc.device = .run) : IdleOutsideRun t := fun hleft => absurd h hleft

theorem enterHalted_idle (c : HaltCause) (b : Option Branch) (g : Option Group) (f : Option FailureCause)
    (h : s.oc.device = .acquire ∨ s.oc.device = .run) (d : Branch) : BranchIdle (enterHalted c b g f s) d := by
  simp [BranchIdle, enterHalted_tracks _ _ _ _ _ h, enterHalted_branches _ _ _ _ _ h, enterHalted_firing _ _ _ _ _ h, haltTrack,
    leaveRunDemand]

theorem changeCauses_idleOutsideRun (b : Branch) (f : CauseSet → CauseSet) (h : IdleOutsideRun s) :
    IdleOutsideRun (changeCauses b f s) := by
  intro hleft
  rw [changeCauses_frame b f s |>.2.2.1] at hleft
  rw [changeCauses_outside b f s hleft]
  exact h hleft

theorem evaluateConfiguration_idleOutsideRun (h : IdleOutsideRun s) : IdleOutsideRun (evaluateConfiguration s) :=
  idleOutsideRun_of_stands h (fun hleft hrun => hleft (by rwa [evaluateConfiguration_elsewhere s (by simp [hrun])]))
    (by simp) (by simp) (by simp)

theorem orderable_run {g : Group} (h : orderable s g = true) : s.oc.device = .run := by
  simp only [orderable, Bool.and_eq_true, beq_iff_eq] at h
  exact h.1.1

theorem Shift.keeps_idleOutsideRun (k : Shift P s t) (h : IdleOutsideRun s) : IdleOutsideRun t := by
  cases k with
  | aside k => exact idleOutsideRun_of_stands h (by rw [k.oc]; exact id) (by simp [k.tracks]) k.branches k.firing
  | tracks ts k =>
    intro hleft b
    obtain ⟨hcounter, hdemand⟩ := h hleft b
    refine ⟨Option.eq_none_iff_forall_ne_some.mpr fun a ha => ?_, hdemand⟩
    obtain ⟨hrun, -⟩ | ⟨a₀, ha₀, -⟩ := (k b).counter a ha
    · exact hleft hrun
    · simp [hcounter] at ha₀
  | count c n =>
    intro hleft b
    obtain ⟨hcounter, hdemand⟩ := h hleft b
    refine ⟨?_, hdemand⟩
    by_cases e : b = c
    · subst e
      simp [reachCount, hcounter]
    · simp [reachCount, PerBranch.get_set_ne _ _ _ _ e, hcounter]
  | windows ds k =>
    intro hleft b
    obtain ⟨hcounter, hwindow, hrest⟩ := h hleft b
    obtain ⟨w, hw, hfirst⟩ := k b
    refine ⟨hcounter, ?_⟩
    change (ds.get b).window = none ∧ (ds.get b).state = .idle ∧ (ds.get b).decision = none ∧ (ds.get b).preset = none ∧ _
    rw [hw]
    exact ⟨by simpa [hwindow] using hfirst, hrest⟩
  | firing c f k =>
    intro hleft b
    obtain ⟨hcounter, hwindow, hstate, hdecision, hpreset, hfiring⟩ := h hleft b
    refine ⟨hcounter, hwindow, hstate, hdecision, hpreset, ?_⟩
    have hc := (h hleft c).2.2.2.2.2
    obtain hrun | hopen := k.live
    · exact absurd hrun hleft
    · exact absurd rfl (hc ▸ hopen)
  | addCause c k => exact changeCauses_idleOutsideRun c _ h
  | plant c l => exact changeCauses_idleOutsideRun c _ h
  | unblock c => exact changeCauses_idleOutsideRun c _ h
  | fail g c => exact changeCauses_idleOutsideRun _ _ (idleOutsideRun_of_stands h (by simp) (by simp) (by simp) (by simp))
  | consume v _ hrun => exact idleOutsideRun_of_run (by simpa using hrun)
  | decide b kind hrun => exact idleOutsideRun_of_run (by simpa using hrun)
  | openWindow b first hrun => exact idleOutsideRun_of_run hrun
  | arm b m hrun => exact idleOutsideRun_of_run hrun
  | order b g n _ hg => exact idleOutsideRun_of_run (by simpa [openTransaction, modGroupCounters] using orderable_run hg)
  | retry b x again _ _ hg => exact idleOutsideRun_of_run (by simpa [modGroupCounters] using orderable_run hg)
  | halt c b g f hrun => exact fun _ => enterHalted_idle c b g f (.inr hrun)
  | quit c ha => exact fun _ => enterHalted_idle c _ _ _ (.inl ha)
  | lock n => exact idleOutsideRun_of_run (by simp)
  | enable hr =>
    exact idleOutsideRun_of_stands h (fun _ => by simp [hr]) (by simp [beginAcquisition]) rfl rfl
  | disable =>
    by_cases hstill : s.oc.device = .unset ∨ s.oc.device = .ready
    · rwa [disableDevice_still s hstill]
    · obtain ⟨hunset, hready⟩ := not_or.mp hstill
      have hdone := disableDevice_disables s hunset hready
      intro _ b
      simp [BranchIdle, hdone.track, hdone.branch, hdone.firing, disableTrack, Track.reset, leaveRunDemand]
  | evaluate => exact evaluateConfiguration_idleOutsideRun h
  | load l => exact evaluateConfiguration_idleOutsideRun h
  | configure c x =>
    refine evaluateConfiguration_idleOutsideRun fun hleft b => ?_
    by_cases e : b = c
    · subst e
      simpa [BranchIdle] using h hleft b
    · simpa [BranchIdle, PerBranch.get_set_ne _ _ _ _ e] using h hleft b
  | reset hr k n =>
    intro _ b
    simp [BranchIdle, Tracker.reset, Track.reset, DemandUnit.reset, BranchDemand.reset, ValveControl.reset]
  | _ =>
    exact idleOutsideRun_of_stands h (by simp [doResetChannels, okay]) (by simp [doResetChannels, okay])
      (by simp [doResetChannels, okay]) (by simp [doResetChannels, okay])

/-! ## The decision after a closure (R69, R93) -/

/-- A window without the first-window mark has a decision beside it. -/
def ClosedDecided (d : BranchDemand) : Prop := ∀ w, d.window = some w → w.first = false → d.decision ≠ none

theorem closedDecided_of_none {d : BranchDemand} (h : d.window = none) : ClosedDecided d := by simp [ClosedDecided, h]

theorem decidedAfterClosure_iff : DecidedAfterClosure s ↔ IdleOutsideRun s ∧ ∀ b, ClosedDecided (s.bdu.branches.get b) := Iff.rfl

/-- One branch's items replaced. -/
theorem closedDecided_set {ds : PerBranch BranchDemand} (h : ∀ b, ClosedDecided (ds.get b)) (c : Branch) {d : BranchDemand}
    (hd : ClosedDecided d) (b : Branch) : ClosedDecided ((ds.set c d).get b) := by
  by_cases e : b = c
  · simpa [e] using hd
  · rw [PerBranch.get_set_ne _ _ _ _ e]
    exact h b

theorem changeCauses_closedDecided (c : Branch) (f : CauseSet → CauseSet) (h : ∀ b, ClosedDecided (s.bdu.branches.get b)) :
    ∀ b, ClosedDecided ((changeCauses c f s).bdu.branches.get b) := by
  obtain ⟨-, -, -, e⟩ | ⟨-, -, -, e⟩ | ⟨-, e⟩ := changeCauses_cases c f s <;> rw [e]
  · rw [enterBlocked_branches]
    exact closedDecided_set h c (by simp [ClosedDecided, blockDemand])
  · exact closedDecided_set h c (h c)
  · exact h

theorem Shift.keeps_closedDecided (k : Shift P s t) (hidle : IdleOutsideRun s) (h : ∀ b, ClosedDecided (s.bdu.branches.get b)) :
    ∀ b, ClosedDecided (t.bdu.branches.get b) := by
  cases k with
  | aside k => rwa [k.branches]
  | windows ds k =>
    intro b w hw hfirst
    obtain ⟨w', hw', hmap⟩ := k b
    change (ds.get b).window = some w at hw
    change (ds.get b).decision ≠ none
    rw [hw'] at hw ⊢
    obtain rfl : w' = some w := hw
    obtain ⟨w₀, hw₀, hfirst₀⟩ := Option.map_eq_some_iff.mp hmap.symm
    exact h b w₀ hw₀ (hfirst₀.trans hfirst)
  | openWindow c first _ hmay =>
    refine closedDecided_set h c ?_
    rintro w ⟨⟩ hfirst
    exact hmay.resolve_left (by simpa [newWindow] using hfirst)
  | decide c kind =>
    rw [decideClosure_branches]
    exact closedDecided_set h c (by simp [ClosedDecided, closedDemand])
  | consume v =>
    intro b
    rw [consumeLatch_branch]
    split
    · exact h b
    · exact h b
  | addCause c k => exact changeCauses_closedDecided c _ h
  | plant c l => exact changeCauses_closedDecided c _ h
  | unblock c => exact changeCauses_closedDecided c _ h
  | fail g c => exact changeCauses_closedDecided _ _ (by simpa using h)
  | halt c b g f hrun => exact fun d => closedDecided_of_none (enterHalted_idle c b g f (.inr hrun) d).2.1
  | quit c ha => exact fun d => closedDecided_of_none (enterHalted_idle c _ _ _ (.inl ha) d).2.1
  | lock n ha =>
    intro b
    rw [lock_branch]
    exact closedDecided_of_none (hidle (by simp [ha]) b).2.1
  | disable =>
    by_cases hstill : s.oc.device = .unset ∨ s.oc.device = .ready
    · rwa [disableDevice_still s hstill]
    · obtain ⟨hunset, hready⟩ := not_or.mp hstill
      intro b
      rw [(disableDevice_disables s hunset hready).branch]
      exact closedDecided_of_none rfl
  | configure c x => simpa using closedDecided_set h c (d := { s.bdu.branches.get c with settings := x }) (h c)
  | reset => exact fun b => closedDecided_of_none (by simp [DemandUnit.reset, BranchDemand.reset])
  | _ => simpa [modGroupCounters, beginAcquisition, doResetChannels, okay] using h

theorem Shift.keeps_decidedAfterClosure (k : Shift P s t) (h : DecidedAfterClosure s) : DecidedAfterClosure t :=
  ⟨k.keeps_idleOutsideRun h.1, k.keeps_closedDecided h.1 h.2⟩

end

/-- Settles O53: each rule is kept by every small change a step is made of. -/
theorem stateRulesAreKept : Obligations.StateRulesAreKept :=
  ⟨kept_by_step (fun _ _ h => h) fun _ _ k => k.keeps_linesAgree,
    kept_by_step (fun _ _ h => h) fun _ _ k => k.keeps_configuredOutsideUnset,
    kept_by_step (fun _ _ h => h) fun _ _ k => k.keeps_idleOutsideRun,
    kept_by_step (fun _ _ h => h) fun _ _ k => k.keeps_latchOnlyWhileStarted,
    kept_by_step (fun _ _ h => h) fun _ _ k => k.keeps_decidedAfterClosure⟩

end Sys2Proof.Machine

/-! The rules of the valve groups and of blocking, kept by every small change (R86, R119, R141, R146, R150). -/

namespace Sys2Proof.Machine

open Safety

section
variable {P : Act → Prop} {s t : State}

/-! ## The valve map (R141) -/

theorem Group.mem_all (g : Group) : g ∈ Group.all := by cases g <;> decide

theorem resetMap_injective (g h : Group) : resetMap.get g = resetMap.get h → g = h := by
  have hall : ∀ g ∈ Group.all, ∀ h ∈ Group.all, resetMap.get g = resetMap.get h → g = h := by decide
  exact hall g (Group.mem_all g) h (Group.mem_all h)

theorem Shift.keeps_mapInjective (k : Shift P s t) (h : MapInjective s) : MapInjective t := by
  cases k with
  | aside k => rwa [MapInjective, k.map]
  | remap g c hfree =>
    have hothers : ∀ x, s.vlc.map.get x = c → x = g := by
      intro x hx
      by_contra hne
      have hheld : heldByOther s g c = true := by
        simp only [heldByOther, List.any_eq_true, Bool.and_eq_true, bne_iff_ne, beq_iff_eq]
        exact ⟨x, Group.mem_all x, hne, hx⟩
      rw [hfree] at hheld
      exact absurd hheld (by simp)
    intro x y hxy
    by_cases hx : x = g <;> by_cases hy : y = g
    · rw [hx, hy]
    · simp only [modGroup_vlc_map, hx, PerGroup.get_set_self, PerGroup.get_set_ne _ _ _ _ hy] at hxy
      exact absurd (hothers y hxy.symm) hy
    · simp only [modGroup_vlc_map, hy, PerGroup.get_set_self, PerGroup.get_set_ne _ _ _ _ hx] at hxy
      exact absurd (hothers x hxy) hx
    · simp only [modGroup_vlc_map, PerGroup.get_set_ne _ _ _ _ hx, PerGroup.get_set_ne _ _ _ _ hy] at hxy
      exact h x y hxy
  | reset => exact resetMap_injective
  | _ => simpa [MapInjective, modGroupCounters, beginAcquisition, doResetChannels, okay] using h

/-! ## FAILED groups (R134, R146) -/

/-- A change after which a group is FAILED only where it was, and a set lacks VALVE only where it did. -/
theorem failedGroupBlocks_of_kept (h : FailedGroupBlocks s)
    (hfailure : ∀ g, (t.vlc.groups.get g).failure ≠ none → (s.vlc.groups.get g).failure ≠ none)
    (hvalve : ∀ b, (s.causes.get b).valve = true → (t.causes.get b).valve = true) : FailedGroupBlocks t :=
  fun g hg => hvalve _ (h g (hfailure g hg))

/-- A change of one set that keeps VALVE in it, where the groups stand. -/
theorem changeCauses_failedGroupBlocks (h : FailedGroupBlocks s) (b : Branch) (f : CauseSet → CauseSet)
    (hf : (s.causes.get b).valve = true → (f (s.causes.get b)).valve = true) : FailedGroupBlocks (changeCauses b f s) := by
  refine failedGroupBlocks_of_kept h (by simp) fun c hc => ?_
  by_cases e : c = b
  · subst e
    simpa using hf hc
  · simpa [PerBranch.get_set_ne _ _ _ _ e] using hc

@[simp] theorem modGroupCounters_failure (g k : Group) (f : GroupCounters → GroupCounters) (s : State) :
    ((modGroupCounters g f s).vlc.groups.get k).failure = (s.vlc.groups.get k).failure := by
  by_cases e : k = g <;> simp [modGroupCounters, e, PerGroup.get_set_ne]

@[simp] theorem enterHalted_failure (c : HaltCause) (b : Option Branch) (g : Option Group) (f : Option FailureCause) (s : State)
    (k : Group) : ((enterHalted c b g f s).vlc.groups.get k).failure = (s.vlc.groups.get k).failure := by
  unfold enterHalted
  split <;> simp [clearReadiness]

theorem addToSet_valve (x : CauseSet) (c : BlockCause) (h : x.valve = true) : (addToSet x c).valve = true := by
  cases c <;> simp [addToSet, h]

theorem branchHasFailed_eq_false {b : Branch} (h : branchHasFailed s b = false) (g : Group) (hg : g.branch = b) :
    (s.vlc.groups.get g).failure = none := by
  obtain ⟨hforward, hreverse⟩ : (s.vlc.groups.get (b.group .forward)).failure = none ∧
      (s.vlc.groups.get (b.group .reverse)).failure = none := by simpa [branchHasFailed] using h
  have hmember : g = b.group g.direction := by rw [← hg, Branch.group_branch_direction]
  rw [hmember]
  cases g.direction
  · exact hforward
  · exact hreverse

theorem Shift.keeps_failedGroupBlocks (k : Shift P s t) (h : FailedGroupBlocks s) : FailedGroupBlocks t := by
  cases k with
  | aside k => exact failedGroupBlocks_of_kept h (fun g => by rw [k.failure]; exact id) (by rw [k.causes]; exact fun _ => id)
  | addCause b c => exact changeCauses_failedGroupBlocks h b _ (addToSet_valve _ c)
  | plant b l => exact changeCauses_failedGroupBlocks h b _ id
  | unblock b hnone =>
    intro g hg
    have hother : g.branch ≠ b := by
      rintro rfl
      exact hg (by simpa using branchHasFailed_eq_false hnone g rfl)
    simpa [PerBranch.get_set_ne _ _ _ _ hother] using h g (by simpa using hg)
  | fail g c =>
    intro k hk
    by_cases e : k.branch = g.branch
    · simp [Machine.addCause, e, addToSet]
    · have hne : k ≠ g := fun e' => e (e' ▸ rfl)
      simpa [Machine.addCause, PerBranch.get_set_ne _ _ _ _ e] using
        h k (by simpa [Machine.addCause, PerGroup.get_set_ne _ _ _ _ hne] using hk)
  | lock n => exact failedGroupBlocks_of_kept h (by simp [Machine.lock, clearReadiness]) (by simp)
  | disable =>
    by_cases hstill : s.oc.device = .unset ∨ s.oc.device = .ready
    · rwa [disableDevice_still s hstill]
    · obtain ⟨hunset, hready⟩ := not_or.mp hstill
      have hdone := disableDevice_disables s hunset hready
      exact failedGroupBlocks_of_kept h (by simp [hdone.groups, clearReadiness]) (by simp [hdone.causes])
  | remap g c =>
    refine failedGroupBlocks_of_kept h (fun k => ?_) fun _ => id
    by_cases e : k = g <;> simp [e, movedGroup, PerGroup.get_set_ne]
  | unfail g =>
    refine failedGroupBlocks_of_kept h (fun k => ?_) fun _ => id
    by_cases e : k = g <;> simp [e, PerGroup.get_set_ne]
  | reset => simp [FailedGroupBlocks, ValveControl.reset, GroupState.reset]
  | _ => exact failedGroupBlocks_of_kept h (by simp [openTransaction, beginAcquisition, doResetChannels, okay])
           (by simp [modGroupCounters, beginAcquisition, doResetChannels, okay])

/-! ## BLOCKED branches (R86, R119, R150) -/

/-- What R86, R119 and R150 say of one branch in RUN. -/
structure Quieted (c : CauseSet) (d : BranchDemand) (f : Firing) : Prop where
  state : d.state = .blocked ↔ noCauses c = false
  armed : d.state = .blocked → f.armed = none
  transaction : d.state = .blocked → f.transaction = none
  decision : d.state = .blocked → ∀ x, d.decision = some x → x = ⟨0, 2048⟩

theorem blockedIsQuiet_iff : BlockedIsQuiet s ↔
    (s.oc.device = .run → ∀ b, Quieted (s.causes.get b) (s.bdu.branches.get b) (s.vlc.firing.get b)) := by
  refine forall_congr' fun _ => forall_congr' fun b => ⟨fun ⟨hstate, hquiet⟩ => ?_, fun h => ?_⟩
  · exact ⟨hstate, fun hb => (hquiet hb).1, fun hb => (hquiet hb).2.1, fun hb => (hquiet hb).2.2⟩
  · exact ⟨h.state, fun hb => ⟨h.armed hb, h.transaction hb, h.decision hb⟩⟩

/-- A branch that is not BLOCKED, and has no cause, asks for nothing. -/
theorem quieted_of_free {c : CauseSet} {d : BranchDemand} {f : Firing} (hstate : d.state ≠ .blocked) (hc : noCauses c = true) :
    Quieted c d f :=
  ⟨⟨fun h => absurd h hstate, fun h => by simp [hc] at h⟩, fun h => absurd h hstate, fun h => absurd h hstate,
    fun h => absurd h hstate⟩

theorem moveToHold_state (set : BranchSettings) (n x : Nat) :
    (moveToHold set n x).state = .hold ∨ (moveToHold set n x).state = .fallback := by
  unfold moveToHold
  split
  · exact .inr rfl
  · exact .inl rfl

theorem moveToHold_ne_blocked (set : BranchSettings) (n x : Nat) : (moveToHold set n x).state ≠ .blocked := by
  obtain h | h := moveToHold_state set n x <;> simp [h]

/-- R86: a closure neither enters BLOCKED nor leaves it. -/
theorem nextMove_blocked_iff (d : BranchDemand) (code : ValidityCode) (target : Nat) :
    (nextMove d code target).state = .blocked ↔ d.state = .blocked := by
  unfold nextMove
  dsimp only
  split
  · next h => simp [h]
  · next h => simp [h]
  · next h => split <;> simp [h, moveToTrack, moveToFallback, moveToHold_ne_blocked]
  · next h => split <;> simp [h, moveToTrack, moveToFallback, moveToHold_ne_blocked]
  · next h =>
    split
    · split <;> simp [h, moveToTrack]
    · simp [h]
  · next h =>
    split
    · simp [h, moveToFallback]
    · split
      · split <;> simp [h, moveToTrack, moveToHold_ne_blocked]
      · simp [h]

/-- R86: a BLOCKED branch decides b = 0. -/
theorem nextMove_of_blocked {d : BranchDemand} (h : d.state = .blocked) (code : ValidityCode) (target : Nat) :
    nextMove d code target = ⟨.blocked, d.heldClosures, d.validClosures, none, 0, false, false⟩ := by
  unfold nextMove
  rw [h]

theorem closedDemand_blocked_iff (b : Branch) (kind : ClosureKind) :
    (closedDemand s b kind).state = .blocked ↔ (s.bdu.branches.get b).state = .blocked := nextMove_blocked_iff ..

theorem closedDemand_decision (b : Branch) (kind : ClosureKind) :
    (closedDemand s b kind).decision = some (decisionOf s.table (closureMove s b kind)) := rfl

theorem decisionOf_of_blocked {b : Branch} (kind : ClosureKind) (h : (s.bdu.branches.get b).state = .blocked) :
    decisionOf s.table (closureMove s b kind) = ⟨0, 2048⟩ := by
  rw [closureMove, nextMove_of_blocked h]
  rfl

/-- A change of one branch's items in RUN. -/
theorem blockedIsQuiet_of_branch (h : BlockedIsQuiet s) (c : Branch) (hdevice : t.oc.device = .run → s.oc.device = .run)
    (hothers : ∀ b, b ≠ c → t.causes.get b = s.causes.get b ∧ t.bdu.branches.get b = s.bdu.branches.get b ∧
      t.vlc.firing.get b = s.vlc.firing.get b)
    (hself : s.oc.device = .run → Quieted (s.causes.get c) (s.bdu.branches.get c) (s.vlc.firing.get c) →
      Quieted (t.causes.get c) (t.bdu.branches.get c) (t.vlc.firing.get c)) : BlockedIsQuiet t := by
  rw [blockedIsQuiet_iff] at h ⊢
  intro hrun b
  by_cases e : b = c
  · exact e ▸ hself (hdevice hrun) (h (hdevice hrun) c)
  · obtain ⟨hcauses, hbranch, hfiring⟩ := hothers b e
    rw [hcauses, hbranch, hfiring]
    exact h (hdevice hrun) b

theorem blockedIsQuiet_of_stands (h : BlockedIsQuiet s) (hdevice : t.oc.device = .run → s.oc.device = .run)
    (hcauses : t.causes = s.causes) (hfiring : t.vlc.firing = s.vlc.firing)
    (hbranch : ∀ b, (t.bdu.branches.get b).state = (s.bdu.branches.get b).state ∧
      (t.bdu.branches.get b).decision = (s.bdu.branches.get b).decision) : BlockedIsQuiet t := by
  intro hrun b
  rw [hcauses, hfiring, (hbranch b).1, (hbranch b).2]
  exact h (hdevice hrun) b

theorem blockedIsQuiet_of_left (h : t.oc.device ≠ .run) : BlockedIsQuiet t := fun hrun => absurd hrun h

theorem changeCauses_blockedIsQuiet (h : BlockedIsQuiet s) (b : Branch) (f : CauseSet → CauseSet) :
    BlockedIsQuiet (changeCauses b f s) := by
  obtain ⟨hrun, -, hnew, e⟩ | ⟨hrun, -, hnew, e⟩ | ⟨hsame, e⟩ := changeCauses_cases b f s <;> rw [e]
  · obtain ⟨harmed, htransaction⟩ := enterBlocked_firing_self b { s with causes := s.causes.set b (f (s.causes.get b)) }
    refine blockedIsQuiet_of_branch h b (by simp) (fun c hc => ?_) fun _ _ => ?_
    · simp [enterBlocked_firing_ne _ _ hc, PerBranch.get_set_ne _ _ _ _ hc]
    · exact ⟨by simp [hnew, blockDemand], fun _ => harmed, fun _ => htransaction, by simp [blockDemand, Config.noOrder, eq_comm]⟩
  · refine blockedIsQuiet_of_branch h b (by simp [leaveBlocked]) (fun c hc => ?_) fun _ _ => ?_
    · simp [leaveBlocked, PerBranch.get_set_ne _ _ _ _ hc]
    · exact quieted_of_free (by simp [leaveBlocked, unblockDemand]) (by simpa [leaveBlocked] using hnew)
  · refine blockedIsQuiet_of_branch h b id (fun c hc => ?_) fun hrun hold => ?_
    · simp [PerBranch.get_set_ne _ _ _ _ hc]
    · exact ⟨by simpa [hsame hrun] using hold.state, hold.armed, hold.transaction, hold.decision⟩

theorem orderable_free {g : Group} (h : orderable s g = true) : noCauses (s.causes.get g.branch) = true := by
  simp only [orderable, Bool.and_eq_true] at h
  exact h.1.2

theorem Shift.keeps_blockedIsQuiet (k : Shift P s t) (h : BlockedIsQuiet s) : BlockedIsQuiet t := by
  cases k with
  | aside k => exact blockedIsQuiet_of_stands h (by rw [k.oc]; exact id) k.causes k.firing (by simp [k.branches])
  | consume v =>
    rw [blockedIsQuiet_iff] at h ⊢
    intro hrun b
    have hb := h (by simpa using hrun) b
    by_cases hnamed : namedForPreset s b = true
    · obtain ⟨hstate, -⟩ : (s.bdu.branches.get b).state ≠ .blocked ∧ forced s.slr b = false := by
        simpa [namedForPreset] using hnamed
      have hfree : noCauses (s.causes.get b) = true := by
        by_contra hc
        exact hstate (hb.state.mpr (by simpa using hc))
      exact quieted_of_free (by simp [hnamed, presetDemand]) (by simpa using hfree)
    · simpa [hnamed] using hb
  | windows ds k =>
    refine blockedIsQuiet_of_stands h id rfl rfl fun b => ?_
    obtain ⟨w, hw, -⟩ := k b
    change (ds.get b).state = _ ∧ (ds.get b).decision = _
    rw [hw]
    exact ⟨rfl, rfl⟩
  | decide b kind =>
    refine blockedIsQuiet_of_branch h b (by simp) (fun c hc => ?_) fun _ hold => ?_
    · simp [decideClosure_branches, PerBranch.get_set_ne _ _ _ _ hc]
    · simp only [decideClosure_branches, PerBranch.get_set_self, decideClosure_frame]
      refine ⟨(closedDemand_blocked_iff b kind).trans hold.state, ?_, ?_, ?_⟩ <;>
        rw [closedDemand_blocked_iff] <;> intro hblocked
      · exact hold.armed hblocked
      · exact hold.transaction hblocked
      · rw [closedDemand_decision, decisionOf_of_blocked kind hblocked]
        simp [eq_comm]
  | openWindow c first =>
    refine blockedIsQuiet_of_stands h id rfl rfl fun b => ?_
    by_cases e : b = c <;> simp [Machine.openWindow, e, PerBranch.get_set_ne]
  | addCause b c => exact changeCauses_blockedIsQuiet h b _
  | plant b l => exact changeCauses_blockedIsQuiet h b _
  | unblock b => exact changeCauses_blockedIsQuiet h b _
  | fail g c =>
    exact changeCauses_blockedIsQuiet (blockedIsQuiet_of_stands h (by simp) (by simp) (by simp) (by simp)) _ _
  | firing b f k =>
    refine blockedIsQuiet_of_branch h b id (fun c hc => ?_) fun _ hold => ?_
    · simp [PerBranch.get_set_ne _ _ _ _ hc]
    · have hfiring : (modFiring b f s).vlc.firing.get b = f (s.vlc.firing.get b) := by simp
      rw [hfiring]
      refine ⟨hold.state, fun hb => ?_, fun hb => ?_, hold.decision⟩
      · obtain hnone | hsame := k.armed
        · exact hnone
        · exact hsame.trans (hold.armed hb)
      · refine Option.eq_none_iff_forall_ne_some.mpr fun x hx => ?_
        obtain ⟨x₀, hx₀, -⟩ := k.transaction x hx
        simp [hold.transaction hb] at hx₀
  | arm b m _ hdecision hdelay =>
    refine blockedIsQuiet_of_branch h b id (fun c hc => ?_) fun _ hold => ?_
    · simp [PerBranch.get_set_ne _ _ _ _ hc]
    · have hfree : (s.bdu.branches.get b).state ≠ .blocked := fun hb =>
        hdelay (by rw [hold.decision hb _ hdecision]; rfl)
      refine quieted_of_free hfree ?_
      by_contra hc
      exact hfree (hold.state.mpr (by simpa using hc))
  | order b g n _ hg hb =>
    refine blockedIsQuiet_of_branch h b (by simp [openTransaction, modGroupCounters]) (fun c hc => ?_) fun _ hold => ?_
    · simp [openTransaction, modGroupCounters, PerBranch.get_set_ne _ _ _ _ hc]
    · have hfree := orderable_free hg
      rw [hb] at hfree
      refine quieted_of_free (fun hblocked => ?_) (by simpa [openTransaction, modGroupCounters] using hfree)
      have := hold.state.mp (by simpa [openTransaction, modGroupCounters] using hblocked)
      simp [hfree] at this
  | retry b x again _ hx hg =>
    refine blockedIsQuiet_of_branch h b (by simp [modGroupCounters]) (fun c hc => ?_) fun _ hold => ?_
    · simp [modGroupCounters, PerBranch.get_set_ne _ _ _ _ hc]
    · have hfree : (s.bdu.branches.get b).state ≠ .blocked := fun hb => by simp [hold.transaction hb] at hx
      refine quieted_of_free (by simpa [modGroupCounters] using hfree) ?_
      by_contra hc
      exact hfree (hold.state.mpr (by simpa [modGroupCounters] using hc))
  | halt c b g f hrun => exact blockedIsQuiet_of_left (by simp [enterHalted_oc _ _ _ _ _ (.inr hrun)])
  | quit c ha => exact blockedIsQuiet_of_left (by simp [enterHalted_oc _ _ _ _ _ (.inl ha)])
  | lock n =>
    rw [blockedIsQuiet_iff]
    intro _ b
    simp only [lock_branch, lock_firing, lock_frame]
    refine ⟨?_, fun _ => rfl, fun _ => rfl, by simp [runDemand]⟩
    cases hc : noCauses (s.causes.get b) <;> simp [runDemand]
  | enable => exact blockedIsQuiet_of_left (by simp [beginAcquisition])
  | disable =>
    by_cases hstill : s.oc.device = .unset ∨ s.oc.device = .ready
    · rwa [disableDevice_still s hstill]
    · obtain ⟨hunset, hready⟩ := not_or.mp hstill
      exact blockedIsQuiet_of_left (by simp [(disableDevice_disables s hunset hready).oc])
  | evaluate => exact blockedIsQuiet_of_stands h evaluateConfiguration_run (by simp) (by simp) (by simp)
  | load l =>
    exact blockedIsQuiet_of_stands h (fun hr => evaluateConfiguration_run (s := { s with table := some l }) hr)
      (by simp) (by simp) (by simp)
  | configure c x =>
    have hrun := evaluateConfiguration_run (s := modDemand c (fun d => { d with settings := x }) s)
    refine blockedIsQuiet_of_stands h hrun (by simp) (by simp) fun b => ?_
    by_cases e : b = c <;> simp [e, PerBranch.get_set_ne]
  | reset => exact blockedIsQuiet_of_left (by simp [OperatingControl.reset])
  | _ => exact blockedIsQuiet_of_stands h (by simp [doResetChannels, okay]) (by simp [doResetChannels, okay])
           (by simp [doResetChannels, okay]) (by simp [doResetChannels, okay])

/-! ## Transactions (R119, R121) -/

/-- A transaction open after a change was open before it, for the same group, or was ordered by it for a group of its branch. -/
def TransactionsKept (P : Act → Prop) (s t : State) : Prop :=
  ∀ b x, (t.vlc.firing.get b).transaction = some x →
    (∃ x₀, (s.vlc.firing.get b).transaction = some x₀ ∧ x.group = x₀.group) ∨ P (.order b) ∧ x.group.branch = b

theorem transactionsKept_of_stands (h : t.vlc.firing = s.vlc.firing) : TransactionsKept P s t :=
  fun _ x hx => .inl ⟨x, h ▸ hx, rfl⟩

theorem transactionsKept_of_clear (h : ∀ b, t.vlc.firing.get b = .clear) : TransactionsKept P s t :=
  fun b x hx => absurd hx (by simp [h b, Firing.clear])

/-- One branch's firing items replaced. -/
theorem transactionsKept_of_branch (c : Branch) (hothers : ∀ b, b ≠ c → t.vlc.firing.get b = s.vlc.firing.get b)
    (hself : ∀ x, (t.vlc.firing.get c).transaction = some x →
      (∃ x₀, (s.vlc.firing.get c).transaction = some x₀ ∧ x.group = x₀.group) ∨ P (.order c) ∧ x.group.branch = c) :
    TransactionsKept P s t := by
  intro b x hx
  by_cases e : b = c
  · subst e
    exact hself x hx
  · exact .inl ⟨x, hothers b e ▸ hx, rfl⟩

theorem changeCauses_transactionsKept (b : Branch) (f : CauseSet → CauseSet) : TransactionsKept P s (changeCauses b f s) := by
  obtain ⟨-, -, -, e⟩ | ⟨-, -, -, e⟩ | ⟨-, e⟩ := changeCauses_cases b f s <;> rw [e]
  · refine transactionsKept_of_branch b (fun c hc => by rw [enterBlocked_firing_ne _ _ hc]) fun x hx => ?_
    rw [(enterBlocked_firing_self b _).2] at hx
    exact absurd hx (by simp)
  · exact transactionsKept_of_stands rfl
  · exact transactionsKept_of_stands rfl

theorem Shift.transactionsKept (k : Shift P s t) : TransactionsKept P s t := by
  cases k with
  | aside k => exact transactionsKept_of_stands k.firing
  | addCause b c => exact changeCauses_transactionsKept b _
  | plant b l => exact changeCauses_transactionsKept b _
  | unblock b => exact changeCauses_transactionsKept b _
  | fail g c =>
    intro b x hx
    simpa using changeCauses_transactionsKept (P := P) _ _ b x hx
  | firing b f k =>
    refine transactionsKept_of_branch b (fun c hc => by simp [PerBranch.get_set_ne _ _ _ _ hc]) fun x hx => .inl ?_
    exact k.transaction x (by simpa using hx)
  | arm b m =>
    refine transactionsKept_of_branch b (fun c hc => by simp [PerBranch.get_set_ne _ _ _ _ hc]) fun x hx => ?_
    simp at hx
  | order b g n hp _ hb =>
    refine transactionsKept_of_branch b (fun c hc => ?_) fun x hx => .inr ⟨hp, ?_⟩
    · simp [openTransaction, modGroupCounters, PerBranch.get_set_ne _ _ _ _ hc]
    · obtain rfl : _ = x := by simpa [openTransaction, modGroupCounters] using hx
      exact hb
  | retry b x₀ again _ hx₀ _ hgroup =>
    refine transactionsKept_of_branch b (fun c hc => ?_) fun x hx => .inl ⟨x₀, hx₀, ?_⟩
    · simp [modGroupCounters, PerBranch.get_set_ne _ _ _ _ hc]
    · obtain rfl : again = x := by simpa [modGroupCounters] using hx
      exact hgroup
  | halt c b g f hrun => exact transactionsKept_of_clear (by simp [enterHalted_firing _ _ _ _ _ (.inr hrun)])
  | quit c ha => exact transactionsKept_of_clear (by simp [enterHalted_firing _ _ _ _ _ (.inl ha)])
  | lock n => exact transactionsKept_of_clear (lock_firing s n)
  | disable =>
    by_cases hstill : s.oc.device = .unset ∨ s.oc.device = .ready
    · rw [disableDevice_still s hstill]
      exact transactionsKept_of_stands rfl
    · obtain ⟨hunset, hready⟩ := not_or.mp hstill
      exact transactionsKept_of_clear (disableDevice_disables s hunset hready).firing
  | reset => exact transactionsKept_of_clear (by simp [ValveControl.reset])
  | _ => exact transactionsKept_of_stands (by simp [beginAcquisition, doResetChannels, okay])

theorem Shift.keeps_transactionsAtHome (k : Shift P s t) (h : TransactionsAtHome s) : TransactionsAtHome t := by
  intro b x hx
  obtain ⟨x₀, hx₀, hgroup⟩ | ⟨-, hb⟩ := k.transactionsKept b x hx
  · rw [hgroup]
    exact h b x₀ hx₀
  · exact hb

end

/-- Settles O54: each rule is kept by every small change a step is made of. -/
theorem valveRulesAreKept : Obligations.ValveRulesAreKept :=
  ⟨kept_by_step (fun _ _ h => h) fun _ _ k => k.keeps_mapInjective,
    kept_by_step (fun _ _ h => h) fun _ _ k => k.keeps_failedGroupBlocks,
    kept_by_step (fun _ _ h => h) fun _ _ k => k.keeps_blockedIsQuiet,
    kept_by_step (fun _ _ h => h) fun _ _ k => k.keeps_transactionsAtHome⟩

end Sys2Proof.Machine

/-! The bounds, kept by every small change (R33, R54, R58, R64, R88, R106, R190), and the ring (R169, R170). -/

namespace Sys2Proof.Machine

open Safety

section
variable {P : Act → Prop} {s t : State}

/-! ## Event counts (R190) -/

theorem eventCountsBounded_of_stands (h : EventCountsBounded s) (hevents : t.sli.events = s.sli.events) : EventCountsBounded t := by
  rwa [EventCountsBounded, hevents]

theorem raise_eventCountsBounded (k : EventKind) (h : EventCountsBounded s) : EventCountsBounded (raise k s) :=
  (Aside.raise k s).events h

theorem cancelLatch_eventCountsBounded (c : CancelCause) (h : EventCountsBounded s) : EventCountsBounded (cancelLatch c s) := by
  unfold cancelLatch
  split
  · exact h
  · exact raise_eventCountsBounded _ (eventCountsBounded_of_stands h rfl)

theorem enterHalted_eventCountsBounded (c : HaltCause) (b : Option Branch) (g : Option Group) (f : Option FailureCause)
    (h : EventCountsBounded s) : EventCountsBounded (enterHalted c b g f s) := by
  unfold enterHalted
  split
  · exact cancelLatch_eventCountsBounded _ (raise_eventCountsBounded _ (eventCountsBounded_of_stands h rfl))
  · exact h

theorem decideClosure_eventCountsBounded (b : Branch) (kind : ClosureKind) (h : EventCountsBounded s) :
    EventCountsBounded (decideClosure b kind s) := by
  have hmoved : EventCountsBounded (refreshLines (modDemand b (fun _ => closedDemand s b kind) s)) :=
    eventCountsBounded_of_stands h rfl
  unfold decideClosure
  dsimp only
  split
  · split
    · exact raise_eventCountsBounded _ (raise_eventCountsBounded _ hmoved)
    · exact raise_eventCountsBounded _ hmoved
  · split
    · exact raise_eventCountsBounded _ hmoved
    · exact hmoved

theorem judgeChannel_eventCountsBounded (words : PerQuantity (PerLink LinkWord)) (c : LinkChannel) (h : EventCountsBounded s) :
    EventCountsBounded (judgeChannel words c s) := by
  unfold judgeChannel
  dsimp only
  split
  · exact h
  · split
    · exact eventCountsBounded_of_stands h rfl
    · split
      · refine raise_eventCountsBounded _ (eventCountsBounded_of_stands (s := raise .blockCheckError _) ?_ rfl)
        exact raise_eventCountsBounded _ (eventCountsBounded_of_stands h rfl)
      · exact raise_eventCountsBounded _ (eventCountsBounded_of_stands h rfl)

theorem storeRecord_eventCountsBounded (r : ClosureRecord) (h : EventCountsBounded s) : EventCountsBounded (storeRecord r s) := by
  unfold storeRecord freeze
  split
  · exact eventCountsBounded_of_stands h rfl
  · dsimp only
    split
    · exact (Aside.noteEvent _ _).events (eventCountsBounded_of_stands h rfl)
    · exact eventCountsBounded_of_stands h rfl
  · exact eventCountsBounded_of_stands h rfl

theorem Shift.keeps_eventCountsBounded (k : Shift P s t) (h : EventCountsBounded s) : EventCountsBounded t := by
  cases k with
  | aside k => exact k.events h
  | cancel c => exact cancelLatch_eventCountsBounded c h
  | consume v => exact raise_eventCountsBounded _ (eventCountsBounded_of_stands h rfl)
  | judge words c => exact judgeChannel_eventCountsBounded words c h
  | decide b kind => exact decideClosure_eventCountsBounded b kind h
  | fail g c =>
    have hraised := raise_eventCountsBounded .groupFailed (eventCountsBounded_of_stands
      (t := modGroup g (fun r => { clearReadiness r with failure := some c }) s) h rfl)
    exact eventCountsBounded_of_stands hraised (by simp [Machine.addCause])
  | halt c b g f => exact enterHalted_eventCountsBounded c b g f h
  | quit c => exact enterHalted_eventCountsBounded c _ _ _ h
  | store r => exact storeRecord_eventCountsBounded r h
  | lock n =>
    refine eventCountsBounded_of_stands (s := raise .acquireDone _) ?_ rfl
    exact raise_eventCountsBounded _ (eventCountsBounded_of_stands h rfl)
  | disable =>
    unfold disableDevice
    split
    · exact h
    · exact h
    · exact cancelLatch_eventCountsBounded _ (eventCountsBounded_of_stands h rfl)
  | reset => simp [EventCountsBounded, noEvents]
  | _ => exact eventCountsBounded_of_stands h (by simp [Machine.addCause, modGroupCounters, beginAcquisition, doResetChannels, okay])

/-! ## Converter chains (R33) -/

theorem chainsAgree_of_stands (h : ChainsAgree s) (hchains : t.slr.chains = s.slr.chains) : ChainsAgree t := by
  rwa [ChainsAgree, hchains]

/-- R33: a channel judged FAILED already stands; a block that passes makes it GOOD; another adds one to its count. -/
theorem judgeChannel_chain (words : PerQuantity (PerLink LinkWord)) (c d : LinkChannel) (s : State) :
    (judgeChannel words c s).slr.chains.get d =
      if d ≠ c ∨ (s.slr.chains.get c).status = .failed then s.slr.chains.get d
      else if passesBlock s.slr words c = true then ⟨.good, 0⟩
      else ⟨statusOf ((s.slr.chains.get c).failedRun + 1), (s.slr.chains.get c).failedRun + 1⟩ := by
  by_cases e : d = c
  · subst e
    unfold judgeChannel
    dsimp only
    split
    · next hfailed => simp [hfailed]
    · next hgood =>
      split
      · simp [hgood, modLink]
      · split <;> simp [hgood, modLink]
  · rw [if_pos (.inl e)]
    unfold judgeChannel
    dsimp only
    repeat' split
    all_goals simp [modLink, PerLink.get_set_ne _ _ _ _ e]

theorem Shift.keeps_chainsAgree (k : Shift P s t) (h : ChainsAgree s) : ChainsAgree t := by
  cases k with
  | aside k => exact chainsAgree_of_stands h k.chains
  | judge words c =>
    intro d
    obtain ⟨hstatus, hle⟩ := h c
    rw [judgeChannel_chain]
    split
    · exact h d
    · next hjudged =>
      split
      · exact ⟨rfl, Nat.zero_le _⟩
      · refine ⟨rfl, Nat.lt_of_le_of_ne hle fun hfour => hjudged (.inr ?_)⟩
        rw [hstatus, hfour]
        rfl
  | resetChannels => simp [ChainsAgree, doResetChannels, okay, modLink, statusOf]
  | reset => simp [ChainsAgree, SampleLink.reset, statusOf]
  | _ => exact chainsAgree_of_stands h (by simp [Machine.addCause, modGroupCounters, beginAcquisition])

/-! ## The tracking settings (R64) -/

theorem Shift.syncSettings_cases (k : Shift P s t) : t.ct.settings = s.ct.settings ∨
    (P (.request .setSync) ∧ (s.oc.device = .unset ∨ s.oc.device = .ready) ∧ SyncInRange t.ct.settings ∧
      ∃ x, t = { s with ct := { s.ct with settings := x } }) ∨ (P .reset ∧ ∃ hr k n, t = resetBlocks hr k n s) := by
  cases k with
  | aside k => exact .inl k.syncSettings
  | setSync x hstill h hp => exact .inr (.inl ⟨hp, hstill, h, x, rfl⟩)
  | reset hr k n _ hp => exact .inr (.inr ⟨hp, hr, k, n, rfl⟩)
  | _ => exact .inl (by simp [Machine.addCause, modGroupCounters, beginAcquisition, doResetChannels, okay])

theorem Shift.keeps_trackingInRange (k : Shift P s t) (h : TrackingInRange s) : TrackingInRange t := by
  obtain e | ⟨-, -, h, -⟩ | ⟨-, hr, k, n, rfl⟩ := k.syncSettings_cases
  · rwa [TrackingInRange, e]
  · exact ⟨h.hysteresis, h.halfWidth, h.latency, h.limit⟩
  · simp [TrackingInRange, Tracker.reset, SyncSettings.reset]

/-! ## The ring (R169, R170) -/

theorem ringOrdered_of_stands (h : RingOrdered s) (hring : t.hr.ring = s.hr.ring) (hnext : t.hr.nextSeq = s.hr.nextSeq) :
    RingOrdered t := by
  have hend : endSeq t.hr = endSeq s.hr := by simp [endSeq, hring, hnext]
  rwa [RingOrdered, hring, hend]

/-- The records kept for a storage end just below the next number. -/
theorem ringFor_ordered {h : History} (hlen : h.ring.length ≤ 512)
    (hseq : ∀ i r, h.ring[i]? = some r → r.seq.toNat + (h.ring.length - i) = endSeq h) :
    (ringFor h).length ≤ 511 ∧
      ∀ i r, (ringFor h)[i]? = some r → r.seq.toNat + ((ringFor h).length - i) = h.nextSeq.toNat := by
  unfold ringFor
  split
  · simp
  · next hwraps =>
    have hend : h.ring ≠ [] → endSeq h = h.nextSeq.toNat := fun hne => by
      have hnext : h.nextSeq ≠ 0 := fun hzero => hwraps (by simp [wrapsNow, hzero, hne])
      rw [endSeq, if_neg fun hboth => hnext hboth.1]
    have hmem (i : Nat) (r : ClosureRecord) (hr : h.ring[i]? = some r) :
        r.seq.toNat + (h.ring.length - i) = h.nextSeq.toNat := by
      rw [hseq i r hr, hend]
      rintro hnil
      simp [hnil] at hr
    split
    · next hroom => exact ⟨Nat.le_of_lt_succ hroom, hmem⟩
    · next hfull =>
      refine ⟨by rw [List.length_tail]; omega, fun i r hr => ?_⟩
      rw [List.getElem?_tail] at hr
      rw [List.length_tail, ← hmem (i + 1) r hr]
      omega

/-- R170: with the new record the ring ends with the newest number. -/
theorem appendRecord_ordered {h : History} (r : ClosureRecord) (hlen : h.ring.length ≤ 512)
    (hseq : ∀ i r, h.ring[i]? = some r → r.seq.toNat + (h.ring.length - i) = endSeq h) :
    (appendRecord r h).ring.length ≤ 512 ∧
      ∀ i x, (appendRecord r h).ring[i]? = some x → x.seq.toNat + ((appendRecord r h).ring.length - i) = endSeq (appendRecord r h) := by
  obtain ⟨hkept, hbelow⟩ := ringFor_ordered hlen hseq
  have hend : endSeq (appendRecord r h) = h.nextSeq.toNat + 1 := by
    have hfilled : (appendRecord r h).ring ≠ [] := by simp [appendRecord]
    have hnext : (appendRecord r h).nextSeq = h.nextSeq + 1 := rfl
    by_cases hround : h.nextSeq + 1 = 0
    · rw [endSeq, if_pos ⟨hround, hfilled⟩]
      bv_omega
    · rw [endSeq, if_neg fun hboth => hround hboth.1, hnext]
      bv_omega
  have hring : (appendRecord r h).ring = ringFor h ++ [{ r with seq := h.nextSeq }] := rfl
  rw [hring, hend]
  refine ⟨by simp; omega, fun i x hx => ?_⟩
  rw [List.length_append, List.length_singleton]
  by_cases hi : i < (ringFor h).length
  · rw [List.getElem?_append_left hi] at hx
    have := hbelow i x hx
    omega
  · rw [List.getElem?_append_right (Nat.not_lt.mp hi), List.getElem?_singleton] at hx
    split at hx
    · next hlast =>
      cases hx
      simp only
      omega
    · exact absurd hx (by simp)

theorem storeRecord_ringOrdered (r : ClosureRecord) (h : RingOrdered s) : RingOrdered (storeRecord r s) := by
  obtain ⟨hlen, hseq⟩ := h
  have hstored : RingOrdered { s with hr := appendRecord r s.hr } := appendRecord_ordered r hlen hseq
  unfold storeRecord freeze
  split
  · exact hstored
  · dsimp only
    split
    · exact ringOrdered_of_stands hstored rfl rfl
    · exact ringOrdered_of_stands hstored rfl rfl
  · exact ringOrdered_of_stands ⟨hlen, hseq⟩ rfl rfl

theorem Shift.keeps_ringOrdered (k : Shift P s t) (h : RingOrdered s) : RingOrdered t := by
  cases k with
  | aside k => exact ringOrdered_of_stands h k.ring k.nextSeq
  | store r => exact storeRecord_ringOrdered r h
  | reset hr k n hkept =>
    obtain rfl | rfl := hkept
    · exact h
    · simp [RingOrdered, History.reset]
  | _ =>
    exact ringOrdered_of_stands h (by simp [Machine.addCause, modGroupCounters, beginAcquisition, doResetChannels, okay])
      (by simp [Machine.addCause, modGroupCounters, beginAcquisition, doResetChannels, okay])

end

/-- Settles O56: only a storage touches the ring, and a reset that empties it. -/
theorem ringStaysOrdered : Obligations.RingStaysOrdered :=
  kept_by_step (fun _ _ h => h) fun _ _ k => k.keeps_ringOrdered

end Sys2Proof.Machine

/-! Periods, counters and decisions stay in their ranges (R54, R58, R88, R106); every invariant holds at reset. -/

namespace Sys2Proof.Machine

open Safety

section
variable {P : Act → Prop} {s t : State}

/-! ## Period estimates (R58) -/

theorem periodsInBand_of_stands (h : PeriodsInBand s) (hdevice : t.oc.device = .run → s.oc.device = .run)
    (hnominal : t.ct.nominal = s.ct.nominal) (hperiod : ∀ b, (t.ct.tracks.get b).period = (s.ct.tracks.get b).period) :
    PeriodsInBand t := by
  intro hrun
  rw [hnominal]
  simp only [hperiod]
  exact h (hdevice hrun)

theorem periodsInBand_of_left (h : t.oc.device ≠ .run) : PeriodsInBand t := fun hrun => absurd hrun h

/-- R58: the estimate is clamped to the nominal half-period ± 128. -/
theorem updatePeriod_in_band (n : Nominal) (p : Nat) (i : Int) :
    halfPeriod n - 128 ≤ updatePeriod (halfPeriod n) p i ∧ updatePeriod (halfPeriod n) p i ≤ halfPeriod n + 128 := by
  have hn : 128 ≤ halfPeriod n := by cases n <;> decide
  unfold updatePeriod clampInt
  split
  · omega
  · split <;> omega

theorem Shift.keeps_periodsInBand (k : Shift P s t) (h : PeriodsInBand s) : PeriodsInBand t := by
  cases k with
  | aside k => exact periodsInBand_of_stands h (by rw [k.oc]; exact id) k.nominal (by simp [k.tracks])
  | tracks ts k =>
    intro hrun
    obtain ⟨n, hn, hband⟩ := h hrun
    refine ⟨n, hn, fun b => ?_⟩
    obtain ⟨p, hp, hlow, hhigh⟩ := hband b
    have hperiod : periodOf s b = p := by simp [periodOf, hp]
    have hnominal : nominalOf s = n := by simp [nominalOf, hn]
    change ∃ q, (ts.get b).period = some q ∧ _
    obtain e | e | ⟨i, e⟩ := (k b).period <;> rw [e]
    · exact ⟨p, hp, hlow, hhigh⟩
    · rw [hperiod]
      exact ⟨p, rfl, hlow, hhigh⟩
    · rw [hnominal]
      exact ⟨_, rfl, updatePeriod_in_band ..⟩
  | count c n =>
    refine periodsInBand_of_stands h id rfl fun b => ?_
    by_cases e : b = c <;> simp [reachCount, e, PerBranch.get_set_ne]
  | halt c b g f hrun => exact periodsInBand_of_left (by simp [enterHalted_oc _ _ _ _ _ (.inr hrun)])
  | quit c ha => exact periodsInBand_of_left (by simp [enterHalted_oc _ _ _ _ _ (.inl ha)])
  | lock n =>
    intro _
    refine ⟨n, lock_nominal s n, fun b => ⟨halfPeriod n, ?_, Nat.sub_le .., Nat.le_add_right ..⟩⟩
    rw [lock_track]
    rfl
  | enable => exact periodsInBand_of_left (by simp [beginAcquisition])
  | disable =>
    by_cases hstill : s.oc.device = .unset ∨ s.oc.device = .ready
    · rwa [disableDevice_still s hstill]
    · obtain ⟨hunset, hready⟩ := not_or.mp hstill
      exact periodsInBand_of_left (by simp [(disableDevice_disables s hunset hready).oc])
  | evaluate => exact periodsInBand_of_stands h evaluateConfiguration_run (by simp) (by simp)
  | load l =>
    exact periodsInBand_of_stands h (fun hr => evaluateConfiguration_run (s := { s with table := some l }) hr) (by simp) (by simp)
  | configure c x =>
    have hrun := evaluateConfiguration_run (s := modDemand c (fun d => { d with settings := x }) s)
    exact periodsInBand_of_stands h hrun (by simp) (by simp)
  | reset => exact periodsInBand_of_left (by simp [OperatingControl.reset])
  | _ =>
    exact periodsInBand_of_stands h (by simp [Machine.addCause, openTransaction, modGroupCounters, doResetChannels, okay])
      (by simp [Machine.addCause, modGroupCounters, doResetChannels, okay])
      (by simp [Machine.addCause, modGroupCounters, doResetChannels, okay])

/-! ## Counters and armed delays (R54, 5.4) -/

/-- R54: a counter runs only in RUN, at or below 2048 + W. -/
def CountersRun (s : State) : Prop := ∀ b a, (s.ct.tracks.get b).counter = some a → s.oc.device = .run ∧ a.count ≤ topCount s

/-- 5.4: an armed delay lies below 2048. -/
def DelaysBelow (s : State) : Prop := ∀ b d, (s.vlc.firing.get b).armed = some d → d ≤ 2047

theorem countersBounded_iff : CountersBounded s ↔ CountersRun s ∧ DelaysBelow s ∧ TableComplete s := Iff.rfl

theorem countersRun_of_stands (h : CountersRun s) (hdevice : s.oc.device = .run → t.oc.device = .run)
    (hsettings : t.ct.settings = s.ct.settings) (hcounter : ∀ b, (t.ct.tracks.get b).counter = (s.ct.tracks.get b).counter) :
    CountersRun t := by
  intro b a ha
  obtain ⟨hrun, hle⟩ := h b a (hcounter b ▸ ha)
  exact ⟨hdevice hrun, by simpa [topCount, hsettings] using hle⟩

theorem countersRun_of_stopped (h : ∀ b, (t.ct.tracks.get b).counter = none) : CountersRun t := by simp [CountersRun, h]

/-- Outside RUN no counter runs. -/
theorem counter_none_of_left (h : CountersRun s) (hleft : s.oc.device ≠ .run) (b : Branch) :
    (s.ct.tracks.get b).counter = none :=
  Option.eq_none_iff_forall_ne_some.mpr fun a ha => hleft (h b a ha).1

theorem evaluateConfiguration_of_run (h : s.oc.device = .run) : (evaluateConfiguration s).oc.device = .run := by
  rwa [evaluateConfiguration_elsewhere s (by simp [h])]

theorem Shift.keeps_countersRun (k : Shift P s t) (hdelays : DelaysBelow s) (h : CountersRun s) : CountersRun t := by
  cases k with
  | aside k => exact countersRun_of_stands h (by rw [k.oc]; exact id) k.syncSettings (by simp [k.tracks])
  | tracks ts k =>
    intro b a ha
    obtain ⟨hrun, hle⟩ | ⟨a₀, ha₀, hle⟩ := (k b).counter a ha
    · exact ⟨hrun, hle⟩
    · obtain ⟨hrun, hle₀⟩ := h b a₀ ha₀
      exact ⟨hrun, hle.trans (max_le hle₀ (Nat.le_refl _))⟩
  | count c n _ hn =>
    intro b a ha
    by_cases e : b = c
    · subst e
      obtain ⟨a₀, ha₀, rfl⟩ : ∃ a₀, (s.ct.tracks.get b).counter = some a₀ ∧ (if a₀.count < n then ⟨n, 0⟩ else a₀) = a := by
        simpa [reachCount] using ha
      obtain ⟨hrun, hle₀⟩ := h b a₀ ha₀
      refine ⟨hrun, ?_⟩
      rw [topCount_reachCount]
      split
      · obtain hn | harmed := hn
        · exact hn
        · have hbelow : n ≤ 2047 := hdelays b n harmed
          exact hbelow.trans ((Nat.le_of_lt (by decide : 2047 < Config.noOrder)).trans noOrder_le_topCount)
      · exact hle₀
    · exact h b a (by simpa [reachCount, PerBranch.get_set_ne _ _ _ _ e] using ha)
  | halt c b g f hrun => exact countersRun_of_stopped fun d => (enterHalted_idle c b g f (.inr hrun) d).1
  | quit c ha => exact countersRun_of_stopped fun d => (enterHalted_idle c _ _ _ (.inl ha) d).1
  | lock n => exact countersRun_of_stopped (by simp [lockTrack])
  | enable hr =>
    refine countersRun_of_stopped fun b => ?_
    simpa [beginAcquisition] using counter_none_of_left h (by simp [hr]) b
  | disable =>
    by_cases hstill : s.oc.device = .unset ∨ s.oc.device = .ready
    · rwa [disableDevice_still s hstill]
    · obtain ⟨hunset, hready⟩ := not_or.mp hstill
      refine countersRun_of_stopped fun b => ?_
      rw [(disableDevice_disables s hunset hready).track]
      rfl
  | evaluate => exact countersRun_of_stands h evaluateConfiguration_of_run (by simp) (by simp)
  | load l =>
    exact countersRun_of_stands h (fun hr => evaluateConfiguration_of_run (s := { s with table := some l }) hr) (by simp) (by simp)
  | configure c x =>
    have hrun := evaluateConfiguration_of_run (s := modDemand c (fun d => { d with settings := x }) s)
    exact countersRun_of_stands h hrun (by simp) (by simp)
  | setSync x hstill =>
    exact countersRun_of_stopped fun b => counter_none_of_left h (by obtain e | e := hstill <;> simp [e]) b
  | reset => exact countersRun_of_stopped (by simp [Tracker.reset, Track.reset])
  | _ =>
    exact countersRun_of_stands h (by simp [Machine.addCause, openTransaction, modGroupCounters, doResetChannels, okay])
      (by simp [Machine.addCause, modGroupCounters, doResetChannels, okay])
      (by simp [Machine.addCause, modGroupCounters, doResetChannels, okay])

theorem convert_le (h : TableComplete s) (x : Nat) : convert s.table x ≤ 2048 := by
  unfold convert
  split
  · exact Nat.le_refl _
  · next l hl =>
    split
    · exact Nat.le_refl _
    · exact (Nat.sub_le ..).trans (entry_in_range (h l hl).2 _).2

theorem delaysBelow_of_kept (h : DelaysBelow s)
    (hkept : ∀ b, (t.vlc.firing.get b).armed = none ∨ (t.vlc.firing.get b).armed = (s.vlc.firing.get b).armed) : DelaysBelow t := by
  intro b d hd
  obtain e | e := hkept b
  · simp [e] at hd
  · exact h b d (e ▸ hd)

theorem changeCauses_delaysBelow (h : DelaysBelow s) (b : Branch) (f : CauseSet → CauseSet) :
    DelaysBelow (changeCauses b f s) := by
  obtain ⟨-, -, -, e⟩ | ⟨-, -, -, e⟩ | ⟨-, e⟩ := changeCauses_cases b f s <;> rw [e]
  · refine delaysBelow_of_kept h fun c => ?_
    by_cases hc : c = b
    · exact .inl (hc ▸ (enterBlocked_firing_self b _).1)
    · exact .inr (by rw [enterBlocked_firing_ne _ _ hc])
  · exact delaysBelow_of_kept h fun _ => .inr rfl
  · exact delaysBelow_of_kept h fun _ => .inr rfl

theorem Shift.keeps_delaysBelow (k : Shift P s t) (htable : TableComplete s) (h : DelaysBelow s) : DelaysBelow t := by
  cases k with
  | aside k => exact delaysBelow_of_kept h fun b => .inr (by rw [k.firing])
  | addCause b c => exact changeCauses_delaysBelow h b _
  | plant b l => exact changeCauses_delaysBelow h b _
  | unblock b => exact changeCauses_delaysBelow h b _
  | fail g c => exact changeCauses_delaysBelow (delaysBelow_of_kept h (by simp)) _ _
  | firing b f k =>
    refine delaysBelow_of_kept h fun c => ?_
    by_cases e : c = b
    · subst e
      simpa using k.armed
    · exact .inr (by simp [PerBranch.get_set_ne _ _ _ _ e])
  | arm b m _ _ hdelay =>
    intro c d hd
    by_cases e : c = b
    · subst e
      obtain rfl : (decisionOf s.table m).delay = d := by simpa using hd
      have hle : (decisionOf s.table m).delay ≤ 2048 := by
        simp only [decisionOf]
        split
        · exact Nat.le_refl _
        · exact convert_le htable _
      exact Nat.le_of_lt_succ (Nat.lt_of_le_of_ne hle hdelay)
    · exact h c d (by simpa [PerBranch.get_set_ne _ _ _ _ e] using hd)
  | order b g n =>
    refine delaysBelow_of_kept h fun c => .inr ?_
    by_cases e : c = b <;> simp [openTransaction, modGroupCounters, e, PerBranch.get_set_ne]
  | retry b x again =>
    refine delaysBelow_of_kept h fun c => .inr ?_
    by_cases e : c = b <;> simp [modGroupCounters, e, PerBranch.get_set_ne]
  | halt c b g f hrun => exact delaysBelow_of_kept h fun d => .inl (by simp [enterHalted_firing _ _ _ _ _ (.inr hrun), Firing.clear])
  | quit c ha => exact delaysBelow_of_kept h fun d => .inl (by simp [enterHalted_firing _ _ _ _ _ (.inl ha), Firing.clear])
  | lock n => exact delaysBelow_of_kept h fun d => .inl (by simp [Firing.clear])
  | disable =>
    by_cases hstill : s.oc.device = .unset ∨ s.oc.device = .ready
    · rwa [disableDevice_still s hstill]
    · obtain ⟨hunset, hready⟩ := not_or.mp hstill
      exact delaysBelow_of_kept h fun b => .inl (by rw [(disableDevice_disables s hunset hready).firing]; rfl)
  | reset => exact delaysBelow_of_kept h fun b => .inl (by simp [ValveControl.reset, Firing.clear])
  | _ => exact delaysBelow_of_kept h fun b => .inr (by simp [beginAcquisition, doResetChannels, okay])

theorem Shift.keeps_countersBounded (k : Shift P s t) (h : CountersBounded s) : CountersBounded t :=
  ⟨k.keeps_countersRun h.2.1 h.1, k.keeps_delaysBelow h.2.2 h.2.1, k.keeps_tableComplete h.2.2⟩

/-! ## Susceptances and decisions (R88, R106) -/

/-- The susceptances a branch may present lie in 0..4095. -/
structure PresentsInRange (d : BranchDemand) : Prop where
  fallback : d.settings.fallback ≤ 4095
  previous : ∀ x, d.previous = some x → x ≤ 4095
  preset : ∀ p, d.preset = some p → p.value ≤ 4095
  decision : ∀ x, d.decision = some x → x.susceptance ≤ 4095

/-- The preset values of an armed latch lie in 0..4095. -/
def LatchInRange (s : State) : Prop := ∀ v, s.pli.latch = some v → ∀ b, v.values.get b ≤ 4095

/-- A decision held has a delay in 1024..2048. -/
def DelayInRange (d : BranchDemand) : Prop := ∀ x, d.decision = some x → 1024 ≤ x.delay ∧ x.delay ≤ 2048

theorem decisionsInRange_iff : DecisionsInRange s ↔
    ((∀ b, PresentsInRange (s.bdu.branches.get b)) ∧ LatchInRange s) ∧ TableComplete s ∧
      ∀ b, DelayInRange (s.bdu.branches.get b) := by
  refine and_congr_left' (and_congr_left' (forall_congr' fun b => ⟨fun ⟨hf, hp, hq, hd⟩ => ⟨hf, hp, hq, hd⟩, fun h => ?_⟩))
  exact ⟨h.fallback, h.previous, h.preset, h.decision⟩

theorem limitStep_le {x step target : Nat} (hx : x ≤ 4095) (ht : target ≤ 4095) : limitStep x step target ≤ 4095 :=
  max_le ((Nat.sub_le ..).trans hx) ((min_le_right ..).trans ht)

theorem saturate_le (x : Int) : saturate x ≤ 4095 := by
  unfold saturate clampInt
  split
  · decide
  · split <;> omega

/-- A move presents a susceptance in range where the branch it moves, and the target, do. -/
structure MoveInRange (m : Machine.Move) : Prop where
  susceptance : m.susceptance ≤ 4095
  preset : ∀ p, m.preset = some p → p.value ≤ 4095

theorem moveToFallback_in_range {set : BranchSettings} (h : set.fallback ≤ 4095) : MoveInRange (moveToFallback set) :=
  ⟨h, by simp [moveToFallback]⟩

theorem moveToHold_in_range {set : BranchSettings} (h : set.fallback ≤ 4095) (n : Nat) {x : Nat} (hx : x ≤ 4095) :
    MoveInRange (moveToHold set n x) := by
  unfold moveToHold
  split
  · exact moveToFallback_in_range h
  · exact ⟨hx, by simp⟩

theorem moveToTrack_in_range (set : BranchSettings) {x target : Nat} (hx : x ≤ 4095) (ht : target ≤ 4095) :
    MoveInRange (moveToTrack set x target) := ⟨limitStep_le hx ht, by simp [moveToTrack]⟩

theorem nextMove_in_range {d : BranchDemand} (h : PresentsInRange d) (code : ValidityCode) {target : Nat} (ht : target ≤ 4095) :
    MoveInRange (nextMove d code target) := by
  have hprev : d.previous.getD d.settings.fallback ≤ 4095 := by
    cases e : d.previous with
    | none => exact h.fallback
    | some x => exact h.previous x e
  have hpreset : (d.preset.getD ⟨0, d.settings.fallback⟩).value ≤ 4095 := by
    cases e : d.preset with
    | none => exact h.fallback
    | some p => exact h.preset p e
  unfold nextMove
  dsimp only
  split
  · exact ⟨Nat.zero_le _, h.preset⟩
  · exact ⟨Nat.zero_le _, by simp⟩
  · split
    · exact moveToTrack_in_range _ hprev ht
    · exact moveToFallback_in_range h.fallback
    · exact moveToHold_in_range h.fallback _ hprev
  · split
    · exact moveToTrack_in_range _ hprev ht
    · exact moveToFallback_in_range h.fallback
    · exact moveToHold_in_range h.fallback _ hprev
  · split
    · split
      · exact ⟨h.fallback, by simp⟩
      · exact moveToTrack_in_range _ h.fallback ht
    · exact ⟨h.fallback, by simp⟩
  · split
    · exact moveToFallback_in_range h.fallback
    · split
      · split
        · exact moveToTrack_in_range _ hpreset ht
        · exact moveToHold_in_range h.fallback _ hpreset
      · exact ⟨hpreset, by rintro p ⟨⟩; exact hpreset⟩

theorem closureMove_in_range {b : Branch} (kind : ClosureKind) (h : PresentsInRange (s.bdu.branches.get b)) :
    MoveInRange (closureMove s b kind) := by
  refine nextMove_in_range h _ ?_
  cases (closureDemand s b kind).map (rawTarget s b) with
  | none => exact Nat.zero_le _
  | some x => exact saturate_le x

theorem decisionOf_delay_in_range (htable : TableComplete s) {m : Machine.Move} (hm : MoveInRange m) :
    1024 ≤ (decisionOf s.table m).delay ∧ (decisionOf s.table m).delay ≤ 2048 := by
  simp only [decisionOf]
  split
  · decide
  · cases hl : s.table with
    | none => simp [convert, Config.noOrder]
    | some l => exact convert_in_range (htable l hl).1 (htable l hl).2 hm.susceptance

theorem closedDemand_in_range {b : Branch} (kind : ClosureKind) (h : PresentsInRange (s.bdu.branches.get b)) :
    PresentsInRange (closedDemand s b kind) := by
  have hm := closureMove_in_range kind h
  refine ⟨h.fallback, fun x hx => ?_, hm.preset, ?_⟩
  · simp only [closedDemand] at hx
    split at hx
    · exact absurd hx (by simp)
    · cases hx
      exact hm.susceptance
  · rintro x ⟨⟩
    exact hm.susceptance

theorem leaveRunDemand_in_range {d : BranchDemand} (h : PresentsInRange d) : PresentsInRange (leaveRunDemand d) :=
  ⟨h.fallback, by simp [leaveRunDemand], by simp [leaveRunDemand], by simp [leaveRunDemand]⟩

/-- What holds of every branch's items, and of one branch's new items, holds after the replacement. -/
theorem forall_get_set {Q : BranchDemand → Prop} {ds : PerBranch BranchDemand} (h : ∀ b, Q (ds.get b)) (c : Branch)
    {d : BranchDemand} (hd : Q d) (b : Branch) : Q ((ds.set c d).get b) := by
  by_cases e : b = c
  · rwa [e, PerBranch.get_set_self]
  · rw [PerBranch.get_set_ne _ _ _ _ e]
    exact h b

/-- A change of a set leaves the items of every branch, or blocks or unblocks one. -/
theorem changeCauses_branches {Q : BranchDemand → Prop} (h : ∀ b, Q (s.bdu.branches.get b)) (c : Branch) (f : CauseSet → CauseSet)
    (hblock : ∀ d, Q d → Q (blockDemand d)) (hunblock : ∀ d, Q d → Q (unblockDemand d)) (b : Branch) :
    Q ((changeCauses c f s).bdu.branches.get b) := by
  obtain ⟨-, -, -, e⟩ | ⟨-, -, -, e⟩ | ⟨-, e⟩ := changeCauses_cases c f s <;> rw [e]
  · rw [enterBlocked_branches]
    exact forall_get_set h c (hblock _ (h c)) b
  · exact forall_get_set h c (hunblock _ (h c)) b
  · exact h b

theorem changeCauses_presents (h : ∀ b, PresentsInRange (s.bdu.branches.get b)) (c : Branch) (f : CauseSet → CauseSet)
    (b : Branch) : PresentsInRange ((changeCauses c f s).bdu.branches.get b) :=
  changeCauses_branches h c f (fun _ hd => ⟨hd.fallback, by simp [blockDemand], by simp [blockDemand], by simp [blockDemand, eq_comm]⟩)
    (fun _ hd => ⟨hd.fallback, by simp [unblockDemand], hd.preset, hd.decision⟩) b

theorem changeCauses_delays (h : ∀ b, DelayInRange (s.bdu.branches.get b)) (c : Branch) (f : CauseSet → CauseSet) (b : Branch) :
    DelayInRange ((changeCauses c f s).bdu.branches.get b) :=
  changeCauses_branches h c f (fun _ _ => by simp [DelayInRange, blockDemand, Config.noOrder, eq_comm]) (fun _ hd => hd) b

theorem Shift.keeps_presents (k : Shift P s t) (hlatch : LatchInRange s) (h : ∀ b, PresentsInRange (s.bdu.branches.get b)) :
    ∀ b, PresentsInRange (t.bdu.branches.get b) := by
  cases k with
  | aside k => rwa [k.branches]
  | consume v hv =>
    intro b
    rw [consumeLatch_branch]
    split
    · refine ⟨(h b).fallback, (h b).previous, ?_, (h b).decision⟩
      rintro p ⟨⟩
      exact hlatch v hv b
    · exact h b
  | windows ds k =>
    intro b
    obtain ⟨w, hw, -⟩ := k b
    change PresentsInRange (ds.get b)
    rw [hw]
    exact ⟨(h b).fallback, (h b).previous, (h b).preset, (h b).decision⟩
  | openWindow c first =>
    exact forall_get_set h c (d := { s.bdu.branches.get c with window := some (newWindow first) })
      ⟨(h c).fallback, (h c).previous, (h c).preset, (h c).decision⟩
  | decide c kind =>
    rw [decideClosure_branches]
    exact forall_get_set h c (closedDemand_in_range kind (h c))
  | addCause b c => exact changeCauses_presents h b _
  | plant b l => exact changeCauses_presents h b _
  | unblock b => exact changeCauses_presents h b _
  | fail g c => exact changeCauses_presents (by simpa using h) _ _
  | halt c b g f hrun =>
    rw [enterHalted_branches _ _ _ _ _ (.inr hrun)]
    simpa using fun d => leaveRunDemand_in_range (h d)
  | quit c ha =>
    rw [enterHalted_branches _ _ _ _ _ (.inl ha)]
    simpa using fun d => leaveRunDemand_in_range (h d)
  | lock n =>
    intro b
    rw [lock_branch]
    exact ⟨(h b).fallback, by simp [runDemand], by simp [runDemand], by simp [runDemand]⟩
  | disable =>
    by_cases hstill : s.oc.device = .unset ∨ s.oc.device = .ready
    · rwa [disableDevice_still s hstill]
    · obtain ⟨hunset, hready⟩ := not_or.mp hstill
      intro b
      rw [(disableDevice_disables s hunset hready).branch]
      exact leaveRunDemand_in_range (h b)
  | configure c x _ hfallback =>
    have hset := forall_get_set h c (d := { s.bdu.branches.get c with settings := x })
      ⟨hfallback, (h c).previous, (h c).preset, (h c).decision⟩
    simpa using hset
  | reset =>
    intro b
    simp only [resetBlocks_bdu, DemandUnit.reset, PerBranch.get_fill]
    exact ⟨by decide, by simp [BranchDemand.reset], by simp [BranchDemand.reset], by simp [BranchDemand.reset]⟩
  | _ => simpa [modGroupCounters, beginAcquisition, doResetChannels, okay] using h

theorem latchInRange_of_kept (h : LatchInRange s) (hlatch : t.pli.latch = none ∨ t.pli.latch = s.pli.latch) : LatchInRange t := by
  intro v hv
  obtain e | e := hlatch
  · simp [e] at hv
  · exact h v (e ▸ hv)

theorem Shift.keeps_latchInRange (k : Shift P s t) (h : LatchInRange s) : LatchInRange t := by
  cases k with
  | aside k => exact latchInRange_of_kept h (.inr k.latch)
  | cancel => exact latchInRange_of_kept h (.inl (cancelLatch_latch ..))
  | consume => exact latchInRange_of_kept h (.inl (consumeLatch_latch ..))
  | halt c b g f hrun => exact latchInRange_of_kept h (.inl (enterHalted_latch _ _ _ _ (.inr hrun)))
  | quit c ha => exact latchInRange_of_kept h (.inl (enterHalted_latch _ _ _ _ (.inl ha)))
  | disable =>
    by_cases hstill : s.oc.device = .unset ∨ s.oc.device = .ready
    · rwa [disableDevice_still s hstill]
    · obtain ⟨hunset, hready⟩ := not_or.mp hstill
      exact latchInRange_of_kept h (.inl (disableDevice_disables s hunset hready).latch)
  | armLatch v _ hv =>
    rintro v' ⟨⟩
    exact hv
  | reset => exact latchInRange_of_kept h (.inl rfl)
  | _ =>
    exact latchInRange_of_kept h
      (.inr (by simp [Machine.addCause, modGroupCounters, beginAcquisition, doResetChannels, okay]))

theorem Shift.keeps_delays (k : Shift P s t) (htable : TableComplete s) (hpresents : ∀ b, PresentsInRange (s.bdu.branches.get b))
    (h : ∀ b, DelayInRange (s.bdu.branches.get b)) : ∀ b, DelayInRange (t.bdu.branches.get b) := by
  cases k with
  | aside k => rwa [k.branches]
  | consume v =>
    intro b
    rw [consumeLatch_branch]
    split
    · exact h b
    · exact h b
  | windows ds k =>
    intro b
    obtain ⟨w, hw, -⟩ := k b
    change DelayInRange (ds.get b)
    rw [hw]
    exact h b
  | openWindow c first => exact forall_get_set h c (d := { s.bdu.branches.get c with window := some (newWindow first) }) (h c)
  | decide c kind =>
    rw [decideClosure_branches]
    refine forall_get_set h c ?_
    rintro x ⟨⟩
    exact decisionOf_delay_in_range htable (closureMove_in_range kind (hpresents c))
  | addCause b c => exact changeCauses_delays h b _
  | plant b l => exact changeCauses_delays h b _
  | unblock b => exact changeCauses_delays h b _
  | fail g c => exact changeCauses_delays (by simpa using h) _ _
  | halt c b g f hrun => simp [enterHalted_branches _ _ _ _ _ (.inr hrun), DelayInRange, leaveRunDemand]
  | quit c ha => simp [enterHalted_branches _ _ _ _ _ (.inl ha), DelayInRange, leaveRunDemand]
  | lock n => simp [DelayInRange, runDemand]
  | disable =>
    by_cases hstill : s.oc.device = .unset ∨ s.oc.device = .ready
    · rwa [disableDevice_still s hstill]
    · obtain ⟨hunset, hready⟩ := not_or.mp hstill
      simp [(disableDevice_disables s hunset hready).branch, DelayInRange, leaveRunDemand]
  | configure c x => simpa using forall_get_set h c (d := { s.bdu.branches.get c with settings := x }) (h c)
  | reset => simp [DelayInRange, DemandUnit.reset, BranchDemand.reset]
  | _ => simpa [modGroupCounters, beginAcquisition, doResetChannels, okay] using h

theorem Shift.keeps_decisionsInRange (k : Shift P s t) (h : DecisionsInRange s) : DecisionsInRange t := by
  rw [decisionsInRange_iff] at h ⊢
  obtain ⟨⟨hpresents, hlatch⟩, htable, hdelays⟩ := h
  exact ⟨⟨k.keeps_presents hlatch hpresents, k.keeps_latchInRange hlatch⟩, k.keeps_tableComplete htable,
    k.keeps_delays htable hpresents hdelays⟩

end

/-- Settles O55: each bound is kept by every small change a step is made of. -/
theorem boundsAreKept : Obligations.BoundsAreKept :=
  ⟨kept_by_step (fun _ _ h => h) fun _ _ k => k.keeps_eventCountsBounded,
    kept_by_step (fun _ _ h => h) fun _ _ k => k.keeps_periodsInBand,
    kept_by_step (fun _ _ h => h) fun _ _ k => k.keeps_countersBounded,
    kept_by_step (fun _ _ h => h) fun _ _ k => k.keeps_decisionsInRange,
    kept_by_step (fun _ _ h => h) fun _ _ k => k.keeps_chainsAgree,
    kept_by_step (fun _ _ h => h) fun _ _ k => k.keeps_trackingInRange⟩

/-! ## Right after reset -/

theorem branchIdle_reset (b : Branch) : BranchIdle .reset b := by
  simp [BranchIdle, State.reset, Tracker.reset, Track.reset, DemandUnit.reset, BranchDemand.reset, ValveControl.reset]

theorem reset_not_run : State.reset.oc.device ≠ .run := by decide

theorem tableComplete_reset : TableComplete .reset := by simp [TableComplete, State.reset]

theorem countersBounded_reset : CountersBounded .reset :=
  ⟨fun b a ha => by simp [(branchIdle_reset b).1] at ha, fun b d hd => by simp [State.reset, ValveControl.reset, Firing.clear] at hd,
    tableComplete_reset⟩

theorem decisionsInRange_reset : DecisionsInRange .reset := by
  refine ⟨⟨fun b => ?_, by simp [State.reset, PlantInterface.reset]⟩, tableComplete_reset, fun b => ?_⟩ <;>
    simp [State.reset, DemandUnit.reset, BranchDemand.reset, BranchSettings.reset]

/-- Settles O57: the device is in UNSET, with nothing running, configured, armed or recorded. -/
theorem invariantsHoldAtReset : Obligations.InvariantsHoldAtReset :=
  ⟨⟨by decide, by decide⟩,
    by simp [EventCountsBounded, State.reset, Supervisory.reset, noEvents],
    resetMap_injective,
    by simp [FailedGroupBlocks, State.reset, ValveControl.reset, GroupState.reset],
    by simp [RingOrdered, State.reset, History.reset],
    ⟨tableComplete_reset, by decide⟩,
    fun _ => branchIdle_reset,
    fun h => absurd rfl h,
    periodsInBand_of_left reset_not_run,
    countersBounded_reset,
    decisionsInRange_reset,
    by simp [ChainsAgree, State.reset, SampleLink.reset, statusOf],
    blockedIsQuiet_of_left reset_not_run,
    by simp [TrackingInRange, State.reset, Tracker.reset, SyncSettings.reset],
    ⟨fun _ => branchIdle_reset, fun b w hw => by simp [(branchIdle_reset b).2.1] at hw⟩,
    fun b x hx => by simp [(branchIdle_reset b).2.2.2.2.2, Firing.clear] at hx⟩

end Sys2Proof.Machine

/-! The moves of the device state (1.1), and the settings that stand while it is started (R64, R97, R102). -/

namespace Sys2Proof.Machine

open Safety

section
variable {P : Act → Prop} {s t : State}

/-! ## One small change and the device state -/

/-- The ways a small change bears on the device state, with the act that permits each. -/
inductive DeviceShift (P : Act → Prop) (s t : State) : Prop where
  | stands (hdevice : t.oc.device = s.oc.device) (hhalt : t.oc.halt = s.oc.halt) (htrip : t.oc.tripRequest = s.oc.tripRequest)
  | locks (n : Nominal) (hs : s.oc.device = .acquire) (h : t = Machine.lock n s) (hp : P .lock)
  | quits (c : HaltCause) (hs : s.oc.device = .acquire) (ht : t.oc.device = .halted) (hcause : t.oc.halt.cause = c)
      (htrip : t.oc.tripRequest = false) (hp : P (.quit c))
  | halts (hs : s.oc.device = .run) (ht : t.oc.device = .halted) (htrip : t.oc.tripRequest = true)
      (hcause : t.oc.halt.cause = .syncLost ∧ P .lose ∨
        t.oc.halt.cause = .valveFailed ∧ P .fail ∧ s.vlc.settings.tripOnBlock = true)
  | enables (hs : s.oc.device = .ready) (ht : t.oc.device = .acquire) (hp : P (.request .enable))
  | disables (hs : s.oc.device ≠ .unset) (ht : t.oc.device = .ready) (hp : P (.request .disable))
  | readies (hs : s.oc.device = .unset) (ht : t.oc.device = .ready)
      (hp : P .evaluate ∧ configured s = true ∨ P (.request .loadTable) ∨ P (.request .setBranch))
  | resets (ht : t.oc.device = .unset) (hp : P .reset)

theorem evaluateConfiguration_device {u : State}
    (hp : P .evaluate ∧ configured s = true ∨ P (.request .loadTable) ∨ P (.request .setBranch) ∨ configured u = false)
    (hu : u.oc = s.oc) : DeviceShift P s (evaluateConfiguration u) := by
  obtain e | ⟨hunset, hc, e⟩ := evaluateConfiguration_oc u
  · exact .stands (by rw [e, hu]) (by rw [e, hu]) (by rw [e, hu])
  · rw [hu] at hunset
    refine .readies hunset (by rw [e]) ?_
    obtain h | h | h | h := hp
    · exact .inl h
    · exact .inr (.inl h)
    · exact .inr (.inr h)
    · simp [hc] at h

theorem Shift.device (k : Shift P s t) : DeviceShift P s t := by
  cases k with
  | aside k => exact .stands (by rw [k.oc]) (by rw [k.oc]) (by rw [k.oc])
  | lock n ha hp => exact .locks n ha rfl hp
  | quit c ha hp =>
    have hoc := enterHalted_oc c none none none s (.inl ha)
    exact .quits c ha (by rw [hoc]) (by rw [hoc]) (by rw [hoc]; simp [trips, ha]) hp
  | halt c b g f hrun hc =>
    have hoc := enterHalted_oc c b g f s (.inr hrun)
    have htrip : trips s.oc.device c = true := by obtain ⟨rfl, -⟩ | ⟨rfl, -⟩ := hc <;> simp [trips, hrun]
    exact .halts hrun (by rw [hoc]) (by rw [hoc]; exact htrip) (by rwa [hoc])
  | enable hr hp => exact .enables hr rfl hp
  | disable hp =>
    by_cases hstill : s.oc.device = .unset ∨ s.oc.device = .ready
    · rw [disableDevice_still s hstill]
      exact .stands rfl rfl rfl
    · obtain ⟨hunset, hready⟩ := not_or.mp hstill
      exact .disables hunset (by rw [(disableDevice_disables s hunset hready).oc]) hp
  | evaluate hp =>
    by_cases hc : configured s = true
    · exact evaluateConfiguration_device (.inl ⟨hp, hc⟩) rfl
    · exact evaluateConfiguration_device (.inr (.inr (.inr (by simpa using hc)))) rfl
  | load l _ _ _ hp => exact evaluateConfiguration_device (.inr (.inl hp)) rfl
  | configure b x _ _ hp => exact evaluateConfiguration_device (.inr (.inr (.inl hp))) rfl
  | reset hr k n _ hp => exact .resets rfl hp
  | _ =>
    exact .stands (by simp [Machine.addCause, openTransaction, modGroupCounters, doResetChannels, okay])
      (by simp [Machine.addCause, openTransaction, modGroupCounters, doResetChannels, okay])
      (by simp [Machine.addCause, openTransaction, modGroupCounters, doResetChannels, okay])

/-! ## What stands through a run -/

theorem evaluateConfiguration_configured (s : State) : configured (evaluateConfiguration s) = configured s :=
  configured_congr (by simp) (by simp)

/-- Only a request that bears on the configuration, or a reset, changes whether the device is configured. -/
theorem Shifts.configured_stands (h : Shifts P s t) (hload : ¬ P (.request .loadTable)) (hset : ¬ P (.request .setBranch))
    (hreset : ¬ P .reset) : configured t = configured s := by
  induction h with
  | refl => rfl
  | tail _ hlast ih =>
    rw [← ih]
    obtain k | k := hlast.reconfigures_or_stands
    · cases k with
      | evaluate => exact evaluateConfiguration_configured _
      | load _ _ _ _ hp => exact absurd hp hload
      | configure _ _ _ hp => exact absurd hp hset
      | reset _ _ _ hp => exact absurd hp hreset
    · exact k.configured

theorem Shift.valveSettings_stand (k : Shift P s t) (hset : ¬ P (.request .setValve)) (hreset : ¬ P .reset) :
    t.vlc.settings = s.vlc.settings := by
  cases k with
  | aside k => exact k.valveSettings
  | setValve _ hp => exact absurd hp hset
  | reset _ _ _ _ hp => exact absurd hp hreset
  | lock n ha hp => simp
  | _ => simp [Machine.addCause, openTransaction, modGroupCounters, doResetChannels, okay, beginAcquisition]

theorem Shifts.valveSettings_stand (h : Shifts P s t) (hset : ¬ P (.request .setValve)) (hreset : ¬ P .reset) :
    t.vlc.settings = s.vlc.settings := by
  induction h with
  | refl => rfl
  | tail _ hlast ih => rw [hlast.valveSettings_stand hset hreset, ih]

/-! ## A device at work -/

/-- The acts of no request, evaluation or reset. -/
def Holding (P : Act → Prop) : Prop := ¬ P .evaluate ∧ ¬ P .reset ∧ ∀ k, ¬ P (.request k)

/-- Where such acts take a device that does not lock: nowhere, or to HALTED. -/
inductive HoldingMove (P : Act → Prop) (s t : State) : Prop where
  | stands (hdevice : t.oc.device = s.oc.device)
  | quits (c : HaltCause) (hs : s.oc.device = .acquire) (ht : t.oc.device = .halted) (hcause : t.oc.halt.cause = c)
      (htrip : t.oc.tripRequest = false) (hp : P (.quit c))
  | halts (hs : s.oc.device = .run) (ht : t.oc.device = .halted) (htrip : t.oc.tripRequest = true)
      (hcause : t.oc.halt.cause = .syncLost ∧ P .lose ∨
        t.oc.halt.cause = .valveFailed ∧ P .fail ∧ s.vlc.settings.tripOnBlock = true)

/-- A device halted by a run stays as the run left it. -/
theorem Shift.halted_stands (k : Shift P s t) (hw : Holding P) (hs : s.oc.device = .halted) :
    t.oc.device = .halted ∧ t.oc.halt = s.oc.halt ∧ t.oc.tripRequest = s.oc.tripRequest := by
  obtain ⟨-, hreset, hrequest⟩ := hw
  cases k.device with
  | stands hdevice hhalt htrip => exact ⟨hdevice.trans hs, hhalt, htrip⟩
  | locks _ ha | quits _ ha | halts ha | enables ha | readies ha => exact absurd (ha.symm.trans hs) (by simp)
  | disables _ _ hp => exact absurd hp (hrequest _)
  | resets _ hp => exact absurd hp hreset

theorem Shifts.holdingMove (h : Shifts P s t) (hw : Holding P) (hlock : P .lock → s.oc.device ≠ .acquire) :
    HoldingMove P s t := by
  induction h with
  | refl => exact .stands rfl
  | @tail u t hrun hlast ih =>
    obtain ⟨hevaluate, hreset, hrequest⟩ := id hw
    cases ih with
    | stands he =>
      cases hlast.device with
      | stands hdevice => exact .stands (hdevice.trans he)
      | locks _ ha _ hp => exact absurd (he ▸ ha) (hlock hp)
      | quits c ha ht hcause htrip hp => exact .quits c (he ▸ ha) ht hcause htrip hp
      | halts ha ht htrip hcause =>
        rw [Shifts.valveSettings_stand hrun (hrequest _) hreset] at hcause
        exact .halts (he ▸ ha) ht htrip hcause
      | enables _ _ hp | disables _ _ hp => exact absurd hp (hrequest _)
      | readies _ _ hp =>
        obtain ⟨hp, -⟩ | hp | hp := hp
        · exact absurd hp hevaluate
        · exact absurd hp (hrequest _)
        · exact absurd hp (hrequest _)
      | resets _ hp => exact absurd hp hreset
    | quits c hs hu hcause htrip hp =>
      obtain ⟨ht, hhalt, htrip'⟩ := hlast.halted_stands hw hu
      exact .quits c hs ht (hhalt ▸ hcause) (htrip' ▸ htrip) hp
    | halts hs hu htrip hcause =>
      obtain ⟨ht, hhalt, htrip'⟩ := hlast.halted_stands hw hu
      exact .halts hs ht (htrip' ▸ htrip) (hhalt ▸ hcause)

/-! ## A request -/

/-- Where a request of kind `k` takes the device. -/
inductive ServedMove (k : RequestKind) (s t : State) : Prop where
  | stands (hdevice : t.oc.device = s.oc.device)
  | readies (hs : s.oc.device = .unset) (ht : t.oc.device = .ready)
      (hk : configured s = true ∧ k ≠ .enable ∨ k = .loadTable ∨ k = .setBranch)
  | enables (hs : s.oc.device = .ready) (ht : t.oc.device = .acquire) (hk : k = .enable)
  | disables (hs : s.oc.device ≠ .unset) (ht : t.oc.device = .ready) (hk : k = .disable)
  | halts (hs : s.oc.device = .run) (ht : t.oc.device = .halted) (hcause : t.oc.halt.cause = .valveFailed)
      (htrip : s.vlc.settings.tripOnBlock = true) (hk : k = .resetGroup)

theorem Shifts.servedMove {k : RequestKind} (h : Shifts (serving k) s t) : ServedMove k s t := by
  induction h with
  | refl => exact .stands rfl
  | @tail u t hrun hlast ih =>
    cases ih with
    | stands he =>
      cases hlast.device with
      | stands hdevice => exact .stands (hdevice.trans he)
      | locks _ _ _ hp | quits _ _ _ _ _ hp | resets _ hp => exact absurd hp id
      | enables ha ht hp => exact .enables (he ▸ ha) ht hp.symm
      | disables ha ht hp => exact .disables (he ▸ ha) ht hp.symm
      | readies ha ht hp =>
        refine .readies (he ▸ ha) ht ?_
        by_cases hk : k = .loadTable ∨ k = .setBranch
        · exact .inr hk
        · obtain ⟨hload, hset⟩ := not_or.mp hk
          rw [Shifts.configured_stands hrun (fun e => hload e.symm) (fun e => hset e.symm) id] at hp
          exact hp.imp (fun e => ⟨e.2, e.1.2⟩) (Or.imp Eq.symm Eq.symm)
      | halts ha ht htrip hcause =>
        obtain ⟨-, hp⟩ | ⟨hcause, hk, hblock⟩ := hcause
        · exact absurd hp id
        · have hk : k = .resetGroup := hk
          subst hk
          rw [Shifts.valveSettings_stand hrun nofun id] at hblock
          exact .halts (he ▸ ha) ht hcause hblock rfl
    | readies hs hu hk =>
      cases hlast.device with
      | stands hdevice => exact .readies hs (hdevice.trans hu) hk
      | locks _ _ _ hp | quits _ _ _ _ _ hp | resets _ hp => exact absurd hp id
      | enables _ _ hp =>
        obtain ⟨-, hne⟩ | rfl | rfl := hk
        · exact absurd hp.symm hne
        · exact absurd hp nofun
        · exact absurd hp nofun
      | disables ha ht hp => exact .readies hs ht hk
      | readies ha | halts ha => exact absurd (ha.symm.trans hu) (by simp)
    | enables hs hu hk =>
      subst hk
      cases hlast.device with
      | stands hdevice => exact .enables hs (hdevice.trans hu) rfl
      | locks _ _ _ hp | quits _ _ _ _ _ hp | resets _ hp => exact absurd hp id
      | disables _ _ hp => exact absurd hp nofun
      | enables ha | readies ha | halts ha => exact absurd (ha.symm.trans hu) (by simp)
    | disables hs hu hk =>
      subst hk
      cases hlast.device with
      | stands hdevice => exact .disables hs (hdevice.trans hu) rfl
      | locks _ _ _ hp | quits _ _ _ _ _ hp | resets _ hp => exact absurd hp id
      | enables _ _ hp => exact absurd hp nofun
      | disables ha ht => exact .disables hs ht rfl
      | readies ha | halts ha => exact absurd (ha.symm.trans hu) (by simp)
    | halts hs hu hcause htrip hk =>
      subst hk
      cases hlast.device with
      | stands hdevice hhalt => exact .halts hs (hdevice.trans hu) (hhalt ▸ hcause) htrip rfl
      | locks _ _ _ hp | quits _ _ _ _ _ hp | resets _ hp => exact absurd hp id
      | disables _ _ hp => exact absurd hp nofun
      | enables ha | readies ha | halts ha => exact absurd (ha.symm.trans hu) (by simp)

end

end Sys2Proof.Machine

/-! A frame of the sample link from ACQUIRE on: it locks, or ends the acquisition in failure, and halts for no other cause (R52, R53). -/

namespace Sys2Proof.Machine

open Safety

section
variable {P : Act → Prop} {s t : State}

/-! ## A device that has just locked -/

/-- RUN with no counter at its top and no transaction open, as a lock leaves it. -/
structure Fresh (s : State) : Prop where
  run : s.oc.device = .run
  below : ∀ b a, (s.ct.tracks.get b).counter = some a → a.count < topCount s
  closed : ∀ b, (s.vlc.firing.get b).transaction = none

theorem fresh_lock (n : Nominal) : Fresh (lock n s) where
  run := by simp
  below b a ha := absurd ha (by simp [lockTrack])
  closed b := by simp [Firing.clear]

/-- A change that leaves the device, the tracking and the transactions. -/
theorem fresh_of_stands (h : Fresh s) (hoc : t.oc.device = s.oc.device) (hsettings : t.ct.settings = s.ct.settings)
    (htracks : ∀ b, (t.ct.tracks.get b).counter = (s.ct.tracks.get b).counter)
    (hfiring : ∀ b, (s.vlc.firing.get b).transaction = none → (t.vlc.firing.get b).transaction = none) : Fresh t where
  run := hoc.trans h.run
  below b a ha := by
    rw [topCount, hsettings]
    exact h.below b a (htracks b ▸ ha)
  closed b := hfiring b (h.closed b)

/-- What a frame does that brings no closure, loss or failure. -/
def acquiring : Act → Prop
  | .counter _ | .lock | .quit .acquireFailed | .quit .phaseOrder => True
  | _ => False

theorem topCount_congr (h : t.ct.settings = s.ct.settings) : topCount t = topCount s := by rw [topCount, topCount, h]

theorem Shift.keeps_fresh (k : Shift acquiring s t) (h : Fresh s) : Fresh t := by
  have hclosed (b : Branch) : (t.vlc.firing.get b).transaction = none := by
    refine Option.eq_none_iff_forall_ne_some.mpr fun x hx => ?_
    obtain ⟨x₀, hx₀, -⟩ | ⟨hp, -⟩ := k.transactionsKept b x hx
    · simp [h.closed b] at hx₀
    · exact hp
  have hstands (hoc : t.oc.device = s.oc.device) (hsettings : t.ct.settings = s.ct.settings)
      (htracks : ∀ b, (t.ct.tracks.get b).counter = (s.ct.tracks.get b).counter) : Fresh t :=
    ⟨hoc.trans h.run, fun b a ha => by rw [topCount_congr hsettings]; exact h.below b a (htracks b ▸ ha), hclosed⟩
  cases k with
  | aside k => exact hstands (by rw [k.oc]) k.syncSettings (by simp [k.tracks])
  | tracks ts _ hp =>
    refine ⟨h.run, fun b a ha => ?_, hclosed⟩
    obtain ⟨hsame, -⟩ | ⟨-, hbelow | hclimb⟩ := hp b
    · exact h.below b a (hsame ▸ ha)
    · exact hbelow a ha
    · exact absurd hclimb id
  | count b n _ _ ht =>
    refine ⟨h.run, fun c a ha => ?_, hclosed⟩
    by_cases e : c = b
    · subst e
      obtain ⟨a₀, ha₀, rfl⟩ : ∃ a₀, (s.ct.tracks.get c).counter = some a₀ ∧ (if a₀.count < n then ⟨n, 0⟩ else a₀) = a := by
        simpa [reachCount] using ha
      split
      · exact ht.resolve_right id
      · exact h.below c a₀ ha₀
    · exact h.below c a (by simpa [reachCount, PerBranch.get_set_ne _ _ _ _ e] using ha)
  | halt c b g f _ hc =>
    obtain ⟨-, hp⟩ | ⟨-, hp, -⟩ := hc <;> exact absurd hp id
  | lock _ ha | quit _ ha => exact absurd (ha.symm.trans h.run) (by simp)
  | fail _ _ _ hp | evaluate hp | enable _ hp | disable hp | setSync _ _ _ hp | load _ _ _ _ hp | configure _ _ _ _ hp
  | resetChannels hp | reset _ _ _ _ hp => exact absurd hp id
  | _ => exact hstands (by simp [openTransaction, modGroupCounters]) (by simp [openTransaction, modGroupCounters])
           (by simp [openTransaction, modGroupCounters])

/-- How a frame leaves a device it found in ACQUIRE. -/
def Acquiring (s : State) : Prop :=
  s.oc.device = .acquire ∨ Fresh s ∨ s.oc.device = .halted ∧ (s.oc.halt.cause = .acquireFailed ∨ s.oc.halt.cause = .phaseOrder)

theorem Shift.keeps_acquiring (k : Shift acquiring s t) (h : Acquiring s) : Acquiring t := by
  obtain h | h | ⟨hhalted, hcause⟩ := h
  · cases k.device with
    | stands hdevice => exact .inl (hdevice.trans h)
    | locks n _ e => exact .inr (.inl (e ▸ fresh_lock n))
    | quits c _ ht hcause _ hp =>
      refine .inr (.inr ⟨ht, ?_⟩)
      cases c with
      | acquireFailed => exact .inl hcause
      | phaseOrder => exact .inr hcause
      | _ => exact absurd hp id
    | halts ha | enables ha | readies ha => exact absurd (ha.symm.trans h) (by simp)
    | disables _ _ hp | resets _ hp => exact absurd hp id
  · exact .inr (.inl (k.keeps_fresh h))
  · cases k.device with
    | stands hdevice hhalt => exact .inr (.inr ⟨hdevice.trans hhalted, hhalt ▸ hcause⟩)
    | locks _ ha | quits _ ha | halts ha | enables ha | readies ha => exact absurd (ha.symm.trans hhalted) (by simp)
    | disables _ _ hp | resets _ hp => exact absurd hp id

theorem Shifts.keeps_acquiring (k : Shifts acquiring s t) (h : Acquiring s) : Acquiring t := by
  induction k with
  | refl => exact h
  | tail _ hlast ih => exact hlast.keeps_acquiring ih

/-- No counter of such a device stands at its top, so no closure comes before a delivery. -/
theorem closeBeforeDelivery_of_acquiring (used : PerQuantity Half) (h : Acquiring s) : Aside s (closeBeforeDelivery used s) := by
  have hnone : Branch.all.filter (closesBefore used s) = [] := by
    refine List.filter_eq_nil_iff.mpr fun b _ hb => ?_
    obtain ⟨hruns, htop⟩ : counterRuns s b = true ∧ topCount s ≤ countOf s b := by
      simp only [closesBefore, Bool.and_eq_true, decide_eq_true_eq] at hb
      exact hb.1
    have hrun := counterRuns_run hruns
    obtain h | h | ⟨h, -⟩ := h
    · exact absurd (hrun.symm.trans h) (by simp)
    · obtain ⟨a, ha⟩ : ∃ a, (s.ct.tracks.get b).counter = some a := by
        simpa [counterRuns, hrun, Option.isSome_iff_exists] using hruns
      have hcount : countOf s b = a.count := by simp [countOf, ha]
      exact absurd (h.below b a ha) (by omega)
    · exact absurd (hrun.symm.trans h) (by simp)
  rw [closeBeforeDelivery, hnone]
  exact takePicks_aside 0

theorem FrameStep.keeps_acquiring (k : FrameStep s t) (h : Acquiring s) : Acquiring t := by
  cases k with
  | shift k => exact (k.mono fun _ => False.elim).keeps_acquiring h
  | before used => exact (Shift.aside (closeBeforeDelivery_of_acquiring used h)).keeps_acquiring h
  | watch b now =>
    refine (watchVoltage_shifts (fun _ => trivial) trivial trivial trivial b now (.inr fun hrun => ?_)).keeps_acquiring h
    obtain h | h | ⟨h, -⟩ := h
    · exact absurd (hrun.symm.trans h) (by simp)
    · exact h.closed b
    · exact absurd (hrun.symm.trans h) (by simp)

theorem FrameSteps.keeps_acquiring (k : FrameSteps s t) (h : Acquiring s) : Acquiring t := by
  induction k with
  | refl => exact h
  | tail _ hlast ih => exact hlast.keeps_acquiring ih

end

end Sys2Proof.Machine

/-! The table of the device state's moves (1.1), and what it makes stand while the device is started (R64, R97, R102). -/

namespace Sys2Proof.Machine

open Safety

section
variable {P : Act → Prop} {s t : State}

/-! ## What one command may do -/

theorem kindCode_injective {j k : RequestKind} (h : kindCode j = kindCode k) : j = k := by
  have := congrArg kindOf h
  simpa using this

theorem asks_unique {c : Instr} {j k : RequestKind} (hj : Asks s c j) (hk : Asks s c k) : j = k := by
  cases c with
  | requestFrame frame => exact kindCode_injective (Option.some_inj.mp (hj.symm.trans hk))
  | characterWhileAnswering x => exact kindCode_injective (Option.some_inj.mp (hj.2.symm.trans hk.2))
  | _ => exact Option.some_inj.mp (hj.symm.trans hk)

/-- A command that brings a request does nothing of its own. -/
theorem working_of_asks {c : Instr} {k : RequestKind} {a : Act} (h : Asks s c k) : ¬ working c a := by
  cases c with
  | requestFrame | characterWhileAnswering => exact id
  | _ => simp [Asks, requestOf, working] at h ⊢

/-- What a command may do is what its request may, or what its row may. -/
theorem permitted_cases (s : State) (c : Instr) :
    (∃ k, Asks s c k ∧ ∀ a, permitted s c a → serving k a) ∨ ∀ a, permitted s c a → working c a := by
  by_cases h : ∃ k, Asks s c k
  · obtain ⟨k, hk⟩ := h
    refine .inl ⟨k, hk, ?_⟩
    rintro a (⟨j, hj, ha⟩ | ha)
    · exact asks_unique hj hk ▸ ha
    · exact absurd ha (working_of_asks hk)
  · refine .inr ?_
    rintro a (⟨j, hj, -⟩ | ha)
    · exact absurd ⟨j, hj⟩ h
    · exact ha

/-- A command completes as a run of its request's changes, or of its row's. -/
theorem exec_serves_or_works {c : Instr} (hwell : wellFormed c = true) (h : exec c s = .next t) :
    (∃ k, Asks s c k ∧ Shifts (serving k) s t) ∨ Shifts (working c) s t := by
  obtain ⟨u, hu, hrun⟩ := exec_runs (s := s) c hwell
  obtain rfl : u = t := by simpa using hu.symm.trans h
  exact (permitted_cases s c).imp (fun ⟨k, hk, hle⟩ => ⟨k, hk, hrun.mono hle⟩) fun hle => hrun.mono hle

theorem working_of_reset {c : Instr} {a : Act} (hc : c ∈ resetRows) (h : working c a) : a = .reset := by
  simp only [resetRows, List.mem_cons, List.not_mem_nil, or_false] at hc
  obtain rfl | rfl | rfl | rfl | rfl | rfl := hc <;> exact h

theorem working_holding {c : Instr} (hc : c ∉ resetRows) : Holding (working c) := by
  cases c with
  | powerOn | supplyDip | resetLine | resetLineRelease | supplyRecovery | replySent => exact absurd (by decide) hc
  | _ => simp [Holding, working, framing, synthesising, marking]

theorem working_lock {c : Instr} (h : working c .lock) : bringsFrame c = true := by
  cases c with
  | dataFrame => rfl
  | _ => simp [working, synthesising, marking] at h

theorem working_quit {c : Instr} {x : HaltCause} (hframe : bringsFrame c ≠ true) (h : working c (.quit x)) :
    c = .acquireTimeout ∧ x = .acquireTimeout := by
  cases c with
  | dataFrame => exact absurd rfl hframe
  | acquireTimeout => exact ⟨rfl, by simpa [working] using h⟩
  | _ => simp [working, synthesising, marking] at h

theorem working_lose {c : Instr} (h : working c .lose) : (∃ b, c = .crossingSynthesized b) ∨ bringsFrame c = true := by
  cases c with
  | dataFrame => exact .inr rfl
  | crossingSynthesized b => exact .inl ⟨b, rfl⟩
  | _ => simp [working, marking] at h

theorem working_fail {c : Instr} (h : working c .fail) : mayFailGroup c = true := by
  cases c with
  | dataFrame | crossingSynthesized | guardExpiry | retry | refused | status | channelSilent => rfl
  | _ => simp [working] at h

/-! ## The table of 1.1, by commands -/

/-- A move of the device that the table gives, with its cause where the configuration is what the device state says it is. -/
def MovesBy (c : Instr) (s t : State) : Prop :=
  DeviceMoves s.oc.device t.oc.device ∧ (ConfiguredOutsideUnset s → s.oc.device ≠ t.oc.device → MoveCause s c t)

theorem deviceMoves_refl (d : DeviceState) : DeviceMoves d d := by cases d <;> trivial

theorem movesBy_of_stands {c : Instr} (h : t.oc.device = s.oc.device) : MovesBy c s t :=
  ⟨h ▸ deviceMoves_refl _, fun _ hne => absurd h.symm hne⟩

theorem movesBy_served {c : Instr} {k : RequestKind} (hk : Asks s c k) (h : ServedMove k s t) : MovesBy c s t := by
  cases h with
  | stands hdevice => exact movesBy_of_stands hdevice
  | readies hs ht hcause =>
    refine ⟨by rw [hs, ht]; trivial, fun hconfigured _ => ?_⟩
    rw [MoveCause, hs, ht]
    obtain ⟨hc, -⟩ | rfl | rfl := hcause
    · exact absurd hs (hconfigured.2.mpr hc)
    · exact .inl hk
    · exact .inr hk
  | enables hs ht hcause =>
    subst hcause
    exact ⟨by rw [hs, ht]; trivial, fun _ _ => by rw [MoveCause, hs, ht]; exact hk⟩
  | disables hs ht hcause =>
    subst hcause
    refine ⟨?_, fun _ hne => ?_⟩
    · rw [ht]
      cases hd : s.oc.device with
      | unset => exact absurd hd hs
      | _ => trivial
    · rw [MoveCause, ht]
      cases hd : s.oc.device with
      | unset => exact absurd hd hs
      | _ => exact hk
  | halts hs ht hcause htrip hk' =>
    subst hk'
    refine ⟨by rw [hs, ht]; trivial, fun _ _ => ?_⟩
    rw [MoveCause, hs, ht]
    exact .inr ⟨hcause, htrip, .inr hk⟩

theorem movesBy_reset {c : Instr} (hc : c ∈ resetRows) (h : Shifts (working c) s t) : MovesBy c s t := by
  have hmoves : t.oc.device = s.oc.device ∨ t.oc.device = .unset := by
    induction h with
    | refl => exact .inl rfl
    | tail _ hlast ih =>
      cases hlast.device with
      | stands hdevice => exact hdevice ▸ ih
      | resets ht => exact .inr ht
      | locks _ _ _ hp | quits _ _ _ _ _ hp | enables _ _ hp | disables _ _ hp => exact absurd (working_of_reset hc hp) nofun
      | halts _ _ _ hp =>
        obtain ⟨-, hp⟩ | ⟨-, hp, -⟩ := hp <;> exact absurd (working_of_reset hc hp) nofun
      | readies _ _ hp =>
        obtain ⟨hp, -⟩ | hp | hp := hp <;> exact absurd (working_of_reset hc hp) nofun
  obtain h | h := hmoves
  · exact movesBy_of_stands h
  · refine ⟨?_, fun _ _ => ?_⟩
    · rw [h]
      cases s.oc.device <;> trivial
    · rw [MoveCause, h]
      cases s.oc.device <;> exact hc

/-- A frame that finds the device in ACQUIRE. -/
theorem movesBy_acquiring {c : Instr} (hs : s.oc.device = .acquire) (hframe : bringsFrame c = true) (h : Acquiring t) :
    MovesBy c s t := by
  obtain h | h | ⟨h, hcause⟩ := h
  · exact movesBy_of_stands (h.trans hs.symm)
  · exact ⟨by rw [hs, h.run]; trivial, fun _ _ => by rw [MoveCause, hs, h.run]; exact hframe⟩
  · exact ⟨by rw [hs, h]; trivial, fun _ _ => by rw [MoveCause, hs, h]; exact .inr ⟨hframe, hcause⟩⟩

/-- Any other run of a row's own changes. -/
theorem movesBy_holding {c : Instr} (hframe : bringsFrame c = true → s.oc.device ≠ .acquire) (h : HoldingMove (working c) s t) :
    MovesBy c s t := by
  cases h with
  | stands hdevice => exact movesBy_of_stands hdevice
  | quits x hs ht hcause _ hp =>
    obtain ⟨hrow, rfl⟩ := working_quit (fun hbrings => hframe hbrings hs) hp
    exact ⟨by rw [hs, ht]; trivial, fun _ _ => by rw [MoveCause, hs, ht]; exact .inl ⟨hrow, hcause⟩⟩
  | halts hs ht _ hcause =>
    refine ⟨by rw [hs, ht]; trivial, fun _ _ => ?_⟩
    rw [MoveCause, hs, ht]
    exact hcause.imp (fun ⟨hsync, hp⟩ => ⟨hsync, working_lose hp⟩) fun ⟨hvalve, hp, hblock⟩ => ⟨hvalve, hblock, .inl (working_fail hp)⟩

theorem exec_movesBy {c : Instr} (hwell : wellFormed c = true) (h : exec c s = .next t) : MovesBy c s t := by
  obtain ⟨k, hk, hserved⟩ | hworked := exec_serves_or_works hwell h
  · exact movesBy_served hk (Shifts.servedMove hserved)
  · by_cases hreset : c ∈ resetRows
    · exact movesBy_reset hreset hworked
    · by_cases hacquire : bringsFrame c = true ∧ s.oc.device = .acquire
      · obtain ⟨hframe, hs⟩ := hacquire
        obtain ⟨header, words, rfl⟩ : ∃ header words, c = .dataFrame header words := by
          cases c with
          | dataFrame header words => exact ⟨header, words, rfl⟩
          | _ => exact absurd hframe (by simp [bringsFrame])
        obtain rfl : running (takeLinkFrame header words) s = t := by injection h
        refine movesBy_acquiring hs hframe ?_
        unfold running
        split
        · exact .inl hs
        · exact (takeLinkFrame_steps header words).keeps_acquiring (.inl hs)
      · have hleft (hframe : bringsFrame c = true) : s.oc.device ≠ .acquire := fun hs => hacquire ⟨hframe, hs⟩
        exact movesBy_holding hleft (Shifts.holdingMove hworked (working_holding hreset) fun hp => hleft (working_lock hp))

/-! ## The table of 1.1, by the clock -/

theorem ticking_holding (Q : Branch → Prop) : Holding (ticking Q) := ⟨id, id, fun _ => id⟩

theorem tick_holdingMove (s : State) : HoldingMove (ticking (Busy s)) s (tick s) :=
  Shifts.holdingMove (tick_shifts (s := s)) (ticking_holding _) False.elim

theorem tick_halts (s : State) (hne : s.oc.device ≠ (tick s).oc.device) : (tick s).oc.device = .halted ∧
    ((s.oc.device = .acquire ∧ (tick s).oc.halt.cause = .acquireTimeout ∧ (tick s).oc.tripRequest = false) ∨
      (s.oc.device = .run ∧ ((tick s).oc.halt.cause = .syncLost ∨ (tick s).oc.halt.cause = .valveFailed) ∧
        (tick s).oc.tripRequest = true)) := by
  cases tick_holdingMove s with
  | stands hdevice => exact absurd hdevice.symm hne
  | quits c hs ht hcause htrip hp => exact ⟨ht, .inl ⟨hs, hcause.trans hp, htrip⟩⟩
  | halts hs ht htrip hcause => exact ⟨ht, .inr ⟨hs, hcause.imp And.left And.left, htrip⟩⟩

theorem tick_deviceMoves (s : State) : DeviceMoves s.oc.device (tick s).oc.device := by
  by_cases hne : s.oc.device = (tick s).oc.device
  · exact hne ▸ deviceMoves_refl _
  · obtain ⟨ht, ⟨hs, -⟩ | ⟨hs, -⟩⟩ := tick_halts s hne <;> rw [hs, ht] <;> trivial

end

/-- Settles O58: each command is a run of its request's changes or of its row's, and each such run takes the device along one row of the
table, or nowhere. -/
theorem deviceStateMovesByTheTable : Obligations.DeviceStateMovesByTheTable := by
  unfold Obligations.DeviceStateMovesByTheTable
  refine ⟨fun c s t hwell h => (exec_movesBy hwell h).1, tick_deviceMoves,
    fun c s t hwell hs h hne => (exec_movesBy hwell h).2 hs hne, ?_⟩
  rintro s t rfl hne
  exact tick_halts s hne

end Sys2Proof.Machine

/-! The settings and the table stand while the device is started (R64, R97, R102). -/

namespace Sys2Proof.Machine

open Safety

section
variable {P : Act → Prop} {s t u : State}

/-- The tracking settings and the table are those they were. -/
def SetupStands (s t : State) : Prop := t.ct.settings = s.ct.settings ∧ t.table = s.table

theorem SetupStands.trans (h : SetupStands s t) (k : SetupStands t u) : SetupStands s u :=
  ⟨k.1.trans h.1, k.2.trans h.2⟩

theorem Shift.table_cases (k : Shift P s t) : t.table = s.table ∨
    P (.request .loadTable) ∧ (s.oc.device = .unset ∨ s.oc.device = .ready) ∨ P .reset := by
  obtain k | k := k.reconfigures_or_stands
  · cases k with
    | evaluate => exact .inl (by simp)
    | load l hstill _ _ hp => exact .inr (.inl ⟨hp, hstill⟩)
    | configure => exact .inl (by simp)
    | reset _ _ _ hp => exact .inr (.inr hp)
  · exact .inl k.table

/-- Only SET_SYNC and LOAD_TABLE, in UNSET and READY, and a reset change them. -/
theorem Shift.setup_stands (k : Shift P s t) (hreset : ¬ P .reset)
    (h : (P (.request .setSync) ∨ P (.request .loadTable)) → s.oc.device ≠ .unset ∧ s.oc.device ≠ .ready) : SetupStands s t := by
  refine ⟨?_, ?_⟩
  · obtain e | ⟨hp, hstill, -⟩ | ⟨hp, -⟩ := k.syncSettings_cases
    · exact e
    · exact absurd hstill (not_or.mpr (h (.inl hp)))
    · exact absurd hp hreset
  · obtain e | ⟨hp, hstill⟩ | hp := k.table_cases
    · exact e
    · exact absurd hstill (not_or.mpr (h (.inr hp)))
    · exact absurd hp hreset

theorem Shifts.setup_stands (h : Shifts P s t) (hreset : ¬ P .reset) (hsync : ¬ P (.request .setSync))
    (hload : ¬ P (.request .loadTable)) : SetupStands s t := by
  induction h with
  | refl => exact ⟨rfl, rfl⟩
  | tail _ hlast ih => exact ih.trans (hlast.setup_stands hreset fun hp => absurd hp (not_or.mpr ⟨hsync, hload⟩))

/-- A request changes neither while the device is started: SET_SYNC and LOAD_TABLE do not take it out of its state. -/
theorem Shifts.setup_stands_served {k : RequestKind} (h : Shifts (serving k) s t) (hunset : s.oc.device ≠ .unset)
    (hready : s.oc.device ≠ .ready) : SetupStands s t := by
  induction h with
  | refl => exact ⟨rfl, rfl⟩
  | @tail u t hrun hlast ih =>
    refine ih.trans (hlast.setup_stands id fun hk => ?_)
    have hk : RequestKind.setSync = k ∨ RequestKind.loadTable = k := hk
    have hu : u.oc.device = s.oc.device := by
      cases Shifts.servedMove hrun with
      | stands hdevice => exact hdevice
      | readies hs => exact absurd hs hunset
      | enables hs => exact absurd hs hready
      | disables _ _ he | halts _ _ _ _ he => subst he; exact absurd hk (by simp)
    exact hu ▸ ⟨hunset, hready⟩

/-- A run of resets that does not leave UNSET behind changed nothing. -/
theorem Shifts.setup_stands_reset {c : Instr} (hc : c ∈ resetRows) (h : Shifts (working c) s t) :
    t.oc.device = .unset ∨ SetupStands s t := by
  have honly {a : Act} (hp : working c a) (ha : a ≠ .reset) : False := ha (working_of_reset hc hp)
  induction h with
  | refl => exact .inr ⟨rfl, rfl⟩
  | @tail u t _ hlast ih =>
    obtain hu | hstands := ih
    · left
      cases hlast.device with
      | stands hdevice => exact hdevice.trans hu
      | resets ht => exact ht
      | readies _ _ hp =>
        obtain ⟨hp, -⟩ | hp | hp := hp <;> exact (honly hp nofun).elim
      | locks _ ha | quits _ ha | halts ha | enables ha => exact absurd (ha.symm.trans hu) (by simp)
      | disables ha => exact absurd hu ha
    · obtain e | ⟨hp, -⟩ | ⟨-, hr, k, n, rfl⟩ := hlast.syncSettings_cases
      · obtain k | k := hlast.reconfigures_or_stands
        · cases k with
          | evaluate hp | load _ _ _ _ hp | configure _ _ _ hp => exact (honly hp nofun).elim
          | reset => exact .inl rfl
        · exact .inr (hstands.trans ⟨e, k.table⟩)
      · exact (honly hp nofun).elim
      · exact .inl rfl

theorem working_no_request {c : Instr} {k : RequestKind} : ¬ working c (.request k) := by
  by_cases hc : c ∈ resetRows
  · exact fun h => absurd (working_of_reset hc h) nofun
  · obtain ⟨-, -, hrequest⟩ := working_holding hc
    exact hrequest k

theorem exec_setup_stands {c : Instr} (hwell : wellFormed c = true) (h : exec c s = .next t) (hunset : s.oc.device ≠ .unset)
    (hready : s.oc.device ≠ .ready) (ht : t.oc.device ≠ .unset) : SetupStands s t := by
  obtain ⟨k, -, hserved⟩ | hworked := exec_serves_or_works hwell h
  · exact Shifts.setup_stands_served hserved hunset hready
  · by_cases hc : c ∈ resetRows
    · exact (Shifts.setup_stands_reset hc hworked).resolve_left ht
    · obtain ⟨-, hreset, -⟩ := working_holding hc
      exact Shifts.setup_stands hworked hreset working_no_request working_no_request

end

/-- Settles O59: only SET_SYNC and LOAD_TABLE change them, neither in a started device, and neither takes the device out of
the state it is in. -/
theorem settingsStandWhileStarted : Obligations.SettingsStandWhileStarted := by
  unfold Obligations.SettingsStandWhileStarted
  exact ⟨fun c s t hwell h hunset hready ht => exec_setup_stands hwell h hunset hready ht,
    fun s => Shifts.setup_stands (tick_shifts (s := s)) id id id⟩

end Sys2Proof.Machine

/-! Orders: where a group is ordered or retried, and where a FIRE frame goes (R119). -/

namespace Sys2Proof.Machine

open Safety

section
variable {P : Act → Prop} {s t u : State}

/-! ## What a small change does to the orders -/

/-- The counts of a group's orders and retries have not grown. -/
def OrdersKept (g : Group) (s t : State) : Prop :=
  (t.vlc.groups.get g).counters.orders ≤ (s.vlc.groups.get g).counters.orders ∧
    (t.vlc.groups.get g).counters.retries ≤ (s.vlc.groups.get g).counters.retries

theorem ordersKept_of_groups {g : Group} (h : t.vlc.groups.get g = s.vlc.groups.get g) : OrdersKept g s t := by simp [OrdersKept, h]

theorem ordersKept_of_counters {g : Group} (h : (t.vlc.groups.get g).counters = (s.vlc.groups.get g).counters) :
    OrdersKept g s t := by simp [OrdersKept, h]

theorem clearReadiness_counters (r : GroupState) : (clearReadiness r).counters = r.counters := rfl

/-- One group's items replaced, with counts of orders and retries that have not grown. -/
theorem ordersKept_modGroup (g j : Group) (f : GroupState → GroupState)
    (ho : (f (s.vlc.groups.get j)).counters.orders ≤ (s.vlc.groups.get j).counters.orders)
    (hr : (f (s.vlc.groups.get j)).counters.retries ≤ (s.vlc.groups.get j).counters.retries) : OrdersKept g s (modGroup j f s) := by
  by_cases e : g = j
  · subst e
    exact ⟨by simpa using ho, by simpa using hr⟩
  · exact ordersKept_of_groups (by simp [PerGroup.get_set_ne _ _ _ _ e])

theorem changeCauses_ordersKept (b : Branch) (f : CauseSet → CauseSet) (g : Group) : OrdersKept g s (changeCauses b f s) :=
  ⟨(changeCauses_orders _ _ _ g).1.le, (changeCauses_orders _ _ _ g).2.le⟩

theorem abandonFiring_counters (g : Group) : ((abandonFiring s).vlc.groups.get g).counters = (s.vlc.groups.get g).counters := by
  simp [clearReadiness_counters]

theorem enterHalted_counters (c : HaltCause) (b : Option Branch) (j : Option Group) (f : Option FailureCause) (g : Group) :
    ((enterHalted c b j f s).vlc.groups.get g).counters = (s.vlc.groups.get g).counters := by
  unfold enterHalted
  split <;> simp [clearReadiness_counters]

theorem disableDevice_counters (g : Group) :
    ((disableDevice s).vlc.groups.get g).counters = (s.vlc.groups.get g).counters := by
  unfold disableDevice
  split <;> simp [clearReadiness_counters]

theorem lock_counters (n : Nominal) (g : Group) : ((lock n s).vlc.groups.get g).counters = (s.vlc.groups.get g).counters := by
  simp [lock, clearReadiness_counters]

/-- A change grows no count of orders or retries but by an order or a retry, of an orderable group. -/
theorem Shift.orders_cases (k : Shift P s t) (hhome : TransactionsAtHome s) (g : Group) :
    OrdersKept g s t ∨ P (.order g.branch) ∧ orderable s g = true := by
  cases k with
  | aside k => exact .inl ⟨k.orders g, k.retries g⟩
  | order b j n hp hj hb =>
    by_cases e : g = j
    · subst e
      exact .inr ⟨hb ▸ hp, hj⟩
    · exact .inl (ordersKept_of_groups (by simp [openTransaction, modGroupCounters, PerGroup.get_set_ne _ _ _ _ e]))
  | retry b x again hp hx hj =>
    by_cases e : g = x.group
    · subst e
      exact .inr ⟨hhome b x hx ▸ hp, hj⟩
    · exact .inl (ordersKept_of_groups (by simp [modGroupCounters, PerGroup.get_set_ne _ _ _ _ e]))
  | addCause b c => exact .inl (changeCauses_ordersKept b _ g)
  | plant b l => exact .inl (changeCauses_ordersKept b _ g)
  | unblock b => exact .inl (changeCauses_ordersKept b _ g)
  | fail j c =>
    have hfailed := ordersKept_modGroup (s := s) g j (fun r => { clearReadiness r with failure := some c }) le_rfl le_rfl
    exact .inl (by simpa [OrdersKept, Machine.addCause, changeCauses_orders] using hfailed)
  | remap j c => exact .inl (ordersKept_modGroup g j movedGroup (Nat.zero_le _) (Nat.zero_le _))
  | unfail j => exact .inl (ordersKept_modGroup g j _ le_rfl le_rfl)
  | halt c b j f => exact .inl (ordersKept_of_counters (enterHalted_counters c b j f g))
  | quit c => exact .inl (ordersKept_of_counters (enterHalted_counters c _ _ _ g))
  | lock n => exact .inl (ordersKept_of_counters (lock_counters n g))
  | disable => exact .inl (ordersKept_of_counters (disableDevice_counters g))
  | reset => exact .inl (by simp [OrdersKept, ValveControl.reset, GroupState.reset, GroupCounters.zero])
  | _ => exact .inl (ordersKept_of_counters (by simp [beginAcquisition, doResetChannels, okay]))

@[simp] theorem changeCauses_channels (b : Branch) (f : CauseSet → CauseSet) :
    (changeCauses b f s).vlc.channels = s.vlc.channels := by
  unfold changeCauses enterBlocked leaveBlocked
  dsimp only
  repeat' split
  all_goals simp

@[simp] theorem enterHalted_channels (c : HaltCause) (b : Option Branch) (j : Option Group) (f : Option FailureCause) :
    (enterHalted c b j f s).vlc.channels = s.vlc.channels := by
  unfold enterHalted
  split <;> simp

@[simp] theorem disableDevice_channels : (disableDevice s).vlc.channels = s.vlc.channels := by
  unfold disableDevice
  split <;> simp

@[simp] theorem lock_channels (n : Nominal) : (lock n s).vlc.channels = s.vlc.channels := by simp [lock]

/-- The FIRE frame a channel was last sent stands, is forgotten, or is a new one to an orderable group that it carries. -/
theorem Shift.sent_cases (k : Shift P s t) (c : ValveChannel) :
    (t.vlc.channels.get c).sent = (s.vlc.channels.get c).sent ∨ (t.vlc.channels.get c).sent = none ∨
      ∃ b g tag, P (.order b) ∧ orderable s g = true ∧ s.vlc.map.get g = c ∧ (t.vlc.channels.get c).sent = some (fireFrame tag) := by
  cases k with
  | aside k => exact .inl (k.sent c)
  | order b g n hp hg =>
    by_cases e : s.vlc.map.get g = c
    · subst e
      exact .inr (.inr ⟨b, g, (s.vlc.channels.get (s.vlc.map.get g)).nextTag, hp, hg, rfl,
        by simp [openTransaction, modGroupCounters, sendFire]⟩)
    · exact .inl (by simp [openTransaction, modGroupCounters, sendFire, PerValve.get_set_ne _ _ _ _ (Ne.symm e)])
  | retry b x again hp hx hg =>
    by_cases e : s.vlc.map.get x.group = c
    · subst e
      exact .inr (.inr ⟨b, x.group, x.tag, hp, hg, rfl, by simp [modGroupCounters, sendFire]⟩)
    · exact .inl (by simp [modGroupCounters, sendFire, PerValve.get_set_ne _ _ _ _ (Ne.symm e)])
  | reset => exact .inr (.inl (by simp [ValveControl.reset, ChannelState.reset]))
  | _ => exact .inl (by simp [Machine.addCause, beginAcquisition, doResetChannels, okay])

/-! ## Back along a run -/

/-- A change that is no RESET_GROUP and no reset makes no group AVAILABLE. -/
theorem Shift.available_before (k : Shift P s t) (hunfail : ¬ P (.request .resetGroup)) (hreset : ¬ P .reset) {g : Group}
    (h : (t.vlc.groups.get g).failure = none) : (s.vlc.groups.get g).failure = none := by
  cases k with
  | aside k => exact k.failure g ▸ h
  | unfail _ hp => exact absurd hp hunfail
  | reset _ _ _ _ hp => exact absurd hp hreset
  | fail j c hj =>
    by_cases e : g = j
    · exact e ▸ hj
    · simpa [Machine.addCause, PerGroup.get_set_ne _ _ _ _ e] using h
  | remap j c =>
    by_cases e : g = j
    · subst e
      simpa [movedGroup] using h
    · simpa [PerGroup.get_set_ne _ _ _ _ e] using h
  | order b j n =>
    rw [← h]
    by_cases e : g = j <;> simp [openTransaction, modGroupCounters, PerGroup.get_set_ne, e]
  | disable =>
    unfold disableDevice at h
    split at h <;> simpa [clearReadiness] using h
  | lock n => simpa [Machine.lock, clearReadiness] using h
  | _ => simpa [Machine.addCause, beginAcquisition, doResetChannels, okay] using h

/-- The requests and acts that may take a cause out of a branch's set. -/
def Freeing (P : Act → Prop) : Prop := P .unplant ∨ P (.request .unblock) ∨ P (.request .disable) ∨ P .reset

theorem noCauses_of_addToSet {x : CauseSet} {c : BlockCause} (h : noCauses (addToSet x c) = true) : noCauses x = true := by
  cases c <;> simp_all [noCauses, addToSet]

theorem noCauses_of_added (b j : Branch) (c : BlockCause)
    (h : noCauses ((s.causes.set j (addToSet (s.causes.get j) c)).get b) = true) : noCauses (s.causes.get b) = true := by
  by_cases e : b = j
  · subst e
    exact noCauses_of_addToSet (by simpa using h)
  · simpa [PerBranch.get_set_ne _ _ _ _ e] using h

/-- Any other change empties no set. -/
theorem Shift.free_before (k : Shift P s t) (hfree : ¬ Freeing P) {b : Branch} (h : noCauses (t.causes.get b) = true) :
    noCauses (s.causes.get b) = true := by
  obtain ⟨hunplant, hunblock, hdisable, hreset⟩ : ¬ P .unplant ∧ ¬ P (.request .unblock) ∧ ¬ P (.request .disable) ∧ ¬ P .reset := by
    simpa [Freeing] using hfree
  cases k with
  | aside k => exact k.causes ▸ h
  | disable hp => exact absurd hp hdisable
  | unblock _ _ hp => exact absurd hp hunblock
  | reset _ _ _ _ hp => exact absurd hp hreset
  | addCause j c => exact noCauses_of_added b j c (by simpa [Machine.addCause] using h)
  | fail g c => exact noCauses_of_added b g.branch .valve (by simpa [Machine.addCause] using h)
  | plant j level hp =>
    by_cases e : b = j
    · subst e
      cases level with
      | false => exact absurd (hp rfl) hunplant
      | true => simp [noCauses] at h
    · simpa [PerBranch.get_set_ne _ _ _ _ e] using h
  | _ => simpa [openTransaction, modGroupCounters, beginAcquisition, doResetChannels, okay] using h

theorem Shift.map_stands (k : Shift P s t) (hmap : ¬ P (.request .mapGroup)) (hreset : ¬ P .reset) : t.vlc.map = s.vlc.map := by
  cases k with
  | aside k => exact k.map
  | remap _ _ _ hp => exact absurd hp hmap
  | reset _ _ _ _ hp => exact absurd hp hreset
  | _ => simp [Machine.addCause, openTransaction, modGroupCounters, beginAcquisition, doResetChannels, okay]

/-- The device in RUN, the group AVAILABLE, its channel as given, and its branch's set empty unless PLANT may have left it since. -/
structure OrderableAtStart (P : Act → Prop) (s : State) (g : Group) (c : ValveChannel) : Prop where
  run : s.oc.device = .run
  available : (s.vlc.groups.get g).failure = none
  free : ¬ P .unplant → noCauses (s.causes.get g.branch) = true
  channel : s.vlc.map.get g = c

theorem orderableAtStart_of_orderable {g : Group} (h : orderable s g = true) : OrderableAtStart P s g (s.vlc.map.get g) where
  run := orderable_run h
  available := by simpa [orderable_run h, orderable_free h, orderable] using h
  free _ := orderable_free h
  channel := rfl

/-- The acts of a row that may order: those of a device at work. -/
def Ordering (P : Act → Prop) : Prop := Holding P ∧ ¬ P .lock

theorem Shifts.orderable_before (h : Shifts P s t) (hw : Ordering P) {g : Group} {c : ValveChannel}
    (hg : OrderableAtStart P t g c) : OrderableAtStart P s g c := by
  obtain ⟨⟨-, hreset, hrequest⟩, hlock⟩ := hw
  induction h with
  | refl => exact hg
  | @tail u t _ hlast ih =>
    refine ih ⟨hlast.run_of_run hlock hg.run, hlast.available_before (hrequest _) hreset hg.available, fun hunplant => ?_, ?_⟩
    · exact hlast.free_before (by simp [Freeing, hunplant, hrequest, hreset]) (hg.free hunplant)
    · exact hlast.map_stands (hrequest _) hreset ▸ hg.channel

theorem Shifts.keeps_transactionsAtHome (h : Shifts P s t) (hs : TransactionsAtHome s) : TransactionsAtHome t := by
  induction h with
  | refl => exact hs
  | tail _ hlast ih => exact hlast.keeps_transactionsAtHome ih

/-- Along a run, a group's orders and retries grow only where it was orderable at the start. -/
theorem Shifts.orders_cases (h : Shifts P s t) (hw : (∀ b, ¬ P (.order b)) ∨ Ordering P) (hhome : TransactionsAtHome s) (g : Group) :
    OrdersKept g s t ∨ P (.order g.branch) ∧ OrderableAtStart P s g (s.vlc.map.get g) := by
  induction h with
  | refl => exact .inl ⟨le_rfl, le_rfl⟩
  | @tail u t hrun hlast ih =>
    obtain hkept | hdone := ih
    · obtain hlastKept | ⟨hp, hu⟩ := hlast.orders_cases (Shifts.keeps_transactionsAtHome hrun hhome) g
      · exact .inl ⟨hlastKept.1.trans hkept.1, hlastKept.2.trans hkept.2⟩
      · have hw : Ordering P := hw.resolve_left fun hnone => hnone _ hp
        have hs := Shifts.orderable_before hrun hw (orderableAtStart_of_orderable (P := P) hu)
        exact .inr ⟨hp, ⟨hs.run, hs.available, hs.free, rfl⟩⟩
    · exact .inr hdone

/-- Along a run, a new FIRE frame goes only to a group that was orderable at the start, on the channel it had then. -/
theorem Shifts.sent_cases (h : Shifts P s t) (hw : (∀ b, ¬ P (.order b)) ∨ Ordering P) (c : ValveChannel) :
    (t.vlc.channels.get c).sent = (s.vlc.channels.get c).sent ∨ (t.vlc.channels.get c).sent = none ∨
      ∃ b g tag, P (.order b) ∧ OrderableAtStart P s g c ∧ (t.vlc.channels.get c).sent = some (fireFrame tag) := by
  induction h with
  | refl => exact .inl rfl
  | @tail u t hrun hlast ih =>
    obtain hsame | hnone | ⟨b, g, tag, hp, hu, rfl, hsent⟩ := hlast.sent_cases c
    · rwa [hsame]
    · exact .inr (.inl hnone)
    · have hw : Ordering P := hw.resolve_left fun hnone => hnone _ hp
      exact .inr (.inr ⟨b, g, tag, hp, Shifts.orderable_before hrun hw (orderableAtStart_of_orderable (P := P) hu), hsent⟩)

/-! ## The commands that may order -/

theorem working_orders {c : Instr} {b : Branch} (h : working c (.order b)) :
    wellFormed c = true ∧ c ∉ resetRows ∧ bringsFrame c ≠ true ∧ ¬ working c .unplant ∧ ∀ s k, ¬ Asks s c k := by
  have hasks (s : State) (k : RequestKind) : ¬ Asks s c k := fun hk => working_of_asks hk h
  cases c with
  | crossingSynthesized | delayReached | retry => exact ⟨rfl, by simp [resetRows], nofun, by simp [working, synthesising, marking], hasks⟩
  | _ => simp [working, framing] at h

/-- A command is a run without orders, or one of a device at work in which PLANT leaves no set. -/
theorem exec_orders (c : Instr) (h : exec c s = .next t) :
    ∃ P, Shifts P s t ∧ ((∀ b, ¬ P (.order b)) ∨ Ordering P ∧ ¬ P .unplant) := by
  by_cases horders : ∃ b, working c (.order b)
  · obtain ⟨b, hb⟩ := horders
    obtain ⟨hwell, hreset, hframe, hunplant, hasks⟩ := working_orders hb
    obtain ⟨k, hk, -⟩ | hworked := exec_serves_or_works hwell h
    · exact absurd hk (hasks s k)
    · exact ⟨working c, hworked, .inr ⟨⟨working_holding hreset, fun hp => hframe (working_lock hp)⟩, hunplant⟩⟩
  · obtain ⟨u, hu, hrun⟩ := exec_runs_anyhow (s := s) c
    obtain rfl : u = t := by simpa using hu.symm.trans h
    refine ⟨anyhow c, hrun, .inl fun b hp => ?_⟩
    obtain hp | hp := hp
    · exact horders ⟨b, hp⟩
    · exact hp b rfl

theorem eq_empty_of_noCauses {x : CauseSet} (h : noCauses x = true) : x = .empty := by
  obtain ⟨a, b, c, d⟩ := x
  simp only [noCauses, Bool.not_eq_true', Bool.or_eq_false_iff] at h
  obtain ⟨⟨⟨rfl, rfl⟩, rfl⟩, rfl⟩ := h
  rfl

/-- A branch in RUN with something to order is not BLOCKED, so its set is empty. -/
theorem noCauses_of_busy {b : Branch} (hquiet : BlockedIsQuiet s) (hrun : s.oc.device = .run) (hbusy : Busy s b) :
    noCauses (s.causes.get b) = true := by
  have hb := blockedIsQuiet_iff.mp hquiet hrun b
  by_contra hc
  have hblocked := hb.state.mpr (by simpa using hc)
  exact hbusy.elim (fun h => h (hb.armed hblocked)) fun h => h (hb.transaction hblocked)

theorem ordersKept_of_run {P : Act → Prop} (h : Shifts P s t) (hw : (∀ b, ¬ P (.order b)) ∨ Ordering P) (hhome : TransactionsAtHome s)
    {g : Group} (hgrows : ¬ OrdersKept g s t) : P (.order g.branch) ∧ OrderableAtStart P s g (s.vlc.map.get g) :=
  (Shifts.orders_cases h hw hhome g).resolve_left hgrows

/-- What every order needs. -/
def OrderAllowed (s : State) (g : Group) : Prop :=
  s.oc.device = .run ∧ (s.vlc.groups.get g).failure = none ∧ noCauses (s.causes.get g.branch) = true

theorem tick_orderAllowed {g : Group} (hquiet : BlockedIsQuiet s) (hhome : TransactionsAtHome s)
    (hgrows : ¬ OrdersKept g s (tick s)) : OrderAllowed s g := by
  obtain ⟨hbusy, hg⟩ := ordersKept_of_run tick_shifts (.inr ⟨ticking_holding _, id⟩) hhome hgrows
  exact ⟨hg.run, hg.available, noCauses_of_busy hquiet hg.run hbusy⟩

theorem exec_orderAllowed {c : Instr} {g : Group} (h : exec c s = .next t) (hhome : TransactionsAtHome s)
    (hgrows : ¬ OrdersKept g s t) : OrderAllowed s g := by
  obtain ⟨P, hrun, hw⟩ := exec_orders c h
  obtain ⟨hp, hg⟩ := ordersKept_of_run hrun (hw.imp_right And.left) hhome hgrows
  obtain ⟨-, hunplant⟩ := hw.resolve_left fun hnone => hnone _ hp
  exact ⟨hg.run, hg.available, hg.free hunplant⟩

end

/-- Settles O60: only an order or a retry of an orderable group grows its counts or sends a frame, and back to the step's start RUN, the
group's state and the branch's set were as they are then, a quiet BLOCKED branch having nothing to order. -/
theorem ordersOnlyWhereAllowed : Obligations.OrdersOnlyWhereAllowed := by
  unfold Obligations.OrdersOnlyWhereAllowed
  refine ⟨fun s t g hquiet hhome hstep hgrows => ?_, fun c s t ch f h hsent hnew => ?_⟩
  · have hgrows : ¬ OrdersKept g s t := fun hkept => hgrows.elim hkept.1.not_gt hkept.2.not_gt
    unfold step at hstep
    split at hstep
    · cases hstep
      exact tick_orderAllowed hquiet hhome hgrows
    · next c rest _ => exact exec_orderAllowed (s := { s with pending := rest }) hstep hhome hgrows
  · obtain ⟨P, hrun, hw⟩ := exec_orders c h
    obtain hsame | hnone | ⟨b, g, tag, hp, hg, hfire⟩ := Shifts.sent_cases hrun (hw.imp_right And.left) ch
    · exact absurd (hsame ▸ hsent) hnew
    · simp [hnone] at hsent
    · obtain ⟨-, hunplant⟩ := hw.resolve_left fun hnone => hnone _ hp
      obtain rfl : fireFrame tag = f := by simpa [hfire] using hsent
      exact ⟨hg.run, g, tag, hg.channel, eq_empty_of_noCauses (hg.free hunplant), hg.available, rfl⟩

end Sys2Proof.Machine

/-! Frames on the supervisory line as the interface takes them (R182 to R187), and the resets (R194 to R196). -/

namespace Sys2Proof.Machine

open Safety

section
variable {s : State}

/-! ## Resets -/

/-- Settles O4: each kind of reset is one resetting of every block, on the pins as the row leaves them. -/
theorem resetsLeaveResetValues : Obligations.ResetsLeaveResetValues := by
  unfold Obligations.ResetsLeaveResetValues
  intro s
  refine ⟨rfl, fun h => ?_, fun h => ?_, fun r hheld hanswering hreply hkind hstatus => ?_⟩
  · simp [exec, execSupplyDip, h, beginReset, resetBlocks, setSupplyLow]
  · simp [exec, execResetLine, h, beginReset, resetBlocks, setResetLine]
  · have hrestart : answersRestart r = true := by simp [answersRestart, hkind, hstatus, replyKind, kindCode]
    simp [exec, execReplySent, running, hheld, endReply, hanswering, hreply, hrestart, beginReset, resetBlocks]

/-- Settles O5. -/
theorem releaseLeavesResetValues : Obligations.ReleaseLeavesResetValues := by
  unfold Obligations.ReleaseLeavesResetValues
  intro s
  refine ⟨?_, ?_⟩
  · by_cases h : s.pins.resetAsserted = true <;>
      simp [exec, execResetLineRelease, h, endReset, resetBlocks, setResetLine]
  · by_cases h : s.pins.supplyLow = true <;>
      simp [exec, execSupplyRecovery, h, endReset, resetBlocks, setSupplyLow]

/-! ## Single characters -/

/-- R184: what an abandoned frame leaves. -/
theorem abandon_eq (f : LineCounters → LineCounters) (s : State) :
    abandon f s = { s with sli := { s.sli with
      receive := .mute, assembly := [], counters := f s.sli.counters
      events := s.sli.events.set .hostFrameError ⟨true, bump 255 (s.sli.events.get .hostFrameError).count⟩ } } := by
  rw [abandon, raise_of_no_trigger _ _ rfl]
  rfl

/-- In MUTE the receive state that a frame's end sets is the one it began in. -/
theorem mute_assembled (h : s.sli.receive = .mute) (c : LineCounters) (e : PerEvent EventCell) :
    { s with sli := { s.sli with receive := .mute, assembly := [], counters := c, events := e } } =
      { s with sli := { s.sli with assembly := [], counters := c, events := e } } := by rw [← h]

/-- R184: a marked character in LISTENING interrupts the frame, and is then heard as in MUTE. -/
theorem takeChar_interrupts (h : s.sli.receive = .listening) (a : Byte) :
    takeChar ⟨a, true, true⟩ s =
      takeChar ⟨a, true, true⟩ (abandon (fun c => { c with interrupted := count16 c.interrupted }) s) := by
  have hmute : (abandon (fun c => { c with interrupted := count16 c.interrupted }) s).sli.receive = .mute := by simp [abandon_eq]
  simp [takeChar, h, hmute]

/-! ## Whole frames -/

/-- The receiver in LISTENING, with these characters in assembly. -/
def listeningWith (l : List Byte) (s : State) : State := { s with sli := { s.sli with receive := .listening, assembly := l } }

theorem takeChar_address (h : s.sli.receive = .mute) {a : Byte} (ha : takesAddress s a = true) :
    takeChar ⟨a, true, true⟩ s = listeningWith [a] s := by simp [takeChar, h, beginFrame, ha, listeningWith]

theorem wholeFrame_iff {frame : List Byte} : wholeFrame frame = true ↔
    ∃ a k len rest, frame = a :: k :: len :: rest ∧ len.toNat ≤ 200 ∧ rest.length = len.toNat + 2 := by
  unfold wholeFrame
  split
  · next a k len rest =>
    simp only [Bool.and_eq_true, decide_eq_true_eq, beq_iff_eq]
    exact ⟨fun h => ⟨a, k, len, rest, rfl, h.1, h.2⟩, by rintro ⟨_, _, _, _, e, h⟩; cases e; exact h⟩
  · next hshort => exact ⟨fun h => absurd h (by simp), by rintro ⟨a, k, len, rest, rfl, -⟩; exact absurd rfl (hshort a k len rest)⟩

/-- R185: the last character of a whole frame completes it. -/
theorem appendChar_completes {x : Byte} (h : wholeFrame (s.sli.assembly ++ [x]) = true) :
    appendChar x s = completeFrame (s.sli.assembly ++ [x]) s := by
  obtain ⟨a, k, len, rest, hframe, hmax, hlen⟩ := wholeFrame_iff.mp h
  unfold appendChar
  dsimp only
  rw [hframe, if_neg (by simp [hlen]), if_pos (by simp [hlen]; omega)]

/-- R183, R185: a whole frame whose address begins one is completed by its last character. -/
theorem takeChars_whole (h : s.sli.receive = .mute) {a : Byte} (ha : takesAddress s a = true) {body : List Byte} {last : Byte}
    (hwhole : wholeFrame (a :: (body ++ [last])) = true) :
    takeChars (frameChars (a :: (body ++ [last]))) s = completeFrame (a :: (body ++ [last])) (listeningWith (a :: body) s) := by
  have hopen : openChars [a] (body.map fun b => ⟨b, false, true⟩) = true := openChars_of_whole last hwhole (by simp)
  have hchars : frameChars (a :: (body ++ [last])) =
      ⟨a, true, true⟩ :: ((body.map fun b => ⟨b, false, true⟩) ++ [⟨last, false, true⟩]) := by simp [frameChars]
  have hbody : takeChars (body.map fun b => ⟨b, false, true⟩) (listeningWith [a] s) = listeningWith (a :: body) s := by
    rw [takeChars_open rfl hopen]
    simp [listeningWith, Function.comp_def]
  rw [hchars, takeChars_cons, takeChar_address h ha, takeChars_append, hbody]
  exact appendChar_completes (s := listeningWith (a :: body) s) hwhole

theorem wholeFrame_bytes (a kind hi lo : Byte) {payload : List Byte} (hlen : payload.length ≤ 200) :
    wholeFrame (a :: kind :: BitVec.ofNat 8 payload.length :: payload ++ [hi, lo]) = true := by
  have hlen' : (BitVec.ofNat 8 payload.length).toNat = payload.length := by simp; omega
  exact wholeFrame_iff.mpr ⟨a, kind, _, payload ++ [hi, lo], rfl, by omega, by simp; omega⟩

/-- R185: a complete frame by its CRC, its address and its kind. -/
theorem completeFrame_bytes (a kind hi lo : Byte) (payload : List Byte) (s : State) :
    completeFrame (a :: kind :: BitVec.ofNat 8 payload.length :: payload ++ [hi, lo]) s =
      if crcBytes (a :: kind :: BitVec.ofNat 8 payload.length :: payload) = [hi, lo] then
        if a = 127 then takeBroadcast kind payload s else takeAddressed kind payload s
      else abandon (fun c => { c with crcErrors := count16 c.crcErrors }) s := by
  have htake (l : List Byte) : (l ++ [hi, lo]).take ((l ++ [hi, lo]).length - 2) = l := by simp
  have hdrop (l : List Byte) : (l ++ [hi, lo]).drop ((l ++ [hi, lo]).length - 2) = [hi, lo] := by simp
  unfold completeFrame
  dsimp only
  rw [htake, hdrop]
  rfl

/-- What follows a frame's end does not depend on what stood in assembly. -/
theorem takeAddressed_listeningWith (code : Byte) (payload l : List Byte) (s : State) :
    takeAddressed code payload (listeningWith l s) = takeAddressed code payload s := rfl

theorem takeBroadcast_listeningWith (code : Byte) (payload l : List Byte) (s : State) :
    takeBroadcast code payload (listeningWith l s) = takeBroadcast code payload s := rfl

theorem abandon_listeningWith (f : LineCounters → LineCounters) (l : List Byte) (s : State) :
    abandon f (listeningWith l s) = abandon f s := by simp [abandon_eq, listeningWith]

/-- A frame of these bytes, where its address begins one. -/
theorem takeChars_bytes (h : s.sli.receive = .mute) {a : Byte} (ha : takesAddress s a = true) (kind hi lo : Byte)
    {payload : List Byte} (hlen : payload.length ≤ 200) :
    takeChars (frameChars (a :: kind :: BitVec.ofNat 8 payload.length :: payload ++ [hi, lo])) s =
      if crcBytes (a :: kind :: BitVec.ofNat 8 payload.length :: payload) = [hi, lo] then
        if a = 127 then takeBroadcast kind payload s else takeAddressed kind payload s
      else abandon (fun c => { c with crcErrors := count16 c.crcErrors }) s := by
  have hwhole := wholeFrame_bytes a kind hi lo hlen
  have hbytes : a :: kind :: BitVec.ofNat 8 payload.length :: payload ++ [hi, lo] =
      a :: ((kind :: BitVec.ofNat 8 payload.length :: payload ++ [hi]) ++ [lo]) := by simp
  have hcomplete := completeFrame_bytes a kind hi lo payload
    (listeningWith (a :: (kind :: BitVec.ofNat 8 payload.length :: payload ++ [hi])) s)
  rw [takeAddressed_listeningWith, takeBroadcast_listeningWith, abandon_listeningWith] at hcomplete
  rw [← hcomplete]
  rw [hbytes] at hwhole ⊢
  exact takeChars_whole h ha hwhole

/-- R182: a request frame is its bytes and their CRC's two. -/
theorem requestBytes_eq (a code : Byte) (payload : List Byte) : ∃ hi lo,
    requestBytes a code payload = a :: code :: BitVec.ofNat 8 payload.length :: payload ++ [hi, lo] ∧
      crcBytes (a :: code :: BitVec.ofNat 8 payload.length :: payload) = [hi, lo] :=
  ⟨_, _, rfl, rfl⟩

/-- A request frame to an address that begins one is handed over, as a broadcast or as addressed. -/
theorem takeChars_request (h : s.sli.receive = .mute) {a : Byte} (ha : takesAddress s a = true) (code : Byte) {payload : List Byte}
    (hlen : payload.length ≤ 200) :
    takeChars (frameChars (requestBytes a code payload)) s =
      if a = 127 then takeBroadcast code payload s else takeAddressed code payload s := by
  obtain ⟨hi, lo, hbytes, hcrc⟩ := requestBytes_eq a code payload
  rw [hbytes, takeChars_bytes h ha code hi lo hlen, if_pos hcrc]

/-- A request frame to the unit's own address. -/
theorem takeChars_addressed (h : s.sli.receive = .mute) (haddress : addressable s = true) (code : Byte) {payload : List Byte}
    (hlen : payload.length ≤ 200) :
    takeChars (frameChars (requestBytes (s.sli.address.setWidth 8) code payload)) s = takeAddressed code payload s := by
  have hown : s.sli.address.setWidth 8 ≠ (127 : Byte) := by
    simp only [addressable, Bool.and_eq_true, bne_iff_ne] at haddress
    have hne := haddress.2
    bv_omega
  rw [takeChars_request h (by simp [takesAddress, haddress]) code hlen, if_neg hown]

/-- R187: a frame of a kind and a length that fit it is served. -/
theorem takeAddressed_fits {k : RequestKind} {payload : List Byte} (h : lengthFits k payload.length = true) (s : State) :
    takeAddressed (kindCode k) payload s = serve k (ownerOf k payload) s := by simp [takeAddressed, h]

theorem lengthFits_le {k : RequestKind} {n : Nat} (h : lengthFits k n = true) : n ≤ 200 := by
  cases k <;> simp [lengthFits] at h <;> omega

/-- R183: in LISTENING a request's frame interrupts the one in assembly, and is then taken as in MUTE. -/
theorem takeChars_request_interrupts (h : s.sli.receive = .listening) (a code : Byte) (payload : List Byte) :
    takeChars (frameChars (requestBytes a code payload)) s =
      takeChars (frameChars (requestBytes a code payload)) (abandon (fun c => { c with interrupted := count16 c.interrupted }) s) := by
  obtain ⟨hi, lo, hbytes, -⟩ := requestBytes_eq a code payload
  rw [hbytes, List.cons_append, frameChars, takeChars_cons, takeChars_cons, takeChar_interrupts h]

theorem frameChars_request_length (a code : Byte) (payload : List Byte) :
    (frameChars (requestBytes a code payload)).length = 5 + payload.length := by
  obtain ⟨hi, lo, hbytes, -⟩ := requestBytes_eq a code payload
  rw [hbytes]
  simp [frameChars]
  omega

/-- A request row is the arrival of its frame, whatever the receive state. -/
theorem takeChars_of_request {k : RequestKind} {p : List Byte} (haddress : addressable s = true)
    (hfits : lengthFits k p.length = true) :
    takeChars (frameChars (requestBytes (s.sli.address.setWidth 8) (kindCode k) p)) s = takeRequest k p.length (ownerOf k p) s := by
  unfold takeRequest
  rw [if_pos haddress]
  cases hreceive : s.sli.receive with
  | off => exact takeChars_off hreceive _
  | answering =>
    have hlen := frameChars_request_length (s.sli.address.setWidth 8) (kindCode k) p
    rw [takeChars_answering hreceive _ (by rw [← List.length_pos_iff, hlen]; omega), hlen]
  | mute => rw [takeChars_addressed hreceive haddress _ (lengthFits_le hfits), takeAddressed_fits hfits]
  | listening =>
    dsimp only
    rw [takeChars_request_interrupts hreceive]
    have hfields : (abandon (fun c => { c with interrupted := count16 c.interrupted }) s).sli.address = s.sli.address ∧
        (abandon (fun c => { c with interrupted := count16 c.interrupted }) s).sli.receive = .mute := by simp [abandon_eq]
    generalize abandon (fun c => { c with interrupted := count16 c.interrupted }) s = u at hfields
    obtain ⟨hown, hmute⟩ := hfields
    have haddress' : addressable u = true := by rw [addressable, hown]; exact haddress
    rw [← hown, takeChars_addressed hmute haddress' _ (lengthFits_le hfits), takeAddressed_fits hfits]

end

/-- Every request row takes a request, well-formed or not. -/
theorem exec_takes_request {i : Instr} (h : requestOf i ≠ none) (s : State) :
    ∃ k n body, exec i s = .next (running (takeRequest k n body) s) := by
  cases i with
  | requestFrame | frameAbandoned | gapAbandonment | receiverOn | replyStart | replySent | powerOn | supplyDip | resetLine
  | resetLineRelease | supplyRecovery | characterWhileAnswering | framingError | dataFrame | checkFrame | linkLate | measGap
  | linkLost | acquireTimeout | crossingSynthesized | delayReached | guardExpiry | retry | valveFrameError | fv | fired | refused
  | selfFired | status | channelSilent | rawLevelChange | plantLineChanged | initialSettlingEnd => exact absurd rfl h
  | _ => exact ⟨_, _, _, rfl⟩

/-- Settles O7, on the frame's characters. -/
theorem requestFrameIsItsRequest : Obligations.RequestFrameIsItsRequest := by
  unfold Obligations.RequestFrameIsItsRequest
  refine ⟨fun i k p s haddress hwell hrequest => ?_, fun i s haddress hrequest => ?_⟩
  · rw [exec_request s hwell hrequest]
    simp only [exec, execRequestFrame, running, takeChars_of_request haddress (lengthFits_of_request hwell hrequest)]
  · obtain ⟨k, n, body, hexec⟩ := exec_takes_request hrequest s
    have hdeaf : takeRequest k n body s = s := by simp [takeRequest, haddress]
    rw [hexec, running, hdeaf, ite_self]

/-- Settles O9. -/
theorem sliRefusesUnknownAndBadLength : Obligations.SliRefusesUnknownAndBadLength := by
  unfold Obligations.SliRefusesUnknownAndBadLength
  rintro s code payload ⟨hheld, haddress, hmute⟩ hlen hbad
  have htaken : exec (.requestFrame (requestBytes (s.sli.address.setWidth 8) code payload)) s =
      .next (takeAddressed code payload s) := by
    simp [exec, execRequestFrame, running, hheld, takeChars_addressed hmute haddress code hlen]
  have hrefused : takeAddressed code payload s =
      answerOnly code (if kindOf code = none then .unknownKind else .badLength) s := by
    obtain hnone | ⟨k, hk, hfits⟩ := hbad
    · simp [takeAddressed, hnone]
    · simp [takeAddressed, hk, hfits]
  exact ⟨_, _, htaken.trans (congrArg _ hrefused), rfl, rfl, rfl, rfl, rfl, rfl⟩

/-- Settles O10. -/
theorem broadcastsExecutedOrIgnored : Obligations.BroadcastsExecutedOrIgnored := by
  unfold Obligations.BroadcastsExecutedOrIgnored
  intro s code payload hheld hmute hlen
  have htaken : exec (.requestFrame (requestBytes 127 code payload)) s = .next (takeBroadcast code payload s) := by
    have hall : takesAddress s 127 = true := by simp [takesAddress]
    simp only [exec, execRequestFrame, running, hheld, takeChars_request hmute hall code hlen, if_pos, Bool.false_eq_true, if_false]
  have hcounted (f : LineCounters → LineCounters) : modLineCounters f (becomeMute s) =
      { s with sli := { s.sli with assembly := [], counters := f s.sli.counters } } := mute_assembled hmute _ _
  dsimp only
  rw [htaken, takeBroadcast, hcounted, hcounted]
  rfl

/-- Settles O3, the reset's whole state being known. -/
theorem resetCauseRecord : Obligations.ResetCauseRecord := by
  unfold Obligations.ResetCauseRecord
  have hcount {n : Nat} (h : n ≤ 65535) : count16 n = min 65535 (n + 1) := by unfold count16 bump; split <;> omega
  refine ⟨fun s => ?_, fun s hlow hle => ?_, fun s hasserted hle => ?_, fun s r hheld hanswering hreply hkind hstatus hle => ?_,
    fun s h => ?_⟩
  · exact ⟨_, (resetsLeaveResetValues s).1, rfl, rfl⟩
  · obtain ⟨-, hdip, -⟩ := resetsLeaveResetValues s
    exact ⟨_, hdip hlow, rfl, hcount hle⟩
  · obtain ⟨-, -, hline, -⟩ := resetsLeaveResetValues s
    exact ⟨_, hline hasserted, rfl, hcount hle⟩
  · obtain ⟨-, -, -, hrestart⟩ := resetsLeaveResetValues s
    exact ⟨_, hrestart r hheld hanswering hreply hkind hstatus, rfl, hcount hle⟩
  · exact ⟨_, _, exec_identify_receptive s h, ⟨_, rfl, rfl, rfl, rfl, rfl, rfl⟩, rfl⟩

section
variable {s : State}

/-! ## Frames abandoned (R184) -/

/-- What an abandoned frame leaves of a receiver that it found in MUTE. -/
theorem abandon_of_mute (h : s.sli.receive = .mute) (f : LineCounters → LineCounters) : abandon f s =
    { s with sli := { s.sli with
      assembly := [], counters := f s.sli.counters
      events := s.sli.events.set .hostFrameError ⟨true, bump 255 (s.sli.events.get .hostFrameError).count⟩ } } := by
  rw [abandon_eq, mute_assembled h]

theorem takesAddress_abandon (f : LineCounters → LineCounters) (x : Byte) :
    takesAddress (abandon f s) x = takesAddress s x := by simp [abandon_eq, takesAddress, addressable]

/-- After an abandoned frame the receiver is MUTE, so a character that begins no frame changes nothing more. -/
theorem beginFrame_abandon (f : LineCounters → LineCounters) (x : Byte) : beginFrame x (abandon f s) =
    if takesAddress s x = true then listeningWith [x] (abandon f s) else abandon f s := by
  unfold beginFrame
  rw [takesAddress_abandon]
  split
  · rfl
  · simp [becomeMute, abandon_eq]

/-- The character that ends a frame in assembly: a framing error before the mark, and a length where it is neither. -/
theorem takeChar_ends {l : List Byte} {c : LineChar} (h : endsFrame l.length c = true) : takeChar c (listeningWith l s) =
    if c.stopOk = false then abandon (fun k => { k with framingErrors := count16 k.framingErrors }) s
    else if c.mark = false then abandon (fun k => { k with lengthAbandonments := count16 k.lengthAbandonments }) s
    else beginFrame c.data (abandon (fun k => { k with interrupted := count16 k.interrupted }) s) := by
  have hchar : takeChar c (listeningWith l s) =
      if !c.stopOk then abandon (fun k => { k with framingErrors := count16 k.framingErrors }) (listeningWith l s)
      else if c.mark then beginFrame c.data (abandon (fun k => { k with interrupted := count16 k.interrupted }) (listeningWith l s))
      else appendChar c.data (listeningWith l s) := rfl
  rw [hchar]
  simp only [abandon_listeningWith]
  cases hstop : c.stopOk with
  | false => rfl
  | true =>
    cases hmark : c.mark with
    | true => rfl
    | false =>
      obtain ⟨htwo, hlong⟩ : l.length = 2 ∧ 200 < c.data.toNat := by simpa [endsFrame, hstop, hmark] using h
      have hlength : ((listeningWith l s).sli.assembly ++ [c.data]).length = 3 ∧ 200 < c.data.toNat := by
        simp [listeningWith, htwo, hlong]
      have habandoned : appendChar c.data (listeningWith l s) =
          abandon (fun k => { k with lengthAbandonments := count16 k.lengthAbandonments }) (listeningWith l s) := if_pos hlength
      exact habandoned.trans (abandon_listeningWith _ _ _)

/-- R184: a frame that its last character ends, heard from its address on. -/
theorem takeChars_abandoned (h : s.sli.receive = .mute) {chars : List LineChar} {first last : LineChar}
    (hframe : abandonedFrame chars = true) (hfirst : chars.head? = some first) (ha : takesAddress s first.data = true)
    (hlast : chars.getLast? = some last) : takeChars chars s =
    if last.stopOk = false then abandon (fun k => { k with framingErrors := count16 k.framingErrors }) s
    else if last.mark = false then abandon (fun k => { k with lengthAbandonments := count16 k.lengthAbandonments }) s
    else beginFrame last.data (abandon (fun k => { k with interrupted := count16 k.interrupted }) s) := by
  cases chars with
  | nil => simp at hfirst
  | cons c cs =>
    obtain rfl : c = first := by simpa using hfirst
    obtain ⟨⟨⟨hmark, hstop⟩, hopen⟩, hends⟩ : ((c.mark = true ∧ c.stopOk = true) ∧ openChars [c.data] cs.dropLast = true) ∧
        cs.getLast?.any (endsFrame cs.length) = true := by simpa [abandonedFrame] using hframe
    obtain ⟨d, hcs, hends⟩ : ∃ d, cs.getLast? = some d ∧ endsFrame cs.length d = true := by
      simpa [Option.any_eq_true] using hends
    obtain rfl : d = last := by
      rw [List.getLast?_cons, hcs] at hlast
      simpa using hlast
    have hsplit : cs.dropLast ++ [d] = cs := List.dropLast_append_getLast? d hcs
    have hlen : (c.data :: cs.dropLast.map (·.data)).length = cs.length := by
      rw [List.length_cons, List.length_map]
      conv_rhs => rw [← hsplit]
      simp
    have hbegun : takeChar c s = listeningWith [c.data] s := by
      obtain ⟨x, mark, stop⟩ := c
      cases hmark
      cases hstop
      exact takeChar_address h ha
    have hbody : takeChars cs.dropLast (listeningWith [c.data] s) = listeningWith (c.data :: cs.dropLast.map (·.data)) s := by
      rw [takeChars_open rfl hopen]
      simp [listeningWith]
    rw [takeChars_cons, hbegun, ← hsplit, takeChars_append, hbody]
    exact takeChar_ends (by rwa [hlen])

end

/-- Settles O8: a wrong CRC at the frame's last character, and an abandonment at the character that ends it. -/
theorem damagedFramesAreAbandoned : Obligations.DamagedFramesAreAbandoned := by
  unfold Obligations.DamagedFramesAreAbandoned
  have habandoned (s : State) (chars : List LineChar) (first last : LineChar) (hheld : inReset s = false)
      (hmute : s.sli.receive = .mute) (hwell : wellFormed (.frameAbandoned chars) = true) (hfirst : chars.head? = some first)
      (ha : takesAddress s first.data = true) (hlast : chars.getLast? = some last) := by
    have hexec : exec (.frameAbandoned chars) s = .next (takeChars chars s) := by
      simp [exec, execFrameAbandoned, running, hheld]
    rw [takeChars_abandoned hmute hwell hfirst ha hlast, beginFrame_abandon] at hexec
    simp only [abandon_of_mute hmute] at hexec
    exact hexec
  refine ⟨fun s a kind hi lo payload hheld hmute ha hlen hcrc => ?_, fun s a kind len hheld hmute ha => ⟨fun hlong => ?_, fun mark => ?_, ?_⟩,
    fun s hheld hlistening => ?_, habandoned⟩
  · have hwrong : crcBytes (a :: kind :: BitVec.ofNat 8 payload.length :: payload) ≠ [hi, lo] := Ne.symm hcrc
    simp only [exec, execRequestFrame, running, hheld, Bool.false_eq_true, if_false]
    rw [takeChars_bytes hmute ha kind hi lo hlen, if_neg hwrong, abandon_of_mute hmute]
  · refine (habandoned s _ _ _ hheld hmute ?_ rfl ha rfl).trans rfl
    simp [wellFormed, abandonedFrame, openChars, endsFrame, stillOpen, hlong]
  · exact (habandoned s _ _ _ hheld hmute rfl rfl ha rfl).trans rfl
  · exact (habandoned s _ _ _ hheld hmute rfl rfl ha rfl).trans rfl
  · simp [exec, execGapAbandonment, running, hheld, takeGap, hlistening, abandon_eq]

/-! ## The receiver's own moves -/

section
variable {s : State}

@[simp] theorem setPlantCause_causes (x : Bool) (b : Branch) :
    (setPlantCause x s).causes.get b = { s.causes.get b with plant := x } := by
  cases b <;> simp [setPlantCause, forBranches, PerBranch.get_set_ne]

theorem endSettling_ended (h : s.pli.settling = false) : endSettling s = s := by simp [endSettling, h]

theorem endSettling_sli : (endSettling s).sli = s.sli := by
  unfold endSettling
  dsimp only
  repeat' split
  all_goals simp

theorem endSettling_settling : (endSettling s).pli.settling = false := by
  unfold endSettling
  dsimp only
  split
  · split <;> simp
  · next h => simpa using h

/-- R156: every debounced level takes its raw level. -/
theorem endSettling_input (h : s.pli.settling = true) (i : PlantInput) :
    ((endSettling s).pli.inputs.get i).debounced = s.pins.raw.get i := by
  unfold endSettling
  rw [if_pos h]
  dsimp only
  split <;> simp

/-- R156, R158: an EXT_BLOCK found asserted adds PLANT to every set. -/
theorem endSettling_causes (h : s.pli.settling = true) (b : Branch) : (endSettling s).causes.get b =
    if s.pins.raw.get .extBlock = true then { s.causes.get b with plant := true } else s.causes.get b := by
  unfold endSettling
  rw [if_pos h]
  dsimp only
  split <;> simp

end

/-- Settles O11. -/
theorem receiverMoves : Obligations.ReceiverMoves := by
  unfold Obligations.ReceiverMoves
  refine ⟨fun s hheld => ⟨fun hoff => ?_, fun hanswering c => ?_, fun hmute d m => ?_, fun hanswering r hreply => ⟨?_, fun hother => ?_⟩⟩,
    fun r => ?_⟩
  · have hon : receiverOn s = { endSettling s with
        clock := { (endSettling s).clock with sinceReset := Config.stableMark }
        sli := { (endSettling s).sli with receive := .mute } } := by simp [receiverOn, hoff]
    refine ⟨receiverOn s, by simp [exec, execReceiverOn, running, hheld], ?_⟩
    rw [hon]
    refine ⟨by rw [endSettling_sli], endSettling_settling, fun h => by rw [endSettling_ended h], fun h => ?_⟩
    exact ⟨endSettling_input h, fun _ => endSettling_causes h⟩
  · simp [exec, execCharacterWhileAnswering, running, hheld, takeChar, hanswering, modLineCounters]
  · simp [exec, execFramingError, running, hheld, takeChar, hmute, modLineCounters]
  · simp [exec, execReplyStart, running, hheld, startReply, hanswering, hreply]
  · have hno : answersRestart r = false := by
      rw [Bool.eq_false_iff]
      intro hyes
      obtain ⟨hkind, hstatus⟩ : r.kind = 0xFF ∧ r.status = .ok := by simpa [answersRestart, replyKind, kindCode] using hyes
      exact hother.elim (· hkind) (· hstatus)
    simp [exec, execReplySent, running, hheld, endReply, hanswering, hreply, hno]
  · rfl

end Sys2Proof.Machine

/-! The requests that read, and those that replace settings (R17, R39 to R42, R64, R91 to R93, R98 to R101, R136, R137, R177, R191). -/

namespace Sys2Proof.Machine

open Safety

section
variable {s : State}

/-! ## Requests of a receptive unit -/

/-- A request row of a receptive unit is answered on the state its owner leaves. -/
theorem exec_answers {i : Instr} {k : RequestKind} {n : Nat} {body : State → Response} (h : Receptive s)
    (hexec : exec i s = .next (running (takeRequest k n body) s)) {u : State} {st : Status} {p : List Byte}
    (hbody : body (acceptFrame s) = ⟨acceptFrame u, st, p⟩)
    (hc : st ≠ .ok ∨ readsOnly k = true ∨ u.oc.device ≠ .unset ∨ configured u = false) :
    exec i s = .next (answered k st p u) := by
  rw [hexec, takeRequest_receptive k n body s h, serve_answers k body s u st p hbody hc]

/-- A request row that is turned away changes nothing but the interface's own items. -/
theorem exec_turns_away {i : Instr} {k : RequestKind} {n : Nat} {body : State → Response} (h : Receptive s)
    (hexec : exec i s = .next (running (takeRequest k n body) s)) {st : Status} {p : List Byte}
    (hbody : body (acceptFrame s) = turnAway (acceptFrame s) st p) (hst : st ≠ .ok) : exec i s = .next (answered k st p s) := by
  rw [hexec, takeRequest_receptive k n body s h, serve_turns_away k body s st p hbody hst]

/-- The same of a frame of a kind and a length that fit it. -/
theorem exec_frame_turns_away {k : RequestKind} {p q : List Byte} {st : Status} (h : Receptive s)
    (hfits : lengthFits k p.length = true) (hbody : ownerOf k p (acceptFrame s) = turnAway (acceptFrame s) st q) (hst : st ≠ .ok) :
    exec (.requestFrame (requestBytes (s.sli.address.setWidth 8) (kindCode k) p)) s = .next (answered k st q s) := by
  obtain ⟨hheld, haddress, hmute⟩ := h
  simp only [exec, execRequestFrame, running, hheld, takeChars_addressed hmute haddress _ (lengthFits_le hfits),
    takeAddressed_fits hfits, Bool.false_eq_true, if_false]
  rw [serve_turns_away k _ s st q hbody hst]

/-- An answered request has built its reply. -/
theorem replies_answered (k : RequestKind) (st : Status) (p : List Byte) (s : State) : Replies (answered k st p s) k st p :=
  ⟨_, rfl, rfl, rfl, rfl, rfl, rfl⟩

/-! ## Bytes that name things (R197) -/

@[simp] theorem readBranchByte_number (b : Branch) : readBranchByte (BitVec.ofNat 8 b.number) = some b := by cases b <;> rfl

theorem readBranchByte_none {x : Byte} (h : 2 < x.toNat) : readBranchByte x = none :=
  List.getElem?_eq_none (Nat.lt_iff_add_one_le.mp h)

/-! ## Field encodings (R197) -/

theorem flag_eq (b : Bool) : flag b = [BitVec.ofNat 8 b.toNat] := by cases b <;> rfl

theorem optional_byte {α : Type} (f : α → Nat) (o : Option α) :
    optional (fun x => byte (f x)) o = ((o.map f).map fun x => [1, BitVec.ofNat 8 x]).getD [0] := by cases o <;> rfl

theorem optional_eq {α : Type} (f : α → List Byte) (o : Option α) :
    optional f o = (o.map fun x => 1 :: f x).getD [0] := by cases o <;> rfl

theorem bitMask_four (a b c d : Bool) : bitMask [a, b, c, d] = a.toNat + 2 * b.toNat + 4 * c.toNat + 8 * d.toNat := by
  cases a <;> cases b <;> cases c <;> cases d <;> rfl

/-! ## READ_HISTORY (R177) -/

theorem takeFitting_length (m room : Nat) (l : List ClosureRecord) : (takeFitting m room l).length ≤ m := by
  induction m, room, l using takeFitting.induct with
  | case1 | case2 => simp [takeFitting]
  | case3 m room r rest hfits ih => simpa [takeFitting, hfits] using ih
  | case4 m room r rest hfits => simp [takeFitting, hfits]

theorem takeFitting_prefix (m room : Nat) (l : List ClosureRecord) : takeFitting m room l <+: l := by
  induction m, room, l using takeFitting.induct with
  | case1 | case2 => simp [takeFitting]
  | case3 m room r rest hfits ih => simpa [takeFitting, hfits] using ih
  | case4 m room r rest hfits => simp [takeFitting, hfits]

theorem takeFitting_sum (m room : Nat) (l : List ClosureRecord) : ((takeFitting m room l).map recordLength).sum ≤ room := by
  induction m, room, l using takeFitting.induct with
  | case1 | case2 => simp [takeFitting]
  | case3 m room r rest hfits ih =>
    simp only [takeFitting, hfits, if_true, List.map_cons, List.sum_cons]
    omega
  | case4 m room r rest hfits => simp [takeFitting, hfits]

/-- The record after the last one taken, where there is room for more records, is too long. -/
theorem takeFitting_full (m room : Nat) (l : List ClosureRecord) (hless : (takeFitting m room l).length < m) {r : ClosureRecord}
    (hnext : l[(takeFitting m room l).length]? = some r) : room < ((takeFitting m room l).map recordLength).sum + recordLength r := by
  induction m, room, l using takeFitting.induct with
  | case1 => simp at hless
  | case2 => simp [takeFitting] at hnext
  | case3 m room x rest hfits ih =>
    simp only [takeFitting, hfits, if_true, List.length_cons, List.getElem?_cons_succ, List.map_cons,
      List.sum_cons] at hless hnext ⊢
    have := ih (by omega) hnext
    omega
  | case4 m room x rest hfits =>
    simp only [takeFitting, hfits, if_false, List.length_nil, List.getElem?_cons_zero, Option.some_inj, List.map_nil,
      List.sum_nil] at hnext ⊢
    subst hnext
    omega

/-- The records are numbered without a break up to the number before `e`. -/
def Numbered (e : Nat) (l : List ClosureRecord) : Prop := ∀ i r, l[i]? = some r → r.seq.toNat + (l.length - i) = e

theorem numbered_tail {e : Nat} {r : ClosureRecord} {l : List ClosureRecord} (h : Numbered e (r :: l)) : Numbered e l := by
  intro i x hx
  have := h (i + 1) x (by simpa using hx)
  simpa using this

/-- The records from a number on are the end of the ring, so they are numbered the same way. -/
theorem numbered_filter {e : Nat} (q : Nat) {l : List ClosureRecord} (h : Numbered e l) :
    Numbered e (l.filter fun r => decide (q ≤ r.seq.toNat)) := by
  induction l with
  | nil => exact h
  | cons r l ih =>
    have hr : r.seq.toNat + (l.length + 1) = e := by simpa using h 0 r rfl
    by_cases hq : q ≤ r.seq.toNat
    · have hall : (r :: l).filter (fun r => decide (q ≤ r.seq.toNat)) = r :: l := by
        refine List.filter_eq_self.mpr fun x hx => ?_
        obtain ⟨i, hi, hxi⟩ := List.mem_iff_getElem.mp hx
        have := h i x (by rw [List.getElem?_eq_getElem hi, hxi])
        simp only [List.length_cons] at this
        simp only [decide_eq_true_eq]
        omega
      rwa [hall]
    · rw [List.filter_cons_of_neg (by simpa using hq)]
      exact ih (numbered_tail h)

theorem numbered_step {e : Nat} {l : List ClosureRecord} (h : Numbered e l) {i : Nat} {r r' : ClosureRecord}
    (hr : l[i]? = some r) (hr' : l[i + 1]? = some r') : r'.seq.toNat = r.seq.toNat + 1 := by
  have := h i r hr
  have := h (i + 1) r' hr'
  obtain ⟨hi, -⟩ := List.getElem?_eq_some_iff.mp hr'
  omega

/-- R177: the number that continues the reading, as the reply gives it. -/
theorem continuingSeq_toNat (h : History) (q : Index) (m : Nat) : (continuingSeq h (historyRecords h q m)).toNat =
    if h.ring = [] then 0
    else if historyRecords h q m = [] then (((h.ring.getLast?.map fun r => r.seq.toNat).getD 0) + 1) % 4294967296
    else ((((historyRecords h q m).getLast?.map fun r => r.seq.toNat).getD 0) + 1) % 4294967296 := by
  by_cases hring : h.ring = []
  · have hgiven : historyRecords h q m = [] := by
      have := takeFitting_prefix m historyRoom (recordsFrom h q)
      simpa [historyRecords, recordsFrom, hring] using this
    simp [hring, hgiven, continuingSeq, newestSeq]
  · rw [if_neg hring, continuingSeq]
    cases hlast : (historyRecords h q m).getLast? with
    | none =>
      rw [List.getLast?_eq_none_iff] at hlast
      obtain ⟨r, hr⟩ : ∃ r, h.ring.getLast? = some r := ⟨_, List.getLast?_eq_getLast_of_ne_nil hring⟩
      simp [hlast, newestSeq, hr, BitVec.toNat_add]
    | some r =>
      have hne : historyRecords h q m ≠ [] := by rintro e; simp [e] at hlast
      simp [hne, BitVec.toNat_add]

/-- R177: the reply flags, EMPTY and GAP. -/
theorem historyFlags_eq (h : History) (q : Index) : byte (bitMask [hasGap h q, h.ring.isEmpty]) =
    [if h.ring = [] then 2 else if q.toNat < (h.ring.head?.map fun r => r.seq.toNat).getD 0 then 1 else 0] := by
  cases hring : h.ring with
  | nil => simp [hasGap, oldestSeq, hring, byte, bitMask]
  | cons r l =>
    by_cases hq : q.toNat < r.seq.toNat <;> simp [hasGap, oldestSeq, hring, byte, bitMask, hq]

theorem historyReply_eq (h : History) (q : Index) (m : Nat) : historyReply h q m =
    [if h.ring = [] then 2 else if q.toNat < (h.ring.head?.map fun r => r.seq.toNat).getD 0 then 1 else 0,
        BitVec.ofNat 8 (historyRecords h q m).length] ++
      bigEndian 4 ((h.ring.head?.map fun r => r.seq.toNat).getD 0) ++ bigEndian 4 ((h.ring.getLast?.map fun r => r.seq.toNat).getD 0) ++
      bigEndian 4 (if h.ring = [] then 0
        else if historyRecords h q m = [] then (((h.ring.getLast?.map fun r => r.seq.toNat).getD 0) + 1) % 4294967296
        else ((((historyRecords h q m).getLast?.map fun r => r.seq.toNat).getD 0) + 1) % 4294967296) ++
      ((historyRecords h q m).map recordBytes).flatten := by
  have hoptional (o : Option ClosureRecord) : ((o.map ClosureRecord.seq).getD 0).toNat = (o.map fun r => r.seq.toNat).getD 0 := by
    cases o <;> rfl
  rw [← continuingSeq_toNat]
  unfold historyReply
  dsimp only
  rw [oldestSeq, newestSeq, hoptional, hoptional, historyFlags_eq]
  rfl

/-! ## READ_BRANCH and READ_STATE (R17, R93) -/

theorem perBranch_flatten {α : Type} (t : PerBranch α) (f : α → Nat) :
    (t.toList.map fun x => byte (f x)).flatten = Branch.all.map fun b => BitVec.ofNat 8 (f (t.get b)) := rfl


theorem reportedDecision_eq (d : BranchDemand) : reportedDecision d =
    if d.state = .blocked then some (d.decision.getD ⟨0, 2048⟩)
    else if d.window.map (·.first) = some false then d.decision else none := by
  have hclosed : hasClosed d = true ↔ d.window.map (·.first) = some false := by
    cases hw : d.window with
    | none => simp [hasClosed, hw]
    | some w => simp [hasClosed, hw]
  unfold reportedDecision
  simp only [hclosed]
  rfl

@[simp] theorem two_length (n : Nat) : (two n).length = 2 := bigEndian_length 2 n
@[simp] theorem four_length (n : Nat) : (four n).length = 4 := bigEndian_length 4 n
@[simp] theorem byte_length (n : Nat) : (byte n).length = 1 := rfl
@[simp] theorem bigEndianInt_length (k : Nat) (z : Int) : (bigEndianInt k z).length = k := bigEndian_length k _

/-- R93: the reported decision stands after the branch's settings, state and causes. -/
theorem branchReport_decision (s : State) (b : Branch) : ∃ rest, (branchReport s b).drop 16 =
    optional (fun v => two v.susceptance ++ two v.delay) (reportedDecision (s.bdu.branches.get b)) ++ rest := by
  have hsplit : ∃ rest, branchReport s b =
      (bigEndian 3 (s.bdu.branches.get b).settings.gain ++ bigEndianInt 2 (s.bdu.branches.get b).settings.trim ++
        two (s.bdu.branches.get b).settings.fallback ++ two (s.bdu.branches.get b).settings.step ++
        byte (s.bdu.branches.get b).settings.holdLimit ++ four (s.bdu.branches.get b).settings.floor ++
        byte (codeBranchState (s.bdu.branches.get b).state) ++ causeBytes (s.causes.get b)) ++
      (optional (fun v => two v.susceptance ++ two v.delay) (reportedDecision (s.bdu.branches.get b)) ++ rest) := by
    unfold branchReport
    simp only [List.append_assoc]
    exact ⟨_, rfl⟩
  obtain ⟨rest, hrest⟩ := hsplit
  exact ⟨rest, by rw [hrest]; exact List.drop_left' (by simp [causeBytes])⟩

theorem codeCondition_eq (l : SampleLink) : codeCondition (measurementCondition l) =
    if l.link = .silent ∨ l.link = .lost then 0
    else if (l.chains.get .a).status = .failed ∧ (l.chains.get .b).status = .failed then 1 else 2 := by
  unfold measurementCondition
  cases l.link with
  | silent | lost => rfl
  | flowing | late =>
    simp only [reduceCtorEq, or_self, if_false]
    split <;> rfl

/-- R17, byte for byte. -/
theorem stateReport_eq (s : State) : stateReport s =
    [BitVec.ofNat 8 (codeDevice s.oc.device), BitVec.ofNat 8 (codeHalt s.oc.halt.cause)] ++
      ((s.oc.halt.branch.map Branch.number).map fun x => [1, BitVec.ofNat 8 x]).getD [0] ++
      ((s.oc.halt.group.map Group.number).map fun x => [1, BitVec.ofNat 8 x]).getD [0] ++
      ((s.oc.halt.failure.map codeFailure).map fun x => [1, BitVec.ofNat 8 x]).getD [0] ++
      (s.oc.halt.frameIndex.map fun i => 1 :: bigEndian 4 i.toNat).getD [0] ++
      [BitVec.ofNat 8 s.oc.tripRequest.toNat, BitVec.ofNat 8 s.oc.fallbackActive.toNat] ++
      ((s.oc.lockFrequency.map codeNominal).map fun x => [1, BitVec.ofNat 8 x]).getD [0] ++
      [BitVec.ofNat 8 (codeLink s.slr.link), BitVec.ofNat 8 (if s.slr.link = .silent ∨ s.slr.link = .lost then 0
        else if (s.slr.chains.get .a).status = .failed ∧ (s.slr.chains.get .b).status = .failed then 1 else 2)] ++
      (Branch.all.map fun b => BitVec.ofNat 8 (codeBranchState (s.bdu.branches.get b).state)) ++
      (Branch.all.map fun b => BitVec.ofNat 8 ((s.causes.get b).supervisor.toNat + 2 * (s.causes.get b).valve.toNat +
        4 * (s.causes.get b).sync.toNat + 8 * (s.causes.get b).plant.toNat)) ++
      [if s.pli.latch = none then 1 else 0, BitVec.ofNat 8 (s.pli.inputs.get .furnaceBreaker).debounced.toNat,
        BitVec.ofNat 8 (codeCapture s.hr.capture)] := by
  have hlatch : byte (if s.pli.latch.isSome then 0 else 1) = [if s.pli.latch = none then 1 else 0] := by
    cases s.pli.latch <;> rfl
  have hcauses : (s.causes.toList.map causeBytes).flatten = Branch.all.map fun b => BitVec.ofNat 8 ((s.causes.get b).supervisor.toNat +
      2 * (s.causes.get b).valve.toNat + 4 * (s.causes.get b).sync.toNat + 8 * (s.causes.get b).plant.toNat) := by
    simp only [← bitMask_four]
    rfl
  rw [stateReport, haltBytes, hlatch, hcauses, perBranch_flatten, codeCondition_eq, optional_byte, optional_byte, optional_byte, optional_byte,
    optional_eq]
  simp only [flag_eq, byte, four, List.append_assoc, List.cons_append, List.nil_append]

end

/-- Settles O14. -/
theorem readsChangeNothing : Obligations.ReadsChangeNothing := by
  unfold Obligations.ReadsChangeNothing
  refine ⟨fun s h => ⟨?_, ?_, fun b => ?_, fun x hx => ?_, fun q m => ?_⟩, fun s q m hring => ?_, fun s q m => ⟨fun r => ?_, ?_⟩, fun s => ?_,
    fun s x h hx => ?_, fun s b => ?_⟩
  · exact exec_answers h (body := doReadState) rfl rfl (.inr (.inl rfl))
  · exact exec_answers h (body := doReadChannels) rfl rfl (.inr (.inl rfl))
  · exact exec_answers h (body := doReadBranch _) rfl (by rw [doReadBranch, readBranchByte_number]; rfl) (.inr (.inl rfl))
  · exact exec_turns_away h (body := doReadBranch x) rfl (by simp [doReadBranch, readBranchByte_none hx]) nofun
  · by_cases hm : 1 ≤ m.toNat ∧ m.toNat ≤ 16
    · rw [if_pos hm]
      exact exec_answers h (body := doReadHistory q m) rfl (by simp only [doReadHistory, inRange, hm, and_self, decide_true]; rfl) (.inr (.inl rfl))
    · rw [if_neg hm]
      exact exec_turns_away h (body := doReadHistory q m) rfl (by simp only [doReadHistory, inRange, hm, decide_false]; rfl) nofun
  · exact ⟨takeFitting_length .., takeFitting_prefix .., takeFitting_sum .., fun hless r hr => takeFitting_full _ _ _ hless hr,
      fun i r r' hr hr' => numbered_step (numbered_filter q.toNat hring.2) hr hr'⟩
  · simp [recordsFrom]
  · exact historyReply_eq s.hr q m
  · exact stateReport_eq s
  · have hx0 : field8 [x] 0 = x := field8_eq rfl
    refine exec_frame_turns_away h (k := .readValves) rfl ?_ nofun
    simp only [ownerOf, hx0]
    rw [if_neg (by rintro rfl; simp at hx), if_neg (by rintro rfl; simp at hx)]
  · obtain ⟨rest, hrest⟩ := branchReport_decision s b
    dsimp only
    rw [hrest, ← reportedDecision_eq]
    cases reportedDecision (s.bdu.branches.get b) with
    | none => rfl
    | some d => 
      rfl

end Sys2Proof.Machine

/-! The requests that clear what they report, and those that replace settings whole (R39 to R42, R64, R91 to R93, R98 to R100, R136,
R139, R159, R189, R191, R192, R196). -/

namespace Sys2Proof.Machine

open Safety

section
variable {s : State}

/-! ## Reports that clear (R42, R137, R139, R189, R192) -/

theorem attention_noEvents (s : State) : attention { s with sli := { s.sli with events := noEvents } } = false := by
  have hflags : eventFlags noEvents = 0 := by decide
  simp [attention, hflags]

/-- READ_COUNTERS by its clear byte. -/
theorem doReadCounters_eq (x : Byte) (report : List Byte) (cleared s : State) : doReadCounters x report cleared s =
    if x = 1 then okay cleared report else if x = 0 then okay s report else turnAway s .refusedRange [] := by
  unfold doReadCounters readYesNo
  repeat' split
  all_goals simp_all

/-- R159: the ranges of the preset's values. -/
theorem readPreset_eq (x y z : Half) (k : Byte) : readPreset x y z k =
    if x.toNat ≤ 4095 ∧ y.toNat ≤ 4095 ∧ z.toNat ≤ 4095 ∧ 1 ≤ k.toNat then some ⟨⟨x.toNat, y.toNat, z.toNat⟩, k.toNat⟩
    else none := by
  have hk : k.toNat ≤ 255 := Nat.le_of_lt_succ k.isLt
  simp [readPreset, inRange, hk, and_assoc]

end

/-- Settles O15. -/
theorem reportsThatClear : Obligations.ReportsThatClear := by
  unfold Obligations.ReportsThatClear
  refine ⟨fun s h => ⟨?_, attention_noEvents s⟩, fun s h => ?_, fun s x h => ⟨fun hx => ?_, ?_, ?_⟩, fun s x y h hx => ?_⟩
  · exact exec_answers h (body := doReadEvents) rfl rfl (.inr (.inl rfl))
  · have hexec := exec_answers (i := .readValvesGroupReport) h (body := doReadGroups) (u := takeSnapshots s) rfl rfl (.inr (.inl rfl))
    refine ⟨_, hexec, replies_answered _ _ _ _, rfl, rfl, rfl, fun g => ?_⟩
    simp [answered, takeSnapshots]
  · have h0 : x ≠ 0 := by rintro rfl; simp at hx
    have h1 : x ≠ 1 := by rintro rfl; simp at hx
    have hrefused (report : List Byte) (cleared s : State) : doReadCounters x report cleared s = turnAway s .refusedRange [] := by
      rw [doReadCounters_eq, if_neg h1, if_neg h0]
    exact ⟨exec_turns_away h (body := doReadCountersLink x) rfl (hrefused _ _ _) nofun,
      exec_turns_away h (body := doReadCountersValve x) rfl (hrefused _ _ _) nofun,
      exec_turns_away h (body := doReadCountersSupervisory x) rfl (hrefused _ _ _) nofun⟩
  · rintro rfl
    exact ⟨exec_answers h (body := doReadCountersLink 0) rfl rfl (.inr (.inl rfl)),
      exec_answers h (body := doReadCountersValve 0) rfl rfl (.inr (.inl rfl)),
      exec_answers h (body := doReadCountersSupervisory 0) rfl rfl (.inr (.inl rfl))⟩
  · rintro rfl
    refine ⟨exec_answers h (body := doReadCountersLink 1) rfl rfl (.inr (.inl rfl)), ?_, ?_⟩
    · have hexec := exec_answers (i := .readCountersValve 1) h (body := doReadCountersValve 1) (u := clearValveCounters s) rfl rfl
        (.inr (.inl rfl))
      exact ⟨_, hexec, replies_answered _ _ _ _, rfl, by simp [answered, clearValveCounters], by simp [answered, clearValveCounters]⟩
    · have hexec : exec (.readCountersSupervisory 1) s = .next (serve .readCounters (doReadCountersSupervisory 1) s) :=
        congrArg _ (takeRequest_receptive .readCounters 2 _ s h)
      exact ⟨_, hexec, rfl, ⟨_, rfl, rfl, rfl, rfl, rfl, rfl⟩, rfl, rfl, rfl⟩
  · have hx0 : field8 [x, y] 0 = x := field8_eq rfl
    refine exec_frame_turns_away h (k := .readCounters) rfl ?_ nofun
    simp only [ownerOf, hx0]
    rw [if_neg (by rintro rfl; simp at hx), if_neg (by rintro rfl; simp at hx), if_neg (by rintro rfl; simp at hx)]

/-- Settles O16. -/
theorem setLinkReplacesTolerance : Obligations.SetLinkReplacesTolerance := by
  unfold Obligations.SetLinkReplacesTolerance
  refine ⟨fun s v h hc => ?_, fun l pair => ?_, fun k s => by cases k <;> rfl⟩
  · by_cases hv : v.toNat ≤ 32767
    · rw [if_pos hv]
      exact exec_answers h (body := doSetLink v) rfl (by simp only [doSetLink, inRange, hv, Nat.zero_le, and_self, decide_true]; rfl)
        (.inr (.inr hc))
    · rw [if_neg hv]
      exact exec_turns_away h (body := doSetLink v) rfl (by simp [doSetLink, inRange, hv]) nofun
  · have hboth (p : LinkChannel → Prop) : (∀ c, p c) ↔ p .a ∧ p .b :=
      ⟨fun h => ⟨h _, h _⟩, fun h c => by cases c; exacts [h.1, h.2]⟩
    rw [hboth, hboth]
    simp only [compared, Bool.and_eq_true, bne_iff_ne]
    tauto

/-- Settles O27. -/
theorem armPresetArms : Obligations.ArmPresetArms := by
  unfold Obligations.ArmPresetArms
  intro s x y z k h hc
  by_cases hopen : (s.oc.device = .acquire ∨ s.oc.device = .run) ∧ (s.pli.inputs.get .furnaceBreaker).debounced = false
  · rw [if_neg (not_not.mpr hopen)]
    have hbody : doArmPreset x y z k (acceptFrame s) = match readPreset x y z k with
        | some v => okay (acceptFrame { s with pli := { s.pli with latch := some v } })
            (plantReport { s with pli := { s.pli with latch := some v } })
        | none => turnAway (acceptFrame s) .refusedRange (plantReport s) := if_pos hopen
    rw [readPreset_eq] at hbody
    by_cases hrange : x.toNat ≤ 4095 ∧ y.toNat ≤ 4095 ∧ z.toNat ≤ 4095 ∧ 1 ≤ k.toNat
    · rw [if_pos hrange] at hbody ⊢
      exact exec_answers h (body := doArmPreset x y z k) rfl hbody (.inr (.inr hc))
    · rw [if_neg hrange] at hbody ⊢
      exact exec_turns_away h (body := doArmPreset x y z k) rfl hbody nofun
  · rw [if_pos hopen]
    exact exec_turns_away h (body := doArmPreset x y z k) rfl (if_neg hopen) nofun

/-! ## Channels of the sample link (R40, R41) -/

@[simp] theorem readChainByte_number (c : LinkChannel) : readChainByte (BitVec.ofNat 8 c.number) = some c := by cases c <;> rfl

theorem readChainByte_none {x : Byte} (h : 1 < x.toNat) : readChainByte x = none :=
  List.getElem?_eq_none (Nat.lt_iff_add_one_le.mp h)

/-- Settles O17. -/
theorem channelRequests : Obligations.ChannelRequests := by
  unfold Obligations.ChannelRequests
  refine ⟨fun s c h hc => ?_, fun s h hc => ?_, fun s x h hx => ?_⟩
  · have hbody : doSelectPrimary (BitVec.ofNat 8 c.number) (acceptFrame s) =
        if (s.slr.chains.get c).status = .failed then turnAway (acceptFrame s) .refusedState (byte s.slr.primary.number)
        else okay (acceptFrame { s with slr := { s.slr with primary := c } }) (byte c.number) := by
      rw [doSelectPrimary, readChainByte_number]
      rfl
    by_cases hfailed : (s.slr.chains.get c).status = .failed
    · rw [if_pos hfailed] at hbody ⊢
      exact exec_turns_away h (body := doSelectPrimary _) rfl hbody nofun
    · rw [if_neg hfailed] at hbody ⊢
      exact exec_answers h (body := doSelectPrimary _) rfl hbody (.inr (.inr hc))
  · have hexec := exec_answers (i := .resetChannels) h (body := doResetChannels)
      (u := { s with slr := { s.slr with
        chains := .fill ⟨.good, 0⟩
        quantities := s.slr.quantities.mapKey fun _ r => { r with mismatchRun := 0, agreementRun := 0, diverged := false } } })
      rfl rfl (.inr (.inr hc))
    refine ⟨_, hexec, replies_answered _ _ _ _, rfl, rfl, fun c => by cases c <;> rfl, by simp [answered], ?_⟩
    simp only [answered, measurementCondition, PerLink.get_fill]
    cases s.slr.link <;> rfl
  · exact exec_turns_away h (body := doSelectPrimary x) rfl (by simp [doSelectPrimary, readChainByte_none hx, byte]) nofun

/-! ## ENABLE and RESTART (R3, R47, R196) -/

/-- Settles O21. -/
theorem enableAndRestartAnswered : Obligations.EnableAndRestartAnswered := by
  unfold Obligations.EnableAndRestartAnswered
  refine ⟨fun s h => ⟨fun hready => ?_, fun hready => ?_⟩, fun s h hc => exec_answers h (body := doRestart) rfl rfl (.inr (.inr hc))⟩
  · have hexec := exec_answers (i := .enable) h (body := doEnable) (u := beginAcquisition s) rfl (if_pos hready)
      (.inr (.inr (.inl (by simp [beginAcquisition]))))
    exact ⟨_, hexec, replies_answered _ _ _ _, rfl, rfl, by simp [answered, beginAcquisition], rfl, rfl, rfl⟩
  · exact exec_turns_away h (body := doEnable) rfl (if_neg hready) nofun

end Sys2Proof.Machine

/-! The settings that a request replaces whole, or not at all (R64, R91, R92, R98 to R100, R136, R191). -/

namespace Sys2Proof.Machine

open Safety

section
variable {s : State}

/-! ## Requests after which the configuration is evaluated (R2) -/

theorem evaluateConfiguration_eq (s : State) : evaluateConfiguration s = { s with oc := { s.oc with
    device := if s.oc.device = .unset ∧ configured s = true then .ready else s.oc.device } } := by
  unfold evaluateConfiguration
  split <;> rfl

theorem evaluateConfiguration_acceptFrame (s : State) :
    evaluateConfiguration (acceptFrame s) = acceptFrame (evaluateConfiguration s) := by
  rw [evaluateConfiguration_eq, evaluateConfiguration_eq]
  rfl

/-- A request row that changes the configuration is answered on the state after its evaluation. -/
theorem exec_answers_evaluated {i : Instr} {k : RequestKind} {n : Nat} {body : State → Response} (h : Receptive s)
    (hexec : exec i s = .next (running (takeRequest k n body) s)) {u : State} {p : List Byte}
    (hbody : body (acceptFrame s) = okay (acceptFrame u) p) (hk : readsOnly k = false) :
    exec i s = .next (answered k .ok p (evaluateConfiguration u)) := by
  rw [hexec, takeRequest_receptive k n body s h, serve, hbody]
  simp only [okay, hk, and_self, if_true, evaluateConfiguration_acceptFrame]
  rfl

/-! ## Ranges -/

/-- R64: the ranges of the tracking settings. -/
theorem readSync_eq (m : Byte) (h w : Half) (l lim : Byte) : readSync m h w l lim =
    (readMode m).bind fun a => if h.toNat ≤ 16383 ∧ (64 ≤ w.toNat ∧ w.toNat ≤ 512) ∧ 2 ≤ lim.toNat ∧ lim.toNat ≤ 16 then
      some ⟨a, h.toNat, w.toNat, l.toNat, lim.toNat⟩ else none := by
  unfold readSync
  cases readMode m with
  | none => rfl
  | some a => simp [inRange, and_assoc]

theorem readMode_none {m : Byte} (h : 3 < m.toNat) : readMode m = none := by
  have hne (n : Byte) (hn : n.toNat ≤ 3) : m ≠ n := by rintro rfl; omega
  rw [readMode, if_neg (hne 0 (by decide)), if_neg (hne 1 (by decide)), if_neg (hne 2 (by decide)), if_neg (hne 3 (by decide))]

theorem readMode_code (a : AcquisitionMode) : readMode (BitVec.ofNat 8 (codeMode a)) = some a := by cases a <;> rfl

/-- R91: the ranges of a branch's settings. -/
theorem readBranchSettings_eq (k : BitVec 24) (tr fb st : Half) (hold : Byte) (fl : BitVec 32) :
    readBranchSettings k tr fb st hold fl =
      if 1 ≤ k.toNat ∧ -2048 ≤ tr.toInt ∧ tr.toInt ≤ 2047 ∧ fb.toNat ≤ 4095 ∧ 1 ≤ st.toNat ∧ st.toNat ≤ 4095 ∧
        1 ≤ hold.toNat ∧ hold.toNat ≤ 32 ∧ fl.toNat ≤ 1073741824 then
        some ⟨k.toNat, tr.toInt, fb.toNat, st.toNat, hold.toNat, fl.toNat⟩ else none := by
  have hk : k.toNat ≤ 16777215 := Nat.le_of_lt_succ k.isLt
  simp [readBranchSettings, inRange, hk, and_assoc]

/-- R136: the ranges of the valve settings. -/
theorem readValveSettings_eq (g r : Byte) (last : Half) (ref mis red trip : Byte) : readValveSettings g r last ref mis red trip =
    if 8 ≤ g.toNat ∧ g.toNat ≤ 128 ∧ r.toNat ≤ 3 ∧ 1536 ≤ last.toNat ∧ last.toNat ≤ 2040 ∧ 1 ≤ ref.toNat ∧
      ref.toNat ≤ 16 ∧ 1 ≤ mis.toNat ∧ mis.toNat ≤ 8 ∧ red.toNat ≤ 7 ∧ trip.toNat ≤ 1 then
      some ⟨g.toNat, r.toNat, last.toNat, ref.toNat, mis.toNat, red.toNat, trip == 1⟩ else none := by
  have htrip : readYesNo trip = if trip.toNat ≤ 1 then some (trip == 1) else none := by
    by_cases h1 : trip = 1
    · subst h1; rfl
    · by_cases h0 : trip = 0
      · subst h0; rfl
      · rw [readYesNo, if_neg h1, if_neg h0, if_neg (by bv_omega)]
  unfold readValveSettings
  rw [htrip]
  by_cases hle : trip.toNat ≤ 1
  · simp [hle, inRange, and_assoc]
  · simp [hle]

/-- R191: a mask without bits 29 to 31. -/
theorem maskFits_iff (m : BitVec 32) : m.extractLsb' 29 3 = 0#3 ↔ m.toNat < 536870912 := by
  rw [← BitVec.toNat_inj, BitVec.extractLsb'_toNat, Nat.shiftRight_eq_div_pow]
  have := m.isLt
  simp
  omega

/-! ## The table's first fault (R99) -/

/-- The entry before the `k`-th, where `above` stands before the first. -/
def entryBefore (above : Option Nat) (e : List Nat) : Nat → Option Nat
  | 0 => above
  | k + 1 => e[k]?

/-- What is wrong with the `k`-th entry: its range, and else its order. -/
def faultAt (above : Option Nat) (e : List Nat) (k : Nat) : Option TableFault :=
  e[k]?.bind fun x =>
    if x < 1024 ∨ 2048 < x then some .outOfRange
    else if (entryBefore above e k).any fun p => decide (p < x) then some .increasing else none

theorem faultAt_succ (above : Option Nat) (x : Nat) (e : List Nat) (k : Nat) :
    faultAt above (x :: e) (k + 1) = faultAt (some x) e k := by
  cases k <;> rfl

theorem firstFaultFrom_cons (k : Nat) (above : Option Nat) (x : Nat) (e : List Nat) : firstFaultFrom k above (x :: e) =
    match faultAt above (x :: e) 0 with
    | some f => some (k, f)
    | none => firstFaultFrom (k + 1) (some x) e := by
  have hfault : faultAt above (x :: e) 0 = if x < 1024 ∨ 2048 < x then some .outOfRange
    else if above.any fun p => decide (p < x) then some .increasing else none := rfl
  rw [hfault, firstFaultFrom]
  split
  · rfl
  · split <;> rfl

theorem firstFaultFrom_none {k : Nat} {above : Option Nat} {e : List Nat} :
    firstFaultFrom k above e = none ↔ ∀ j, faultAt above e j = none := by
  induction e generalizing k above with
  | nil => simp [firstFaultFrom, faultAt]
  | cons x e ih =>
    rw [firstFaultFrom_cons]
    cases hfault : faultAt above (x :: e) 0 with
    | some f => simpa using ⟨0, by simp [hfault]⟩
    | none =>
      dsimp only
      rw [ih]
      refine ⟨fun h j => ?_, fun h j => faultAt_succ above x e j ▸ h (j + 1)⟩
      cases j with
      | zero => exact hfault
      | succ j => exact faultAt_succ above x e j ▸ h j

theorem firstFaultFrom_some {k i : Nat} {f : TableFault} {above : Option Nat} {e : List Nat} :
    firstFaultFrom k above e = some (i, f) ↔
      ∃ j, i = k + j ∧ faultAt above e j = some f ∧ ∀ l, l < j → faultAt above e l = none := by
  induction e generalizing k above with
  | nil => simp [firstFaultFrom, faultAt]
  | cons x e ih =>
    rw [firstFaultFrom_cons]
    cases hfault : faultAt above (x :: e) 0 with
    | some g =>
      dsimp only
      refine ⟨fun h => ?_, fun ⟨j, hi, hj, hbefore⟩ => ?_⟩
      · obtain ⟨rfl, rfl⟩ : k = i ∧ g = f := by simpa using h
        exact ⟨0, rfl, hfault, by simp⟩
      · cases j with
        | zero =>
          obtain rfl : g = f := Option.some_inj.mp (hfault.symm.trans hj)
          rw [hi, Nat.add_zero]
        | succ j => simp [hbefore 0 (Nat.succ_pos j)] at hfault
    | none =>
      dsimp only
      rw [ih]
      refine ⟨fun ⟨j, hi, hj, hbefore⟩ => ⟨j + 1, by omega, by rwa [faultAt_succ], fun l hl => ?_⟩, fun ⟨j, hi, hj, hbefore⟩ => ?_⟩
      · cases l with
        | zero => exact hfault
        | succ l => rw [faultAt_succ]; exact hbefore l (by omega)
      · cases j with
        | zero => simp [hfault] at hj
        | succ j =>
          exact ⟨j, by omega, by rwa [faultAt_succ] at hj, fun l hl => by rw [← faultAt_succ above]; exact hbefore (l + 1) (by omega)⟩

/-- The `k`-th entry lies outside 1024..2048. -/
def OutAt (e : List Nat) (k : Nat) : Prop := ∃ x, e[k]? = some x ∧ (x < 1024 ∨ 2048 < x)

/-- The `k`-th entry is above the one before it. -/
def RisesAt (e : List Nat) (k : Nat) : Prop := ∃ x y, 1 ≤ k ∧ e[k - 1]? = some x ∧ e[k]? = some y ∧ x < y

theorem risesAt_iff {e : List Nat} {k y : Nat} (hy : e[k]? = some y) :
    RisesAt e k ↔ (entryBefore none e k).any (fun p => decide (p < y)) = true := by
  cases k with
  | zero => simp [RisesAt, entryBefore]
  | succ k => simp [RisesAt, entryBefore, hy, Option.any_eq_true]

theorem faultAt_cases (e : List Nat) (k : Nat) :
    (faultAt none e k = some .outOfRange ↔ OutAt e k) ∧
      (faultAt none e k = some .increasing ↔ ¬ OutAt e k ∧ RisesAt e k) ∧
      (faultAt none e k = none ↔ ¬ OutAt e k ∧ ¬ RisesAt e k) := by
  cases hk : e[k]? with
  | none => simp [faultAt, hk, OutAt, RisesAt]
  | some x =>
    have hout : OutAt e k ↔ x < 1024 ∨ 2048 < x := by simp [OutAt, hk]
    rw [risesAt_iff hk, hout, faultAt, hk, Option.bind_some]
    by_cases h : x < 1024 ∨ 2048 < x
    · simp [h]
    · by_cases hr : (entryBefore none e k).any (fun p => decide (p < x)) = true <;> simp [h, hr]

theorem firstFault_some {e : List Nat} {k : Nat} {f : TableFault} : firstFault e = some (k, f) ↔
    faultAt none e k = some f ∧ ∀ j, j < k → ¬ OutAt e j ∧ ¬ RisesAt e j := by
  simp only [firstFault, firstFaultFrom_some, Nat.zero_add, ← (faultAt_cases e _).2.2]
  exact ⟨fun ⟨j, hj, h⟩ => hj ▸ h, fun h => ⟨k, rfl, h⟩⟩

/-- R2: a table makes a device configured whose gains are all set. -/
theorem configured_of_table (l : List Nat) : configured { s with table := some l } = true ↔
    ∀ b ∈ Branch.all, (s.bdu.branches.get b).settings.gain ≠ 0 := by
  rw [configured_iff]
  simp only [Option.isSome_some, true_and]
  exact ⟨fun h b _ => h b, fun h b => h b (by cases b <;> decide)⟩

end

/-- Settles O19. -/
theorem loadTableAllOrNothing : Obligations.LoadTableAllOrNothing := by
  unfold Obligations.LoadTableAllOrNothing
  refine ⟨fun s entries h hlen => ?_, fun e => ⟨?_, fun k => ?_, fun k => ?_⟩⟩
  · have hexec : exec (.loadTable entries) s = .next (running (takeRequest .loadTable (2 * entries.length) (doLoadTable entries)) s) := by
      simp only [exec, execLoadTable, if_pos hlen]
    refine ⟨fun ⟨hunset, hready⟩ => ?_, fun hstill => ⟨fun k f hfault => ?_, fun hfault => ?_⟩⟩
    · exact exec_turns_away h hexec ((if_neg (by simp [hunset, hready])).trans (by simp [loadReply])) nofun
    · have hbody : doLoadTable entries (acceptFrame s) =
          turnAway (acceptFrame s) .refusedRange (loadReply (acceptFrame s) (some (k, f))) := by
        rw [doLoadTable, if_pos (by simpa using hstill)]
        dsimp only
        rw [hfault]
      exact exec_turns_away h hexec hbody nofun
    · have hbody : doLoadTable entries (acceptFrame s) = okay (acceptFrame { s with table := some (entries.map (·.toNat)) }) [1] := by
        rw [doLoadTable, if_pos (by simpa using hstill)]
        dsimp only
        rw [hfault]
        rfl
      have hexec' := exec_answers_evaluated h hexec hbody rfl
      rw [evaluateConfiguration_eq] at hexec'
      refine ⟨_, hexec', rfl, ?_, replies_answered _ _ _ _⟩
      simp only [answered, configured_of_table]
  · rw [firstFault, firstFaultFrom_none]
    exact forall_congr' fun k => (faultAt_cases e k).2.2
  · rw [firstFault_some, (faultAt_cases e k).1]
    rfl
  · rw [firstFault_some, (faultAt_cases e k).2.1, and_assoc]
    rfl

section
variable {s : State}

theorem configured_of_settings (b : Branch) (x : BranchSettings) (hx : x.gain ≠ 0) :
    configured (modDemand b (fun d => { d with settings := x }) s) = true ↔
      s.table ≠ none ∧ ∀ c ∈ Branch.all, c ≠ b → (s.bdu.branches.get c).settings.gain ≠ 0 := by
  rw [configured_iff, modDemand_table, Option.isSome_iff_ne_none]
  refine and_congr_right fun _ => ⟨fun h c _ hc => ?_, fun h c => ?_⟩
  · simpa [PerBranch.get_set_ne _ _ _ _ hc] using h c
  · by_cases hc : c = b
    · simpa [hc] using hx
    · simpa [PerBranch.get_set_ne _ _ _ _ hc] using h c (by cases c <;> decide) hc

/-- R92: twelve shares in range are the table, in its own order. -/
theorem readShares_eq {shares : List Half} (hlen : shares.length = 12) : ∃ x : PerBank (PerBranch Nat),
    readShares shares = (if ∀ y ∈ shares, y.toNat ≤ 4095 then some x else none) ∧
      (x.toList.map fun r => (r.toList.map two).flatten).flatten = (shares.map fun y => bigEndian 2 y.toNat).flatten := by
  match shares, hlen with
  | [a0, b0, c0, a1, b1, c1, a2, b2, c2, a3, b3, c3], _ =>
    refine ⟨⟨⟨a0.toNat, b0.toNat, c0.toNat⟩, ⟨a1.toNat, b1.toNat, c1.toNat⟩, ⟨a2.toNat, b2.toNat, c2.toNat⟩,
      ⟨a3.toNat, b3.toNat, c3.toNat⟩⟩, ?_, rfl⟩
    simp only [readShares, inRange, List.all_eq_true, decide_eq_true_eq, Nat.zero_le, true_and]

theorem doSetSync_refuses {m : Byte} {hh w : Half} {l lim : Byte} (hstill : s.oc.device = .unset ∨ s.oc.device = .ready)
    (hbad : 3 < m.toNat ∨ 16383 < hh.toNat ∨ w.toNat < 64 ∨ 512 < w.toNat ∨ lim.toNat < 2 ∨ 16 < lim.toNat) :
    doSetSync m hh w l lim (acceptFrame s) = turnAway (acceptFrame s) .refusedRange (syncBytes s.ct.settings) := by
  have hread : readSync m hh w l lim = none := by
    rw [readSync_eq]
    cases hm : readMode m with
    | none => rfl
    | some a =>
      have hmode : m.toNat ≤ 3 := by
        by_contra hlong
        simp [readMode_none (Nat.not_le.mp hlong)] at hm
      rw [Option.bind_some, if_neg (by omega)]
  rw [doSetSync, if_pos (by simpa using hstill), hread]
  rfl

theorem doSetSync_accepts (a : AcquisitionMode) {hh w : Half} {l lim : Byte} (hstill : s.oc.device = .unset ∨ s.oc.device = .ready)
    (hok : hh.toNat ≤ 16383 ∧ (64 ≤ w.toNat ∧ w.toNat ≤ 512) ∧ 2 ≤ lim.toNat ∧ lim.toNat ≤ 16) :
    doSetSync (BitVec.ofNat 8 (codeMode a)) hh w l lim (acceptFrame s) =
      okay (acceptFrame { s with ct := { s.ct with settings := ⟨a, hh.toNat, w.toNat, l.toNat, lim.toNat⟩ } })
        ([BitVec.ofNat 8 (codeMode a)] ++ bigEndian 2 hh.toNat ++ bigEndian 2 w.toNat ++ [l, lim]) := by
  have hbytes : syncBytes ⟨a, hh.toNat, w.toNat, l.toNat, lim.toNat⟩ =
      [BitVec.ofNat 8 (codeMode a)] ++ bigEndian 2 hh.toNat ++ bigEndian 2 w.toNat ++ [l, lim] := by simp [syncBytes, byte, two]
  rw [doSetSync, if_pos (by simpa using hstill), readSync_eq, readMode_code, Option.bind_some, if_pos hok, ← hbytes]
  rfl

/-- SET_BRANCH of a length that fits. -/
theorem exec_setBranch (x : Byte) (k : BitVec 24) (tr fb st : Half) (hold : Byte) (fl : BitVec 32) {rest : List Byte}
    (hlen : rest.length ≤ 185) : exec (.setBranch x k tr fb st hold fl rest) s =
      .next (running (takeRequest .setBranch (15 + rest.length) (doSetBranch x k tr fb st hold fl)) s) := by
  simp only [exec, execSetBranch, if_neg (Nat.not_lt.mpr hlen)]

theorem doSetBranch_eq (b : Branch) (k : BitVec 24) (tr fb st : Half) (hold : Byte) (fl : BitVec 32) :
    doSetBranch (BitVec.ofNat 8 b.number) k tr fb st hold fl (acceptFrame s) =
      match readBranchSettings k tr fb st hold fl with
      | none => turnAway (acceptFrame s) .refusedRange (branchReport s b)
      | some x => okay (acceptFrame (modDemand b (fun d => { d with settings := x }) s))
          (branchReport (modDemand b (fun d => { d with settings := x }) s) b) := by
  rw [doSetBranch, readBranchByte_number]
  rfl

theorem flag_yesNo {x : Byte} (h : x.toNat ≤ 1) : flag (x == 1) = [x] := by
  obtain rfl | rfl : x = 0 ∨ x = 1 := by bv_omega
  · rfl
  · rfl

theorem doSetValve_eq (g r : Byte) (last : Half) (ref mis red trip : Byte) :
    doSetValve g r last ref mis red trip (acceptFrame s) =
      match readValveSettings g r last ref mis red trip with
      | some x => okay (acceptFrame { s with vlc := { s.vlc with settings := x } }) (valveSettingBytes x)
      | none => turnAway (acceptFrame s) .refusedRange (valveSettingBytes s.vlc.settings) := rfl

/-- What cancelling a latch leaves of the latch's items and of its event. -/
structure Cancelled (c : CancelCause) (s t : State) : Prop where
  latch : t.pli.latch = none
  armed : s.pli.latch ≠ none → t.pli.lastCancel = some c ∧ t.pli.cancellations = count16 s.pli.cancellations ∧
    t.sli.events.get .presetCancelled = ⟨true, bump 255 (s.sli.events.get .presetCancelled).count⟩
  free : s.pli.latch = none → t.pli = s.pli ∧ t.sli.events = s.sli.events

theorem cancelLatch_cancelled (c : CancelCause) (s : State) : Cancelled c s (cancelLatch c s) where
  latch := cancelLatch_latch c s
  armed h := by rw [cancelLatch_some c s h]; exact ⟨rfl, rfl, by simp⟩
  free h := by rw [cancelLatch_none c s h]; exact ⟨rfl, rfl⟩

/-- Cancelling a latch touches the latch's items and the event summary. -/
theorem cancelLatch_eq (c : CancelCause) (s : State) : cancelLatch c s =
    { s with pli := (cancelLatch c s).pli, sli := { s.sli with events := (cancelLatch c s).sli.events } } := by
  by_cases h : s.pli.latch = none
  · rw [cancelLatch_none c s h]
  · rw [cancelLatch_some c s h]
    rfl

end

/-- Settles O18. -/
theorem settingsReplacedWholeOrRefused : Obligations.SettingsReplacedWholeOrRefused := by
  unfold Obligations.SettingsReplacedWholeOrRefused
  refine ⟨fun s m hh w l lim h hc => ⟨fun ⟨hunset, hready⟩ => ?_, fun hstill => ⟨fun hbad => ?_, fun a ha hr1 hr2 hr3 hr4 hr5 => ?_⟩⟩,
    fun s b k tr fb st hold fl rest h hlen => ⟨fun hok => ?_, fun hok => ?_⟩, fun s shares h hlen hc => ?_,
    fun s g r last ref mis red trip h hc => ?_, fun s m h hc => ?_, fun s x k tr fb st hold fl rest h hlen hx => ?_⟩
  · exact exec_turns_away h (body := doSetSync m hh w l lim) rfl (if_neg (by simp [hunset, hready])) nofun
  · exact exec_turns_away h (body := doSetSync m hh w l lim) rfl (doSetSync_refuses hstill hbad) nofun
  · subst ha
    exact exec_answers h (body := doSetSync _ hh w l lim) rfl (doSetSync_accepts a hstill ⟨hr1, ⟨hr2, hr3⟩, hr4, hr5⟩) (.inr (.inr hc))
  · have hbody := doSetBranch_eq (s := s) b k tr fb st hold fl
    rw [readBranchSettings_eq, if_pos hok] at hbody
    have hexec := exec_answers_evaluated h (exec_setBranch _ k tr fb st hold fl hlen) hbody rfl
    rw [evaluateConfiguration_eq] at hexec
    refine ⟨_, hexec, by simp [answered], rfl, rfl, fun c hc => by simp [answered, PerBranch.get_set_ne _ _ _ _ hc],
      by simp [answered], ?_, ⟨_, rfl, rfl, rfl, rfl, rfl, rfl⟩⟩
    simp only [answered, configured_of_settings b ⟨k.toNat, tr.toInt, fb.toNat, st.toNat, hold.toNat, fl.toNat⟩ (Nat.ne_zero_of_lt hok.1)]
    rfl
  · have hbody := doSetBranch_eq (s := s) b k tr fb st hold fl
    rw [readBranchSettings_eq, if_neg hok] at hbody
    exact exec_turns_away h (exec_setBranch _ k tr fb st hold fl hlen) hbody nofun
  · obtain ⟨x, hread, hbytes⟩ := readShares_eq hlen
    have hexec : exec (.setFilters shares) s = .next (running (takeRequest .setFilters (2 * shares.length) (doSetFilters shares)) s) := by
      simp only [exec, execSetFilters, if_pos hlen]
    refine ⟨fun ⟨y, hy, hlong⟩ => ?_, fun hok => ?_⟩
    · have hno : ¬ ∀ y ∈ shares, y.toNat ≤ 4095 := fun hall => absurd (hall y hy) (Nat.not_le.mpr hlong)
      exact exec_turns_away h hexec (by rw [doSetFilters, hread, if_neg hno]; rfl) nofun
    · have hbody : doSetFilters shares (acceptFrame s) =
          okay (acceptFrame (cancelLatch .setFilters { s with bdu := { s.bdu with shares := x } }))
            (filterBytes (cancelLatch .setFilters { s with bdu := { s.bdu with shares := x } })) := by
        have hkept (c : CancelCause) (u : State) : filterBytes (cancelLatch c u) = filterBytes u := by simp [filterBytes]
        rw [doSetFilters, hread, if_pos hok, ← cancelLatch_acceptFrame]
        simp only [okay, hkept]
        rfl
      have hexec' := exec_answers h hexec hbody (.inr (.inr (by rwa [configured_cancelLatch, cancelLatch_eq])))
      have hcancelled := cancelLatch_cancelled .setFilters { s with bdu := { s.bdu with shares := x } }
      rw [cancelLatch_eq] at hexec'
      exact ⟨_, hexec', hbytes, ⟨_, rfl, rfl, rfl, rfl, rfl, rfl⟩, rfl, hcancelled.latch, hcancelled.armed, hcancelled.free, rfl⟩
  · by_cases hok : 8 ≤ g.toNat ∧ g.toNat ≤ 128 ∧ r.toNat ≤ 3 ∧ 1536 ≤ last.toNat ∧ last.toNat ≤ 2040 ∧ 1 ≤ ref.toNat ∧
      ref.toNat ≤ 16 ∧ 1 ≤ mis.toNat ∧ mis.toNat ≤ 8 ∧ red.toNat ≤ 7 ∧ trip.toNat ≤ 1
    · have hbytes : valveSettingBytes ⟨g.toNat, r.toNat, last.toNat, ref.toNat, mis.toNat, red.toNat, trip == 1⟩ =
          [g, r] ++ bigEndian 2 last.toNat ++ [ref, mis, red, trip] := by
        obtain ⟨-, -, -, -, -, -, -, -, -, -, htrip⟩ := hok
        simp only [valveSettingBytes, flag_yesNo htrip]
        simp [byte, two]
      have hbody := doSetValve_eq (s := s) g r last ref mis red trip
      rw [readValveSettings_eq, if_pos hok] at hbody
      rw [if_pos hok, ← hbytes]
      exact exec_answers h (body := doSetValve g r last ref mis red trip) rfl hbody (.inr (.inr hc))
    · have hbody := doSetValve_eq (s := s) g r last ref mis red trip
      rw [readValveSettings_eq, if_neg hok] at hbody
      rw [if_neg hok]
      exact exec_turns_away h (body := doSetValve g r last ref mis red trip) rfl hbody nofun
  · by_cases hm : m.toNat < 536870912
    · rw [if_pos hm]
      exact exec_answers h (body := doSetAttentionMask m) (u := { s with sli := { s.sli with mask := m } }) rfl
        (if_pos ((maskFits_iff m).mpr hm)) (.inr (.inr hc))
    · rw [if_neg hm]
      exact exec_turns_away h (body := doSetAttentionMask m) rfl (if_neg fun e => hm ((maskFits_iff m).mp e)) nofun
  · exact exec_turns_away h (exec_setBranch x k tr fb st hold fl hlen) (by rw [doSetBranch, readBranchByte_none hx]) nofun

end Sys2Proof.Machine

/-! What a changed cause set and a failed group leave (R134, R145, R146, R150 to R152). -/

namespace Sys2Proof.Machine

open Safety

section
variable {s t : State}

/-! ## A branch enters BLOCKED (R150) -/

@[simp] theorem PerBranch.set_get {α : Type} (t : PerBranch α) (b : Branch) : t.set b (t.get b) = t := by cases b <;> rfl

@[simp] theorem PerGroup.set_get {α : Type} (t : PerGroup α) (g : Group) : t.set g (t.get g) = t := by cases g <;> rfl

theorem fallbackLevel_of_blocked {b : Branch} (h : (s.bdu.branches.get b).state = .blocked) : fallbackLevel s = true := by
  have hmember : s.bdu.branches.get b ∈ s.bdu.branches.toList := by cases b <;> simp [PerBranch.toList, PerBranch.get]
  have hall : (s.bdu.branches.toList.all fun d => followsFurnace d.state) = false := by
    rw [List.all_eq_false]
    exact ⟨_, hmember, by simp [h, followsFurnace]⟩
  simp [fallbackLevel, hall]

/-- R150: what a branch that enters BLOCKED leaves behind of its open half-cycle. -/
structure HalfCycleGivenUp (b : Branch) (s t : State) : Prop where
  armed : (t.vlc.firing.get b).armed = none
  transaction : (t.vlc.firing.get b).transaction = none
  overtaken : ∀ x, (s.vlc.firing.get b).transaction = some x →
    (t.vlc.firing.get b).outcome = some ⟨.overtaken, some x.attempts⟩ ∧
      (t.vlc.groups.get x.group).counters.overtaken = count16 (s.vlc.groups.get x.group).counters.overtaken
  free : (s.vlc.firing.get b).transaction = none →
    (t.vlc.firing.get b).outcome = (s.vlc.firing.get b).outcome ∧ t.vlc.groups = s.vlc.groups

theorem enterBlocked_givesUp (b : Branch) (s : State) : HalfCycleGivenUp b s (enterBlocked b s) where
  armed := (enterBlocked_firing_self b s).1
  transaction := (enterBlocked_firing_self b s).2
  overtaken x hx := by simp [enterBlocked, closeOvertaken, modGroupCounters, hx]
  free h := by simp [enterBlocked, h]

theorem enterBlocked_raisesFallback (b : Branch) (s : State) : (enterBlocked b s).oc.fallbackActive = true := by
  have hblocked : ((enterBlocked b s).bdu.branches.get b).state = .blocked := by simp [blockDemand]
  rw [enterBlocked_fallbackActive, fallbackLevel_of_blocked hblocked]

/-- What an entry into BLOCKED keeps of a group's record: all but the count of the overtaken. -/
theorem enterBlocked_group (b : Branch) (g : Group) (s : State) : ∃ n, (enterBlocked b s).vlc.groups.get g =
    { s.vlc.groups.get g with counters := { (s.vlc.groups.get g).counters with overtaken := n } } := by
  unfold enterBlocked
  dsimp only
  split
  · next x _ =>
    by_cases h : g = x.group
    · exact ⟨count16 (s.vlc.groups.get g).counters.overtaken, by simp [closeOvertaken, modGroupCounters, h]⟩
    · exact ⟨(s.vlc.groups.get g).counters.overtaken, by simp [closeOvertaken, modGroupCounters, PerGroup.get_set_ne _ _ _ _ h]⟩
  · exact ⟨(s.vlc.groups.get g).counters.overtaken, rfl⟩

/-! ## A cause added to a set (R145) -/

theorem noCauses_eq_false {x : CauseSet} (h : x ≠ .empty) : noCauses x = false := by
  cases hx : noCauses x with
  | true => exact absurd (eq_empty_of_noCauses hx) h
  | false => rfl

theorem noCauses_iff (x : CauseSet) : noCauses x = true ↔ x = .empty :=
  ⟨eq_empty_of_noCauses, fun h => by rw [h]; rfl⟩

theorem noCauses_addToSet (x : CauseSet) (c : BlockCause) : noCauses (addToSet x c) = false := by
  cases c <;> simp [noCauses, addToSet]

theorem addCause_causes (b : Branch) (c : BlockCause) (s : State) :
    (addCause b c s).causes = s.causes.set b (addToSet (s.causes.get b) c) := changeCauses_causes ..

/-- R145: elsewhere than in RUN, and where the set is not empty, the set alone changes. -/
theorem addCause_stands (b : Branch) (c : BlockCause) (s : State) (h : s.oc.device ≠ .run ∨ noCauses (s.causes.get b) = false) :
    addCause b c s = { s with causes := s.causes.set b (addToSet (s.causes.get b) c) } := by
  obtain hdevice | hset := h
  · exact changeCauses_outside _ _ _ hdevice
  · exact changeCauses_still _ _ _ (by rw [hset]; exact noCauses_addToSet _ _)

theorem addCause_held (b : Branch) (s : State) (h : (s.causes.get b).valve = true) : addCause b .valve s = s := by
  have hheld : addToSet (s.causes.get b) .valve = s.causes.get b := by
    generalize s.causes.get b = x at h
    cases x
    simp_all [addToSet]
  rw [addCause_stands b .valve s (.inr (by simp [noCauses, h])), hheld, PerBranch.set_get]

/-- R150: in RUN a set that becomes non-empty blocks its branch. -/
theorem addCause_blocks (b : Branch) (c : BlockCause) (s : State) (hrun : s.oc.device = .run) (hfree : noCauses (s.causes.get b) = true) :
    addCause b c s = enterBlocked b { s with causes := s.causes.set b (addToSet (s.causes.get b) c) } := by
  simp [addCause, changeCauses, hrun, hfree, noCauses_addToSet]

theorem addCause_group (b : Branch) (c : BlockCause) (g : Group) (s : State) : ∃ n, (addCause b c s).vlc.groups.get g =
    { s.vlc.groups.get g with counters := { (s.vlc.groups.get g).counters with overtaken := n } } := by
  by_cases hblocks : s.oc.device = .run ∧ noCauses (s.causes.get b) = true
  · rw [addCause_blocks b c s hblocks.1 hblocks.2]
    exact enterBlocked_group ..
  · rw [addCause_stands b c s (by simpa [imp_iff_not_or] using hblocks)]
    exact ⟨(s.vlc.groups.get g).counters.overtaken, rfl⟩

theorem addCause_closed (b k : Branch) (c : BlockCause) (s : State) (h : (s.vlc.firing.get k).transaction = none) :
    ((addCause b c s).vlc.firing.get k).transaction = none := by
  by_cases hblocks : s.oc.device = .run ∧ noCauses (s.causes.get b) = true
  · rw [addCause_blocks b c s hblocks.1 hblocks.2]
    by_cases hk : k = b
    · subst hk
      exact (enterBlocked_firing_self ..).2
    · rw [enterBlocked_firing_ne _ _ hk]
      exact h
  · rw [addCause_stands b c s (by simpa [imp_iff_not_or] using hblocks)]
    exact h

/-! ## A group fails (R134, R146, R152) -/

/-- R134: a group's record once it has failed. -/
def failedRecord (c : FailureCause) (r : GroupState) : GroupState := { clearReadiness r with failure := some c }

/-- R134, R146: the failure recorded and raised, and VALVE in the branch's set, before R152 may halt the device. -/
def recordFailure (g : Group) (c : FailureCause) (s : State) : State :=
  addCause g.branch .valve (raise .groupFailed (modGroup g (failedRecord c) s))

/-- R152: the failure of this group would halt the device. -/
def FailureHalts (g : Group) (s : State) : Prop :=
  (s.causes.get g.branch).valve = false ∧ s.oc.device = .run ∧ s.vlc.settings.tripOnBlock = true

theorem failGroup_halting (g : Group) (c : FailureCause) (h : (s.vlc.groups.get g).failure = none) (hhalts : FailureHalts g s) :
    failGroup g c s = enterHalted .valveFailed (some g.branch) (some g) (some c) (recordFailure g c s) := by
  obtain ⟨hnew, hrun, htrip⟩ := hhalts
  simp [failGroup, recordFailure, h, hnew, hrun, htrip]
  rfl

theorem failGroup_going_on (g : Group) (c : FailureCause) (h : (s.vlc.groups.get g).failure = none) (hgoes : ¬ FailureHalts g s) :
    failGroup g c s = recordFailure g c s := by
  unfold FailureHalts at hgoes
  simp only [failGroup, h]
  rw [if_neg (by simpa using hgoes)]
  rfl

theorem recordFailure_held (g : Group) (c : FailureCause) (hheld : (s.causes.get g.branch).valve = true) :
    recordFailure g c s = raise .groupFailed (modGroup g (failedRecord c) s) :=
  addCause_held _ _ (by simpa using hheld)

theorem recordFailure_group_self (g : Group) (c : FailureCause) (s : State) : ∃ n, (recordFailure g c s).vlc.groups.get g =
    { failedRecord c (s.vlc.groups.get g) with counters := { (s.vlc.groups.get g).counters with overtaken := n } } := by
  obtain ⟨n, hn⟩ := addCause_group g.branch .valve g (raise .groupFailed (modGroup g (failedRecord c) s))
  exact ⟨n, by simp [recordFailure, hn, failedRecord, clearReadiness]⟩

theorem recordFailure_group_ne {g k : Group} (c : FailureCause) (s : State) (h : k ≠ g) : ∃ n, (recordFailure g c s).vlc.groups.get k =
    { s.vlc.groups.get k with counters := { (s.vlc.groups.get k).counters with overtaken := n } } := by
  obtain ⟨n, hn⟩ := addCause_group g.branch .valve k (raise .groupFailed (modGroup g (failedRecord c) s))
  exact ⟨n, by simp [recordFailure, hn, PerGroup.get_set_ne _ _ _ _ h]⟩

theorem recordFailure_causes (g : Group) (c : FailureCause) (s : State) :
    (recordFailure g c s).causes = s.causes.set g.branch { s.causes.get g.branch with valve := true } := by
  simp [recordFailure, addCause_causes, addToSet]

/-- R134, R146: what the failure of a group leaves, whether or not it halts the device. -/
structure GroupFails (g : Group) (c : FailureCause) (s t : State) : Prop where
  failure : (t.vlc.groups.get g).failure = some c
  ready : (t.vlc.groups.get g).ready = false
  credit : (t.vlc.groups.get g).credit = false
  misfireRun : (t.vlc.groups.get g).misfireRun = (s.vlc.groups.get g).misfireRun
  refusalRun : (t.vlc.groups.get g).refusalRun = (s.vlc.groups.get g).refusalRun
  misfires : (t.vlc.groups.get g).counters.misfires = (s.vlc.groups.get g).counters.misfires
  others : ∀ k, k ≠ g → (t.vlc.groups.get k).failure = (s.vlc.groups.get k).failure
  causes : t.causes = s.causes.set g.branch { s.causes.get g.branch with valve := true }
  event : t.sli.events.get .groupFailed = ⟨true, bump 255 (s.sli.events.get .groupFailed).count⟩
  events : OtherEventsKept [.groupFailed, .halted, .presetCancelled, .captureFrozen] s t
  closed : ∀ b, (s.vlc.firing.get b).transaction = none → (t.vlc.firing.get b).transaction = none

theorem recordFailure_fails (g : Group) (c : FailureCause) (s : State) : GroupFails g c s (recordFailure g c s) := by
  obtain ⟨n, hself⟩ := recordFailure_group_self g c s
  exact {
    failure := by simp [hself, failedRecord]
    ready := by simp [hself, failedRecord, clearReadiness]
    credit := by simp [hself, failedRecord, clearReadiness]
    misfireRun := by simp [hself, failedRecord, clearReadiness]
    refusalRun := by simp [hself, failedRecord, clearReadiness]
    misfires := by simp [hself]
    others := fun k hk => by
      obtain ⟨m, hother⟩ := recordFailure_group_ne c s hk
      simp [hother]
    causes := recordFailure_causes g c s
    event := by simp [recordFailure, raise_events_self]
    events := fun k hk => by
      simp only [List.mem_cons, not_or] at hk
      simp [recordFailure, raise_events_ne _ _ _ hk.1 hk.2.2.2.1]
    closed := fun b hb => addCause_closed _ _ _ _ (by simpa using hb) }

theorem enterHalted_events (c : HaltCause) (b : Option Branch) (g : Option Group) (f : Option FailureCause) (k : EventKind) (s : State)
    (hhalted : k ≠ .halted) (hcancelled : k ≠ .presetCancelled) (hfrozen : k ≠ .captureFrozen) :
    (enterHalted c b g f s).sli.events.get k = s.sli.events.get k := by
  unfold enterHalted cancelLatch
  dsimp only
  repeat' split
  all_goals simp [raise_events_ne, hhalted, hcancelled, hfrozen, abandonFiring]

theorem enterHalted_group (c : HaltCause) (b : Option Branch) (j : Option Group) (f : Option FailureCause) (g : Group) (s : State) :
    (enterHalted c b j f s).vlc.groups.get g = s.vlc.groups.get g ∨
      (enterHalted c b j f s).vlc.groups.get g = clearReadiness (s.vlc.groups.get g) := by
  unfold enterHalted
  dsimp only
  split
  · exact .inr (by simp [abandonFiring])
  · exact .inl rfl

/-- A halt keeps of a failed group all that its failure left. -/
theorem GroupFails.halted {g : Group} {c : FailureCause} {u : State} (h : GroupFails g c s u)
    (hc : HaltCause) (b : Option Branch) (j : Option Group) (f : Option FailureCause) :
    GroupFails g c s (enterHalted hc b j f u) := by
  have hgroup := enterHalted_group hc b j f g u
  exact {
    failure := by rcases hgroup with e | e <;> simp [e, h.failure, clearReadiness]
    ready := by rcases hgroup with e | e <;> simp [e, h.ready, clearReadiness]
    credit := by rcases hgroup with e | e <;> simp [e, h.credit, clearReadiness]
    misfireRun := by rcases hgroup with e | e <;> simp [e, h.misfireRun, clearReadiness]
    refusalRun := by rcases hgroup with e | e <;> simp [e, h.refusalRun, clearReadiness]
    misfires := by rw [enterHalted_counters, h.misfires]
    others := fun k hk => by rw [enterHalted_failure, h.others k hk]
    causes := by simp [h.causes]
    event := by rw [enterHalted_events _ _ _ _ _ _ (by decide) (by decide) (by decide), h.event]
    events := fun k hk => by
      simp only [List.mem_cons, not_or] at hk
      rw [enterHalted_events _ _ _ _ _ _ hk.2.1 hk.2.2.1 hk.2.2.2.1]
      exact h.events k (by simpa using hk)
    closed := fun k hk => by
      by_cases hstarted : u.oc.device = .acquire ∨ u.oc.device = .run
      · rw [enterHalted_firing _ _ _ _ _ hstarted]
        simp [Firing.clear]
      · rw [not_or] at hstarted
        rw [enterHalted_elsewhere _ _ _ _ _ hstarted.1 hstarted.2]
        exact h.closed k hk }

theorem failGroup_fails (g : Group) (c : FailureCause) (h : (s.vlc.groups.get g).failure = none) : GroupFails g c s (failGroup g c s) := by
  by_cases hhalts : FailureHalts g s
  · rw [failGroup_halting g c h hhalts]
    exact (recordFailure_fails g c s).halted ..
  · rw [failGroup_going_on g c h hhalts]
    exact recordFailure_fails g c s

/-- R7, R8, R152: the halt that a failure brings. -/
structure FailureHalt (g : Group) (c : FailureCause) (s t : State) : Prop where
  oc : t.oc = ⟨.halted, ⟨.valveFailed, some g.branch, some g, some c, some s.slr.frameIndex⟩, true, true, s.oc.lockFrequency⟩
  latch : t.pli.latch = none
  idle : ∀ b, BranchIdle t b

theorem failGroup_halts (g : Group) (c : FailureCause) (h : (s.vlc.groups.get g).failure = none) (hhalts : FailureHalts g s) :
    FailureHalt g c s (failGroup g c s) := by
  have hrun : (recordFailure g c s).oc.device = .run := by simpa [recordFailure] using hhalts.2.1
  rw [failGroup_halting g c h hhalts]
  exact {
    oc := by rw [enterHalted_oc _ _ _ _ _ (.inr hrun), hrun]; simp [trips, recordFailure]
    latch := enterHalted_latch _ _ _ _ (.inr hrun)
    idle := enterHalted_idle _ _ _ _ (.inr hrun) }

/-- R134, R150, R152: what a failure that halts nothing keeps, and whether its branch is blocked by it. -/
structure FailureGoesOn (g : Group) (s t : State) : Prop where
  device : t.oc.device = s.oc.device
  halt : t.oc.halt = s.oc.halt
  ct : t.ct = s.ct
  pli : t.pli = s.pli
  blocked : s.oc.device = .run → s.causes.get g.branch = .empty →
    t.bdu.branches.get g.branch = blockDemand (s.bdu.branches.get g.branch) ∧ t.oc.fallbackActive = true ∧
      (t.vlc.firing.get g.branch).armed = none ∧ (t.vlc.firing.get g.branch).transaction = none ∧
      ∀ x, (s.vlc.firing.get g.branch).transaction = some x →
        (t.vlc.firing.get g.branch).outcome = some ⟨.overtaken, some x.attempts⟩
  stands : s.oc.device ≠ .run ∨ s.causes.get g.branch ≠ .empty → t.oc = s.oc ∧ t.bdu = s.bdu ∧ t.vlc.firing = s.vlc.firing

theorem failGroup_goes_on (g : Group) (c : FailureCause) (h : (s.vlc.groups.get g).failure = none) (hgoes : ¬ FailureHalts g s) :
    FailureGoesOn g s (failGroup g c s) := by
  rw [failGroup_going_on g c h hgoes]
  exact {
    device := by simp [recordFailure]
    halt := by simp [recordFailure]
    ct := by simp [recordFailure]
    pli := by simp [recordFailure]
    blocked := fun hrun hempty => by
      rw [recordFailure, addCause_blocks _ _ _ (by simpa using hrun) (by simp [hempty, noCauses_iff])]
      have hgiven := enterBlocked_givesUp g.branch { raise .groupFailed (modGroup g (failedRecord c) s) with
        causes := (raise .groupFailed (modGroup g (failedRecord c) s)).causes.set g.branch
          (addToSet ((raise .groupFailed (modGroup g (failedRecord c) s)).causes.get g.branch) .valve) }
      exact ⟨by simp, enterBlocked_raisesFallback .., hgiven.armed, hgiven.transaction,
        fun x hx => (hgiven.overtaken x (by simpa using hx)).1⟩
    stands := fun hstands => by
      rw [recordFailure, addCause_stands _ _ _ (by simpa using hstands.imp_right noCauses_eq_false)]
      simp }

end

end Sys2Proof.Machine

/-! The failures of groups by status, silence, refusal and misfire (R115, R123, R124, R126, R131 to R134, R146, R152). -/

namespace Sys2Proof.Machine

open Safety

section
variable {s t : State}

/-! ## What comes before a failure in the same command -/

/-- A state on the way from `s` to a group's failure: what the failure's outcome depends on still stands. -/
structure BeforeFailure (s u : State) : Prop where
  oc : u.oc = s.oc
  slr : u.slr = s.slr
  causes : u.causes = s.causes
  settings : u.vlc.settings = s.vlc.settings
  pli : u.pli = s.pli
  bdu : u.bdu = s.bdu
  ring : u.hr.ring = s.hr.ring
  event : u.sli.events.get .groupFailed = s.sli.events.get .groupFailed

/-! ## An indication heard (R113, R131) -/

/-- The channel as an indication leaves it: ACTIVE, its timer restarted, a STATUS stored. -/
def heardChannel (i : Indication) (r : ChannelState) : ChannelState :=
  match i with
  | .status st => { r with link := .active, silence := 0, status := some st }
  | _ => { r with link := .active, silence := 0 }

/-- What the routed indication does to its group (R113). -/
def takeRouted (g : Group) : Indication → State → State
  | .fv => takeFv g
  | .fired tag => takeFired g tag
  | .refused tag cause => takeRefused g tag cause
  | .selfFired => takeSelfFired g
  | .status st => takeStatus g st

theorem PerValve.set_set {α : Type} (t : PerValve α) (c : ValveChannel) (x y : α) : (t.set c x).set c y = t.set c y := by
  cases c <;> rfl

theorem storeStatus_hearChannel (c : ValveChannel) (st : ValveStatus) (s : State) :
    modChannel c (fun r => { r with status := some st }) (hearChannel c s) = modChannel c (heardChannel (.status st)) s := by
  simp [modChannel, hearChannel, heardChannel, PerValve.set_set]

theorem takeIndication_eq (c : ValveChannel) (i : Indication) (s : State) :
    takeIndication c i s = match groupOn s.vlc.map c with
      | none => modChannel c (heardChannel i) s
      | some g => takeRouted g i (modChannel c (heardChannel i) s) := by
  unfold takeIndication
  cases groupOn s.vlc.map c with
  | none =>
    cases i with
    | status st => exact storeStatus_hearChannel c st s
    | _ => rfl
  | some g =>
    cases i with
    | status st => exact congrArg (takeStatus g st) (storeStatus_hearChannel c st s)
    | _ => rfl

theorem takeIndication_spare (c : ValveChannel) (i : Indication) (h : ∀ g, s.vlc.map.get g ≠ c) :
    takeIndication c i s = modChannel c (heardChannel i) s := by
  rw [takeIndication_eq, (groupOn_none _ _).mpr h]

theorem takeIndication_mapped (g : Group) (i : Indication) (h : MapInjective s) :
    takeIndication (s.vlc.map.get g) i s = takeRouted g i (modChannel (s.vlc.map.get g) (heardChannel i) s) := by
  rw [takeIndication_eq, groupOn_of_injective _ _ h]

/-! ## Statuses (R131, R132) -/

/-- R132: the cause by which a status fails a group. -/
def statusFailure (limit : Nat) (st : ValveStatus) : Option FailureCause :=
  if st.coolingOk = false then some .cooling else if limit < st.failedLevels.toNat then some .redundancy else none

theorem checkLimits_eq (g : Group) (st : ValveStatus) (s : State) : checkLimits g st s =
    match statusFailure s.vlc.settings.redundancyLimit st with
    | some c => failGroup g c s
    | none => s := by
  unfold checkLimits statusFailure
  cases st.coolingOk with
  | false => simp
  | true =>
    by_cases hlevels : s.vlc.settings.redundancyLimit < st.failedLevels.toNat <;> simp [hlevels]

theorem statusFailure_eq_none_iff (limit : Nat) (st : ValveStatus) :
    statusFailure limit st = none ↔ st.coolingOk = true ∧ st.failedLevels.toNat ≤ limit := by
  unfold statusFailure
  cases st.coolingOk <;> simp

theorem compareStatus_before (g : Group) (st : ValveStatus) (s : State) :
    BeforeFailure s (compareStatus g st s) ∧
      ∀ k, ((compareStatus g st s).vlc.groups.get k).failure = (s.vlc.groups.get k).failure := by
  unfold compareStatus
  dsimp only
  split
  · refine ⟨⟨by simp, by simp, by simp, by simp, by simp, by simp, by simp, ?_⟩, fun k => ?_⟩
    · rw [raise_events_ne _ _ _ (by decide) (by decide)]
      simp
    · by_cases hk : k = g <;> simp [hk, PerGroup.get_set_ne]
  · exact ⟨⟨rfl, rfl, rfl, rfl, rfl, rfl, rfl, rfl⟩, fun _ => rfl⟩

theorem BeforeFailure.trans {u v : State} (h : BeforeFailure s u) (k : BeforeFailure u v) : BeforeFailure s v where
  oc := k.oc.trans h.oc
  slr := k.slr.trans h.slr
  causes := k.causes.trans h.causes
  settings := k.settings.trans h.settings
  pli := k.pli.trans h.pli
  bdu := k.bdu.trans h.bdu
  ring := k.ring.trans h.ring
  event := k.event.trans h.event

theorem modChannel_before (c : ValveChannel) (f : ChannelState → ChannelState) (s : State) : BeforeFailure s (modChannel c f s) :=
  ⟨rfl, rfl, rfl, rfl, rfl, rfl, rfl, rfl⟩

/-! ## The command that fails a group -/

/-- A command that ends in a group's failure, and the state it fails in. -/
structure EndsInFailure (i : Instr) (g : Group) (c : FailureCause) (s u : State) : Prop where
  exec : exec i s = .next (failGroup g c u)
  before : BeforeFailure s u
  available : (u.vlc.groups.get g).failure = none

theorem exec_status_fails {g : Group} {st : ValveStatus} {c : FailureCause} (hheld : inReset s = false) (hmap : MapInjective s)
    (havailable : (s.vlc.groups.get g).failure = none) (hc : statusFailure s.vlc.settings.redundancyLimit st = some c) :
    ∃ u, EndsInFailure (.status (s.vlc.map.get g) st) g c s u ∧ u.ct = s.ct ∧ u.vlc.firing = s.vlc.firing ∧
      u.vlc.channels = s.vlc.channels.set (s.vlc.map.get g) (heardChannel (.status st) (s.vlc.channels.get (s.vlc.map.get g))) := by
  obtain ⟨hbefore, hfailure⟩ :=
    compareStatus_before g st (modChannel (s.vlc.map.get g) (heardChannel (.status st)) s)
  refine ⟨_, ⟨?_, (modChannel_before _ _ s).trans hbefore, by simp [hfailure, havailable]⟩, by simp, by simp, by simp [modChannel]⟩
  simp only [exec, execStatus, running_free _ s hheld, takeIndication_mapped g _ hmap, takeRouted, takeStatus, checkLimits_eq,
    hbefore.settings, modChannel_vlc_settings, hc]

/-! ## Transactions that fail (R123, R126) -/

/-- R123: a group's record once it has refused an order. -/
def declinedRecord (cause : RefusalCause) (r : GroupState) : GroupState :=
  { r with lastRefusal := some cause, refusalRun := r.refusalRun + 1
           counters := { r.counters with refusals := count16 r.counters.refusals } }

/-- R126: a group's record once it has missed an order. -/
def missedRecord (r : GroupState) : GroupState :=
  { r with misfireRun := r.misfireRun + 1, counters := { r.counters with misfires := count16 r.counters.misfires } }

/-- R123, R126: a transaction closed without firing, with its event, before the group's limit is looked at. -/
def closeFailed (b : Branch) (o : Outcome) (k : EventKind) (f : GroupState → GroupState) (x : Transaction) (s : State) : State :=
  raise k (modGroup x.group f (settle b o (some x.attempts) s))

theorem closeRefused_eq (b : Branch) (x : Transaction) (cause : RefusalCause) (s : State) : closeRefused b x cause s =
    if s.vlc.settings.refusalLimit ≤ (s.vlc.groups.get x.group).refusalRun + 1 then
      failGroup x.group .refusals (closeFailed b .refused .refusal (declinedRecord cause) x s)
    else closeFailed b .refused .refusal (declinedRecord cause) x s := by
  simp [closeRefused, closeFailed, settle]
  rfl

theorem closeMisfire_eq (b : Branch) (x : Transaction) (s : State) : closeMisfire b x s =
    if s.vlc.settings.misfireLimit ≤ (s.vlc.groups.get x.group).misfireRun + 1 then
      failGroup x.group .misfires (closeFailed b .misfire .misfire missedRecord x s)
    else closeFailed b .misfire .misfire missedRecord x s := by
  simp [closeMisfire, closeFailed, settle]
  rfl

theorem closeFailed_before (b : Branch) (o : Outcome) {k : EventKind} (f : GroupState → GroupState) (x : Transaction) (s : State)
    (hk : EventKind.groupFailed ≠ k) : BeforeFailure s (closeFailed b o k f x s) := by
  refine ⟨by simp [closeFailed], by simp [closeFailed], by simp [closeFailed], by simp [closeFailed], by simp [closeFailed],
    by simp [closeFailed], by simp [closeFailed], ?_⟩
  rw [closeFailed, raise_events_ne _ _ _ hk (by decide)]
  simp

@[simp] theorem closeFailed_group (b : Branch) (o : Outcome) (k : EventKind) (f : GroupState → GroupState) (x : Transaction) (s : State) :
    (closeFailed b o k f x s).vlc.groups = s.vlc.groups.set x.group (f (s.vlc.groups.get x.group)) := by
  simp [closeFailed, modGroup, settle]

@[simp] theorem closeFailed_firing (b : Branch) (o : Outcome) (k : EventKind) (f : GroupState → GroupState) (x : Transaction) (s : State) :
    (closeFailed b o k f x s).vlc.firing =
      s.vlc.firing.set b { s.vlc.firing.get b with transaction := none, outcome := some ⟨o, some x.attempts⟩ } := by
  simp [closeFailed, settle, modFiring]

theorem matching_some {g : Group} {tag : BitVec 4} {x : Transaction} (hopen : (s.vlc.firing.get g.branch).transaction = some x)
    (hgroup : x.group = g) (htag : x.tag = tag) : matching s g tag = some x := by
  simp [matching, hopen, hgroup, htag]

theorem matching_none {g : Group} {tag : BitVec 4}
    (h : ∀ x, (s.vlc.firing.get g.branch).transaction = some x → x.group ≠ g ∨ x.tag ≠ tag) : matching s g tag = none := by
  rw [matching, Option.filter_eq_none_iff]
  intro x hx
  simpa [imp_iff_not_or] using h x hx

/-- R123: the refusal that reaches the limit. -/
theorem exec_refused_fails {g : Group} {tag : BitVec 4} {cause : RefusalCause} {x : Transaction} (hheld : inReset s = false)
    (hmap : MapInjective s) (havailable : (s.vlc.groups.get g).failure = none)
    (hopen : (s.vlc.firing.get g.branch).transaction = some x) (hgroup : x.group = g) (htag : x.tag = tag)
    (hlimit : s.vlc.settings.refusalLimit ≤ (s.vlc.groups.get g).refusalRun + 1) :
    EndsInFailure (.refused (s.vlc.map.get g) tag cause) g .refusals s (closeFailed g.branch .refused .refusal (declinedRecord cause) x
      (modChannel (s.vlc.map.get g) (heardChannel (.refused tag cause)) s)) := by
  subst hgroup
  have hmatch : matching (modChannel (s.vlc.map.get x.group) (heardChannel (.refused tag cause)) s) x.group tag = some x :=
    matching_some hopen rfl htag
  refine ⟨?_, (modChannel_before _ _ s).trans (closeFailed_before _ _ _ _ _ (by decide)), by simp [declinedRecord, havailable]⟩
  simp [exec, execRefused, running_free _ s hheld, takeIndication_mapped x.group _ hmap, takeRouted, takeRefused, hmatch,
    closeRefused_eq, hlimit]

theorem reachCount_before (b : Branch) (n : Nat) (s : State) : BeforeFailure s (reachCount b n s) := ⟨rfl, rfl, rfl, rfl, rfl, rfl, rfl, rfl⟩

theorem counterRuns_iff (b : Branch) : counterRuns s b = true ↔ s.oc.device = .run ∧ (s.ct.tracks.get b).counter.isSome := by
  simp [counterRuns]

/-- R124, R126: the guard end that spends the last attempt. -/
theorem reachGuardEnd_misfires {b : Branch} {a : AngleCounter} {x : Transaction} (hrun : s.oc.device = .run)
    (hcounter : (s.ct.tracks.get b).counter = some a) (hopen : (s.vlc.firing.get b).transaction = some x)
    (hphase : x.phase = .waiting) (hguard : x.guardEnd ≤ 2048 + s.ct.settings.halfWidth) (hspent : 1 + x.retries ≤ x.attempts) :
    reachGuardEnd b s = closeMisfire b x (reachCount b x.guardEnd s) := by
  have hruns : counterRuns s b = true := (counterRuns_iff b).mpr ⟨hrun, by simp [hcounter]⟩
  have htop : x.guardEnd ≤ topCount s := hguard
  simp [reachGuardEnd, hopen, hphase, htop, hruns, Nat.not_lt.mpr hspent]

/-- R126: the misfire that reaches the limit. -/
theorem exec_guardExpiry_fails {b : Branch} {a : AngleCounter} {x : Transaction} (hheld : inReset s = false) (hrun : s.oc.device = .run)
    (hcounter : (s.ct.tracks.get b).counter = some a) (hopen : (s.vlc.firing.get b).transaction = some x)
    (hphase : x.phase = .waiting) (hguard : x.guardEnd ≤ 2048 + s.ct.settings.halfWidth) (hspent : 1 + x.retries ≤ x.attempts)
    (havailable : (s.vlc.groups.get x.group).failure = none)
    (hlimit : s.vlc.settings.misfireLimit ≤ (s.vlc.groups.get x.group).misfireRun + 1) :
    EndsInFailure (.guardExpiry b) x.group .misfires s
      (closeFailed b .misfire .misfire missedRecord x (reachCount b x.guardEnd s)) := by
  refine ⟨?_, (reachCount_before _ _ s).trans (closeFailed_before _ _ _ _ _ (by decide)), by simp [missedRecord, havailable, reachCount]⟩
  simp [exec, execGuardExpiry, running_free _ s hheld, reachGuardEnd_misfires hrun hcounter hopen hphase hguard hspent,
    closeMisfire_eq, reachCount, hlimit]

/-! ## Silence (R115) -/

/-- R115: a channel's items on its entry into SILENT. -/
def silentChannel (r : ChannelState) : ChannelState :=
  { r with link := .silent, silence := Config.silenceMark, silences := count16 r.silences }

/-- R115: the entry into SILENT counted and raised, before its group is looked at. -/
def noteSilent (c : ValveChannel) (s : State) : State := raise .channelSilent (modChannel c silentChannel s)

theorem enterSilent_active (c : ValveChannel) (h : (s.vlc.channels.get c).link = .active) : enterSilent c s =
    match groupOn s.vlc.map c with
    | some g => failGroup g .channelSilent (noteSilent c s)
    | none => noteSilent c s := by
  simp [enterSilent, h]
  rfl

theorem noteSilent_eq (c : ValveChannel) (s : State) : noteSilent c s = noteEvent .channelSilent (modChannel c silentChannel s) :=
  raise_of_no_trigger _ _ rfl

theorem noteSilent_before (c : ValveChannel) (s : State) : BeforeFailure s (noteSilent c s) := by
  rw [noteSilent_eq]
  exact ⟨rfl, rfl, rfl, rfl, rfl, rfl, rfl, noteEvent_events_ne _ _ _ (by decide)⟩

theorem exec_channelSilent_fails {g : Group} (hheld : inReset s = false) (hmap : MapInjective s)
    (havailable : (s.vlc.groups.get g).failure = none) (hactive : (s.vlc.channels.get (s.vlc.map.get g)).link = .active) :
    EndsInFailure (.channelSilent (s.vlc.map.get g)) g .channelSilent s (noteSilent (s.vlc.map.get g) s) := by
  refine ⟨?_, noteSilent_before _ s, by simp [noteSilent_eq, havailable]⟩
  simp [exec, execChannelSilent, running_free _ s hheld, enterSilent_active _ hactive, groupOn_of_injective _ _ hmap]

/-! ## What the failure comes to (R7, R152) -/

theorem BeforeFailure.halt {u : State} {g : Group} {c : FailureCause} (h : BeforeFailure s u) (k : FailureHalt g c u t) :
    FailureHalt g c s t :=
  ⟨by rw [k.oc, h.slr, h.oc], k.latch, k.idle⟩

theorem EndsInFailure.halts {i : Instr} {g : Group} {c : FailureCause} {u : State} (h : EndsInFailure i g c s u) (hhalts : FailureHalts g s) :
    FailureHalt g c s (failGroup g c u) := by
  obtain ⟨_, hbefore, havailable⟩ := h
  refine hbefore.halt (failGroup_halts g c havailable ?_)
  simpa [FailureHalts, hbefore.causes, hbefore.oc, hbefore.settings] using hhalts

theorem EndsInFailure.goes_on {i : Instr} {g : Group} {c : FailureCause} {u : State} (h : EndsInFailure i g c s u)
    (htrip : s.vlc.settings.tripOnBlock = false) : FailureGoesOn g u (failGroup g c u) := by
  obtain ⟨_, hbefore, havailable⟩ := h
  exact failGroup_goes_on g c havailable fun hhalts => by simp [FailureHalts, hbefore.settings, htrip] at hhalts

theorem EndsInFailure.fails {i : Instr} {g : Group} {c : FailureCause} {u : State} (h : EndsInFailure i g c s u) :
    GroupFails g c u (failGroup g c u) := failGroup_fails g c h.available

theorem EndsInFailure.causes {i : Instr} {g : Group} {c : FailureCause} {u : State} (h : EndsInFailure i g c s u) :
    (failGroup g c u).causes = s.causes.set g.branch { s.causes.get g.branch with valve := true } := by
  rw [h.fails.causes, h.before.causes]

/-- Settles O45: each of the five commands ends in the failure of its group, in a state that stands where the failure looks. -/
theorem groupFailureHaltsOrBlocks : Obligations.GroupFailureHaltsOrBlocks := by
  unfold Obligations.GroupFailureHaltsOrBlocks
  refine ⟨fun s g st hheld hmap hrun havailable hcooling hempty => ?_, fun s g i f hheld hmap hrun havailable hnew => ?_⟩
  · obtain ⟨u, hends, hct, hfiring, _⟩ := exec_status_fails (st := st) (c := .cooling) hheld hmap havailable (by simp [statusFailure, hcooling])
    have hcauses : (failGroup g .cooling u).causes = s.causes.set g.branch ⟨false, true, false, false⟩ := by
      rw [hends.causes, hempty]
      rfl
    refine ⟨fun htrip => ?_, fun htrip => ?_⟩
    · have hhalt := hends.halts ⟨by simp [hempty, CauseSet.empty], hrun, htrip⟩
      exact ⟨_, hends.exec, by rw [hhalt.oc], by rw [hhalt.oc], by rw [hhalt.oc], by rw [hhalt.oc], hcauses, hhalt.idle, hhalt.latch,
        by simp [hends.before.ring]⟩
    · have hgoes := hends.goes_on htrip
      have hbefore := hends.before
      obtain ⟨hbranch, hfallback, harmed, hopen, hovertaken⟩ :=
        hgoes.blocked (by rw [hbefore.oc, hrun]) (by rw [hbefore.causes, hempty])
      exact ⟨_, hends.exec, by rw [hgoes.device, hbefore.oc, hrun], hfallback, by rw [hgoes.halt, hbefore.oc], hcauses, by rw [hbranch]; rfl,
        by rw [hbranch]; rfl, harmed, hopen, fun x hx => hovertaken x (by rw [hfiring, hx]), by rw [hgoes.ct, hct],
        by rw [hgoes.pli, hbefore.pli]⟩
  · intro c r v open_ hcommand
    have hfails : ∃ u, EndsInFailure i g f s u := by
      rcases hcommand with ⟨st, rfl, hcooling, rfl⟩ | ⟨st, rfl, hcooling, hlevels, rfl⟩ | ⟨rfl, hactive, rfl⟩ |
        ⟨tag, cause, x, rfl, hopen, hgroup, htag, hlimit, rfl⟩ |
        ⟨a, x, rfl, hcounter, hopen, rfl, hphase, hguard, hspent, hlimit, rfl⟩
      · obtain ⟨u, hends, _⟩ := exec_status_fails (st := st) (c := .cooling) hheld hmap havailable (by simp [statusFailure, hcooling])
        exact ⟨u, hends⟩
      · have hlevels : s.vlc.settings.redundancyLimit < st.failedLevels.toNat := hlevels
        obtain ⟨u, hends, _⟩ := exec_status_fails (st := st) (c := .redundancy) hheld hmap havailable (by simp [statusFailure, hcooling, hlevels])
        exact ⟨u, hends⟩
      · exact ⟨_, exec_channelSilent_fails hheld hmap havailable hactive⟩
      · exact ⟨_, exec_refused_fails hheld hmap havailable hopen hgroup htag hlimit⟩
      · exact ⟨_, exec_guardExpiry_fails hheld hrun hcounter hopen hphase hguard hspent havailable hlimit⟩
    obtain ⟨u, hends⟩ := hfails
    refine ⟨_, hends.exec, hends.fails.failure, hends.causes, by simp [hends.before.ring], by rw [hends.fails.event, hends.before.event],
      fun htrip => ?_, fun htrip => ?_⟩
    · have hhalt := hends.halts ⟨hnew, hrun, htrip⟩
      exact ⟨hhalt.latch, hhalt.idle, hhalt.oc⟩
    · have hgoes := hends.goes_on htrip
      have hbefore := hends.before
      refine ⟨by rw [hgoes.device, hbefore.oc, hrun], by rw [hgoes.halt, hbefore.oc], by rw [hgoes.pli, hbefore.pli], fun hempty => ?_,
        fun hbusy => ?_⟩
      · obtain ⟨hbranch, _, harmed, hopen, _⟩ := hgoes.blocked (by rw [hbefore.oc, hrun]) (by rw [hbefore.causes, hempty])
        exact ⟨by rw [hbranch]; rfl, by rw [hbranch]; rfl, harmed, hopen⟩
      · rw [(hgoes.stands (.inr (by rwa [hbefore.causes]))).2.1, hbefore.bdu]

end

end Sys2Proof.Machine

/-! Channels, indications and the transaction, command by command (R113, R115 to R117, R119 to R126, R128, R131 to R133). -/

namespace Sys2Proof.Machine

open Safety

section
variable {s t : State}

/-- Settles O46. -/
theorem silentChannelFailsItsGroup : Obligations.SilentChannelFailsItsGroup := by
  unfold Obligations.SilentChannelFailsItsGroup
  intro s c hheld hmap
  refine ⟨fun hsilent => ?_, fun hactive => ?_⟩
  · simp [exec, execChannelSilent, running_free _ s hheld, enterSilent, hsilent]
  · have hexec : exec (.channelSilent c) s = .next (enterSilent c s) := by simp [exec, execChannelSilent, running_free _ s hheld]
    have hchannels : (noteSilent c s).vlc.channels = s.vlc.channels.set c { s.vlc.channels.get c with
        link := .silent, silence := 384, silences := count16 (s.vlc.channels.get c).silences } := by
      rw [noteSilent_eq]
      rfl
    have hevent : (noteSilent c s).sli.events.get .channelSilent = ⟨true, bump 255 (s.sli.events.get .channelSilent).count⟩ := by
      simp [noteSilent_eq]
    have hgroups : (noteSilent c s).vlc.groups = s.vlc.groups := by simp [noteSilent_eq]
    rw [enterSilent_active c hactive] at hexec
    by_cases hfails : ∃ g, s.vlc.map.get g = c ∧ (s.vlc.groups.get g).failure = none
    · obtain ⟨g, rfl, havailable⟩ := hfails
      rw [groupOn_of_injective _ _ hmap] at hexec
      have hgroup := failGroup_fails (s := noteSilent (s.vlc.map.get g) s) g .channelSilent (by rw [hgroups, havailable])
      refine ⟨_, hexec, by simp [hchannels], ?_, fun k hk _ => ?_, fun k hk => ?_, fun hspare => absurd rfl (hspare g)⟩
      · rw [hgroup.events _ (by decide), hevent]
      · rw [hmap k g hk]
        exact ⟨hgroup.failure, by simp [hgroup.causes]⟩
      · rw [hgroup.others k, hgroups]
        rintro rfl
        exact hk.elim (· rfl) (· havailable)
    · have hnone : enterSilent c s = noteSilent c s := by
        rw [enterSilent_active c hactive]
        cases hg : groupOn s.vlc.map c with
        | none => rfl
        | some g => exact failGroup_failed _ _ _ fun hn => hfails ⟨g, groupOn_some _ _ _ hg, by rwa [← hgroups]⟩
      rw [← enterSilent_active c hactive, hnone] at hexec
      refine ⟨_, hexec, hchannels, by rw [hevent], fun k hk hn => absurd ⟨k, hk, hn⟩ hfails,
        fun k _ => by rw [hgroups], fun _ => ?_⟩
      rw [noteSilent_eq]
      rfl

/-! ## Statuses (R131, R132) -/

theorem compareStatus_news {g : Group} {st : ValveStatus} (h : (s.vlc.groups.get g).snapshot ≠ some st ∧ (s.vlc.groups.get g).changed = false) :
    compareStatus g st s = noteEvent .valveStatusChanged (modGroup g (fun r => { r with changed := true }) s) := by
  rw [compareStatus]
  exact (if_pos h).trans (raise_of_no_trigger _ _ rfl)

theorem compareStatus_old {g : Group} {st : ValveStatus} (h : ¬ ((s.vlc.groups.get g).snapshot ≠ some st ∧ (s.vlc.groups.get g).changed = false)) :
    compareStatus g st s = s := if_neg h

theorem checkLimits_fine {g : Group} {st : ValveStatus}
    (h : (s.vlc.groups.get g).failure ≠ none ∨ (st.coolingOk = true ∧ st.failedLevels.toNat ≤ s.vlc.settings.redundancyLimit)) :
    checkLimits g st s = s := by
  rw [checkLimits_eq]
  obtain hfailed | hwithin := h
  · split
    · exact failGroup_failed _ _ _ hfailed
    · rfl
  · rw [(statusFailure_eq_none_iff _ _).mpr hwithin]

/-- Settles O44. -/
theorem statusIsStoredAndChecked : Obligations.StatusIsStoredAndChecked := by
  unfold Obligations.StatusIsStoredAndChecked
  intro s c st hheld hmap latest raised stored
  have hexec : exec (.status c st) s = .next (takeIndication c (.status st) s) := by simp [exec, execStatus, running_free _ s hheld]
  refine ⟨fun hspare => ?_, fun g hg => ?_⟩
  · rw [hexec, takeIndication_spare c _ hspare]
    rfl
  · subst hg
    have hrouted : takeIndication (s.vlc.map.get g) (.status st) s =
        checkLimits g st (compareStatus g st (modChannel (s.vlc.map.get g) (heardChannel (.status st)) s)) := takeIndication_mapped g _ hmap
    intro r news fine
    refine ⟨fun hnews hfine => ?_, fun hold hfine => ?_, fun hbad => ?_⟩
    · rw [hexec, hrouted, compareStatus_news (s := modChannel (s.vlc.map.get g) (heardChannel (.status st)) s) hnews,
          checkLimits_fine (by simpa using hfine)]
      rfl
    · rw [hexec, hrouted, compareStatus_old (s := modChannel (s.vlc.map.get g) (heardChannel (.status st)) s) hold,
          checkLimits_fine (by simpa using hfine)]
      rfl
    · simp only [fine, not_or, not_not] at hbad
      obtain ⟨havailable, hlimits⟩ := hbad
      obtain ⟨f, hf⟩ := Option.ne_none_iff_exists'.mp (mt (statusFailure_eq_none_iff s.vlc.settings.redundancyLimit st).mp hlimits)
      obtain ⟨u, hends, _, _, hchannels⟩ := exec_status_fails hheld hmap havailable hf
      have hcause : f = if st.coolingOk = false then .cooling else .redundancy := by
        unfold statusFailure at hf
        split_ifs at hf ⊢ <;> simp_all
      exact ⟨_, hends.exec, by rw [hends.fails.failure, hcause], hends.fails.ready, hends.fails.credit, by simp [hchannels, stored,
          latest, heardChannel],
        by simp [hends.causes], by rw [hends.fails.event, hends.before.event]⟩

/-! ## Answers (R122, R123, R128) -/

theorem countStray_eq (g : Group) (s : State) :
    countStray g s = noteEvent .strayAck (modGroupCounters g (fun c => { c with strays := count16 c.strays }) s) :=
  raise_of_no_trigger _ _ rfl

/-- Settles O43. -/
theorem answersCloseOrStray : Obligations.AnswersCloseOrStray := by
  unfold Obligations.AnswersCloseOrStray
  refine ⟨fun s g tag hheld hmap => ?_, fun s g tag cause hheld hmap => ?_⟩
  · intro c r awake heard conducts strayed raised
    have hexec : exec (.fired c tag) s = .next (takeFired g tag (modChannel c (heardChannel (.fired tag)) s)) := by
      simp [exec, execFired, running_free _ s hheld, c, takeIndication_mapped g _ hmap, takeRouted]
    refine ⟨fun x hopen hgroup htag => ?_, fun hother => ?_⟩
    · rw [hexec, takeFired, matching_some (by simpa using hopen) hgroup htag]
      subst hgroup
      rfl
    · rw [hexec, takeFired, matching_none (by simpa using hother)]
      exact congrArg _ (countStray_eq ..)
  · intro c r awake heard declined strayed raised
    have hexec : exec (.refused c tag cause) s = .next (takeRefused g tag cause (modChannel c (heardChannel (.refused tag cause)) s)) := by
      simp [exec, execRefused, running_free _ s hheld, c, takeIndication_mapped g _ hmap, takeRouted]
    refine ⟨fun x hopen hgroup htag => ⟨fun hbelow => ?_, fun hlimit havailable => ?_⟩, fun hother => ?_⟩
    · subst hgroup
      rw [hexec, takeRefused, matching_some (by simpa using hopen) rfl htag]
      simp only
      rw [closeRefused_eq, if_neg (by simpa [r] using hbelow), closeFailed, raise_of_no_trigger _ _ rfl]
      rfl
    · have hends := exec_refused_fails (cause := cause) hheld hmap havailable hopen hgroup htag hlimit
      subst hgroup
      refine ⟨_, hends.exec, hends.fails.failure, by simp [hends.fails.refusalRun, declinedRecord, r],
        by simp [hends.fails.misfireRun, declinedRecord, r], hends.fails.ready, by simp [hends.causes],
        fun b hb => by rw [hends.causes, PerBranch.get_set_ne _ _ _ _ hb], ?_, by rw [hends.fails.event, hends.before.event]⟩
      rw [hends.fails.events _ (by decide), closeFailed, raise_events_self _ _ (by decide)]
      rfl
    · rw [hexec, takeRefused, matching_none (by simpa using hother)]
      exact congrArg _ (countStray_eq ..)

end

end Sys2Proof.Machine

/-! The marks of the counter, and readiness (R110, R113, R116, R117, R119 to R121, R124 to R126, R133, R198). -/

namespace Sys2Proof.Machine

open Safety

section
variable {s : State}

/-! ## A counter brought to a mark (log entry 3) -/

theorem reachCount_counter {b : Branch} {a : AngleCounter} (n : Nat) (h : (s.ct.tracks.get b).counter = some a) :
    ((reachCount b n s).ct.tracks.get b).counter = some (if a.count < n then ⟨n, 0⟩ else a) := by
  simp [reachCount, h]

theorem count_at_mark {b : Branch} {a : AngleCounter} (n : Nat) (h : (s.ct.tracks.get b).counter = some a) :
    ((reachCount b n s).ct.tracks.get b).counter.elim n (·.count) = max a.count n := by
  rw [reachCount_counter n h, Option.elim_some]
  split <;> simp <;> omega

theorem orderable_iff {g : Group} : orderable s g = true ↔
    s.oc.device = .run ∧ s.causes.get g.branch = .empty ∧ (s.vlc.groups.get g).failure = none := by
  simp [orderable, noCauses_iff, and_assoc]

/-! ## The armed delay (R110, R119 to R121) -/

theorem reachDelay_armed {b : Branch} {a : AngleCounter} {p : Polarity} {d : Nat} (hrun : s.oc.device = .run)
    (hcounter : (s.ct.tracks.get b).counter = some a) (hpolarity : (s.ct.tracks.get b).polarity = some p)
    (harmed : (s.vlc.firing.get b).armed = some d) : reachDelay b s =
      if (s.vlc.groups.get (dueGroup b p)).ready && orderable s (dueGroup b p) then
        openTransaction b (dueGroup b p) (max a.count d) (modFiring b (fun f => { f with armed := none }) (reachCount b d s))
      else
        modGroupCounters (dueGroup b p) (fun c => { c with notReady := count16 c.notReady })
          (modFiring b (fun f => { f with outcome := some ⟨.notReady, none⟩ })
            (modFiring b (fun f => { f with armed := none }) (reachCount b d s))) := by
  have hruns : counterRuns s b = true := (counterRuns_iff b).mpr ⟨hrun, by simp [hcounter]⟩
  have hcount : ((modFiring b (fun f => { f with armed := none }) (reachCount b d s)).ct.tracks.get b).counter.elim d (·.count) =
      max a.count d := count_at_mark d hcounter
  simp only [reachDelay, harmed, hruns, hpolarity, hcount, if_true, Option.getD_some]

theorem PerBranch.set_set {α : Type} (t : PerBranch α) (b : Branch) (x y : α) : (t.set b x).set b y = t.set b y := by
  cases b <;> rfl

/-- Settles O41. -/
theorem delayReachedOrdersOrSettles : Obligations.DelayReachedOrdersOrSettles := by
  unfold Obligations.DelayReachedOrdersOrSettles
  intro s b a p d hheld hrun hcounter hpolarity g c tag r at_ sent ordered notReady v opened
  have hexec : exec (.delayReached b) s = .next (reachDelay b s) := by simp [exec, execDelayReached, running_free _ s hheld]
  refine ⟨fun hidle => ?_, fun harmed hready havailable hempty => ?_, fun harmed hready => ?_⟩
  · simp [hexec, reachDelay, hidle]
  · have horderable : orderable s g = true := orderable_iff.mpr ⟨hrun, by simpa [g, dueGroup] using hempty, havailable⟩
    have hordered : reachDelay b s = openTransaction b g at_ (modFiring b (fun f => { f with armed := none }) (reachCount b d s)) := by
      rw [reachDelay_armed hrun hcounter hpolarity harmed, if_pos (by simpa [r] using ⟨hready, horderable⟩)]
    rw [hordered] at hexec
    refine ⟨_, hexec, ?_, rfl, rfl, fun x hx => PerBranch.get_set_ne _ _ _ _ hx, ?_⟩
    · simp [openTransaction, sendFire, modFiring, modGroupCounters, modGroup, modChannel, reachCount, PerValve.set_set,
        PerBranch.set_set, sent, c, tag, ordered, r, opened, v]
    · simp [openTransaction, reachCount, hcounter]
  · have hsettled := reachDelay_armed hrun hcounter hpolarity harmed
    rw [if_neg (by simp [show (s.vlc.groups.get (dueGroup b p)).ready = false from hready])] at hsettled
    refine ⟨_, by rw [hexec, hsettled], ?_, rfl⟩
    simp [modFiring, modGroupCounters, modGroup, reachCount, PerBranch.set_set, notReady, g, r]

/-! ## The guard end and the retry (R124 to R126) -/

theorem reachGuardEnd_waits {b : Branch} {a : AngleCounter} {x : Transaction} (hrun : s.oc.device = .run)
    (hcounter : (s.ct.tracks.get b).counter = some a) (hopen : (s.vlc.firing.get b).transaction = some x)
    (hphase : x.phase = .waiting) (hguard : x.guardEnd ≤ 2048 + s.ct.settings.halfWidth) (hleft : x.attempts < 1 + x.retries) :
    reachGuardEnd b s =
      modFiring b (fun f => { f with transaction := some { x with phase := .retryGap } }) (reachCount b x.guardEnd s) := by
  have hruns : counterRuns s b = true := (counterRuns_iff b).mpr ⟨hrun, by simp [hcounter]⟩
  have htop : x.guardEnd ≤ topCount s := hguard
  simp [reachGuardEnd, hopen, hphase, htop, hruns, hleft]

/-- R125: what the retry moment does, by the count it finds. -/
theorem reachRetry_eq {b : Branch} {a : AngleCounter} {x : Transaction} (hrun : s.oc.device = .run)
    (hcounter : (s.ct.tracks.get b).counter = some a) (hopen : (s.vlc.firing.get b).transaction = some x)
    (hphase : x.phase = .retryGap) (hdue : x.guardEnd + 8 ≤ 2048 + s.ct.settings.halfWidth) (horderable : orderable s x.group = true) :
    reachRetry b s =
      if max a.count (x.guardEnd + 8) ≤ x.lastRetry then
        modFiring b (fun f => { f with transaction := some { x with
            attempts := x.attempts + 1, phase := .waiting, guardEnd := max a.count (x.guardEnd + 8) + x.guardTime } })
          (modGroupCounters x.group (fun c => { c with retries := count16 c.retries })
            (sendFire x.group x.tag (reachCount b (x.guardEnd + 8) s)))
      else closeMisfire b x (reachCount b (x.guardEnd + 8) s) := by
  have hruns : counterRuns s b = true := (counterRuns_iff b).mpr ⟨hrun, by simp [hcounter]⟩
  have htop : x.guardEnd + Config.retryGap ≤ topCount s := hdue
  have hcount : ((reachCount b (x.guardEnd + Config.retryGap) s).ct.tracks.get b).counter.elim (x.guardEnd + Config.retryGap) (·.count) =
      max a.count (x.guardEnd + 8) := count_at_mark _ hcounter
  simp only [reachRetry, hopen]
  rw [if_pos ⟨hphase, htop, hruns, horderable⟩, hcount]
  rfl

theorem closeMisfire_below {b : Branch} {x : Transaction} (h : (s.vlc.groups.get x.group).misfireRun + 1 < s.vlc.settings.misfireLimit) :
    closeMisfire b x s = closeFailed b .misfire .misfire missedRecord x s := by
  rw [closeMisfire_eq, if_neg (Nat.not_le.mpr h)]

/-- Settles O42. -/
theorem guardAndRetry : Obligations.GuardAndRetry := by
  unfold Obligations.GuardAndRetry
  refine ⟨fun s b a x hheld hrun hcounter hopen hphase hguard => ⟨fun hleft => ?_, fun hspent hbelow hoff => ?_⟩,
    fun s b a x hheld hrun hcounter hopen hphase hhome hempty havailable hdue => ?_,
    fun s b a x hheld hrun hcounter hopen hphase hguard hspent havailable hlimit => ?_⟩
  · have hexec : exec (.guardExpiry b) s = .next (reachGuardEnd b s) := by simp [exec, execGuardExpiry, running_free _ s hheld]
    rw [reachGuardEnd_waits hrun hcounter hopen hphase hguard hleft] at hexec
    exact ⟨_, hexec, rfl, rfl⟩
  · have hexec : exec (.guardExpiry b) s = .next (reachGuardEnd b s) := by simp [exec, execGuardExpiry, running_free _ s hheld]
    rw [reachGuardEnd_misfires hrun hcounter hopen hphase hguard hspent, closeMisfire_below (s := reachCount b x.guardEnd s) hbelow,
      closeFailed, raise_of_trigger_off .misfire .misfire _ rfl (by exact hoff)] at hexec
    exact ⟨_, hexec, rfl, rfl, rfl⟩
  · intro at_ c r again sent counted goesOn
    have horderable : orderable s x.group = true := orderable_iff.mpr ⟨hrun, by rwa [hhome], havailable⟩
    have hexec : exec (.retry b) s = .next (reachRetry b s) := by simp [exec, execRetry, running_free _ s hheld]
    rw [reachRetry_eq hrun hcounter hopen hphase hdue horderable] at hexec
    refine ⟨fun hlast => ?_, fun hlate hbelow => ?_⟩
    · rw [if_pos hlast] at hexec
      exact ⟨_, hexec, rfl, rfl⟩
    · rw [if_neg (Nat.not_le.mpr hlate), closeMisfire_below (s := reachCount b (x.guardEnd + 8) s) hbelow] at hexec
      refine ⟨_, hexec, by simp, by simp, by simp [closeFailed, reachCount], by simp [missedRecord, reachCount, r], ?_,
        by simp [closeFailed, reachCount], by simp [closeFailed, reachCount]⟩
      rw [closeFailed, raise_events_self _ _ (by decide)]
      rfl
  · have hends := exec_guardExpiry_fails hheld hrun hcounter hopen hphase hguard hspent havailable hlimit
    refine ⟨_, hends.exec, hends.fails.failure, ?_, ?_, hends.fails.ready, hends.fails.credit, hends.causes, ?_, ?_,
      by rw [hends.fails.event, hends.before.event]⟩
    · rw [hends.fails.misfireRun]
      simp [missedRecord, reachCount]
    · rw [hends.fails.misfires]
      simp [missedRecord, reachCount]
    · exact hends.fails.closed b (by simp)
    · rw [hends.fails.events _ (by decide), closeFailed, raise_events_self _ _ (by decide)]
      rfl

end

end Sys2Proof.Machine

/-! Readiness marks, self-firing, and the valve frames by their bytes (R113, R116, R117, R133, R198). -/

namespace Sys2Proof.Machine

open Safety

section
variable {s : State}

/-- What raising an event writes: the summary, and the capture. -/
theorem raise_eq (k : EventKind) (s : State) :
    raise k s = { s with hr := (raise k s).hr, sli := { s.sli with events := (raise k s).sli.events } } := by
  unfold raise offerTrigger takeTrigger freeze noteEvent
  repeat' split
  all_goals rfl

/-! ## Firing voltage (R116, R117) -/

theorem takeFv_stopped {g : Group} (h : (s.ct.tracks.get g.branch).counter = none) : takeFv g s = s := by
  simp [takeFv, h]

theorem ready_of_failed {r : GroupState} {f : FailureCause} (h : r.failure = some f) :
    { r with ready := r.ready || r.failure.isNone } = r := by
  cases r
  simp_all

theorem credit_of_failed {r : GroupState} {f : FailureCause} (h : r.failure = some f) :
    { r with credit := r.credit || r.failure.isNone } = r := by
  cases r
  simp_all

/-- R117: what an indication of firing voltage does while the counter runs. -/
theorem takeFv_running {g : Group} {a : AngleCounter} {p : Polarity} (hcounter : (s.ct.tracks.get g.branch).counter = some a)
    (hpolarity : (s.ct.tracks.get g.branch).polarity = some p) : takeFv g s =
      if g = dueGroup g.branch p then modGroup g (fun r => { r with ready := r.ready || r.failure.isNone }) s
      else if acceptFrom s ≤ a.count then modGroup g (fun r => { r with credit := r.credit || r.failure.isNone }) s
      else noteEvent .polarityMismatch (modGroupCounters g (fun c => { c with polarityMismatches := count16 c.polarityMismatches }) s) := by
  simp only [takeFv, hcounter, hpolarity, raise_of_no_trigger .polarityMismatch _ rfl]
  cases hfailure : (s.vlc.groups.get g).failure with
  | none => simp [modGroup, hfailure]
  | some f =>
    simp only [modGroup, ready_of_failed hfailure, credit_of_failed hfailure, PerGroup.set_get]
    rfl

/-- Settles O40. -/
theorem fvMarksReadiness : Obligations.FvMarksReadiness := by
  unfold Obligations.FvMarksReadiness
  intro s c hheld awake heard
  have hexec : exec (.fv c) s = .next (takeIndication c .fv s) := by simp [exec, execFv, running_free _ s hheld]
  refine ⟨fun hspare => ?_, fun g hg hmap => ?_⟩
  · rw [hexec, takeIndication_spare c _ hspare]
    rfl
  · subst hg
    rw [hexec, takeIndication_mapped g _ hmap, takeRouted]
    refine ⟨fun hstopped => ?_, fun a p hcounter hpolarity => ?_⟩
    · rw [takeFv_stopped (by simpa using hstopped)]
      rfl
    · intro r ready credited counted raised
      rw [takeFv_running (by simpa using hcounter) (by simpa using hpolarity)]
      have hzone : acceptFrom (modChannel (s.vlc.map.get g) (heardChannel .fv) s) = 2048 - s.ct.settings.halfWidth := rfl
      refine ⟨fun hdue => ?_, fun hnext hlate => ?_, fun hnext hearly => ?_⟩
      · rw [if_pos hdue]
        rfl
      · rw [if_neg hnext, hzone, if_pos hlate]
        rfl
      · rw [if_neg hnext, hzone, if_neg (Nat.not_le.mpr hearly)]
        rfl

/-! ## Valve frames by their bytes (R198) -/

theorem high_half_iff (x : Byte) (n : BitVec 4) : x.extractLsb' 4 4 = n ↔ x.toNat / 16 = n.toNat := by
  rw [BitVec.toNat_eq, BitVec.extractLsb'_toNat, Nat.shiftRight_eq_div_pow]
  have := x.isLt
  omega

theorem tagged_iff (x : Byte) (n tag : BitVec 4) :
    x.extractLsb' 4 4 = n ∧ x.extractLsb' 0 4 = tag ↔ x.toNat = 16 * n.toNat + tag.toNat := by
  rw [high_half_iff, BitVec.toNat_eq (x := x.extractLsb' 0 4), BitVec.extractLsb'_toNat, Nat.shiftRight_zero]
  have := tag.isLt
  omega

theorem readRefusal_iff (b : Byte) (c : RefusalCause) : readRefusal b = some c ↔ b = BitVec.ofNat 8 (codeRefusal c) := by
  constructor
  · unfold readRefusal
    split_ifs with h0 h1 h2 h3
    all_goals rintro ⟨⟩
    all_goals assumption
  · rintro rfl
    cases c <;> rfl

/-- R198: the second byte of a STATUS with these fields. -/
def statusByte (st : ValveStatus) : Byte :=
  BitVec.ofNat 8 (128 * st.coolingOk.toNat + 64 * st.temperatureWarning.toNat + 32 * st.gateSupplyOk.toNat + st.failedLevels.toNat)

theorem statusByte_of_readStatus : ∀ b : Byte, (readStatus b).all (fun st => statusByte st = b) = true := by decide +kernel

theorem readStatus_statusByte : ∀ (cooling warning gate : Bool) (levels : BitVec 3),
    readStatus (statusByte ⟨cooling, warning, levels, gate⟩) = some ⟨cooling, warning, levels, gate⟩ := by decide +kernel

theorem readStatus_iff (b : Byte) (st : ValveStatus) : readStatus b = some st ↔ b = statusByte st := by
  constructor
  · intro h
    simpa [h, eq_comm] using statusByte_of_readStatus b
  · rintro rfl
    exact readStatus_statusByte ..

theorem readIndication_short (first check : Byte) (i : Indication) : readIndication [first, check] = some i ↔
    check = crc8 [first] ∧ ((i = .fv ∧ first.toNat / 16 = 2) ∨ (i = .selfFired ∧ first.toNat / 16 = 5) ∨
      ∃ tag : BitVec 4, i = .fired tag ∧ first.toNat = 48 + tag.toNat) := by
  have htag (tag : BitVec 4) : first.toNat = 48 + tag.toNat ↔ first.extractLsb' 4 4 = 3#4 ∧ first.extractLsb' 0 4 = tag :=
    (tagged_iff first 3#4 tag).symm
  have hkind (n : BitVec 4) : first.toNat / 16 = n.toNat ↔ first.extractLsb' 4 4 = n := (high_half_iff first n).symm
  rw [show (2 : Nat) = (2#4).toNat from rfl, show (5 : Nat) = (5#4).toNat from rfl, hkind, hkind]
  simp only [htag, readIndication]
  generalize first.extractLsb' 4 4 = kind, first.extractLsb' 0 4 = low
  split_ifs with hcheck hfv hfired hself
  · simp [Ne.symm hcheck]
  · subst hfv
    simp [← not_not.mp hcheck, eq_comm]
  · subst hfired
    simp [← not_not.mp hcheck, eq_comm]
  · subst hself
    simp [← not_not.mp hcheck, eq_comm]
  · simp [hfv, hfired, hself]

theorem readIndication_long (first second check : Byte) (i : Indication) : readIndication [first, second, check] = some i ↔
    check = crc8 [first, second] ∧
      ((∃ (tag : BitVec 4) (c : RefusalCause), i = .refused tag c ∧ first.toNat = 64 + tag.toNat ∧
          second = BitVec.ofNat 8 (codeRefusal c)) ∨
        ∃ st : ValveStatus, i = .status st ∧ first.toNat / 16 = 6 ∧ second = statusByte st) := by
  have htag (tag : BitVec 4) : first.toNat = 64 + tag.toNat ↔ first.extractLsb' 4 4 = 4#4 ∧ first.extractLsb' 0 4 = tag :=
    (tagged_iff first 4#4 tag).symm
  have hkind : first.toNat / 16 = 6 ↔ first.extractLsb' 4 4 = 6#4 := (high_half_iff first 6#4).symm
  simp only [htag, hkind, ← readRefusal_iff, ← readStatus_iff, readIndication]
  generalize first.extractLsb' 4 4 = kind, first.extractLsb' 0 4 = low
  split_ifs with hcheck hrefused hstatus
  · simp [Ne.symm hcheck]
  · subst hrefused
    simp [← not_not.mp hcheck, and_comm, eq_comm]
  · subst hstatus
    simp [← not_not.mp hcheck, and_comm, eq_comm]
  · simp [hrefused, hstatus]

/-- R198: the frames that carry an indication, by their bytes. -/
theorem readIndication_iff (bytes : List Byte) (i : Indication) : readIndication bytes = some i ↔
    ∃ (first : Byte) (rest : List Byte), bytes = first :: rest ++ [crc8 (first :: rest)] ∧
      ((i = .fv ∧ first.toNat / 16 = 2 ∧ rest = []) ∨
       (i = .selfFired ∧ first.toNat / 16 = 5 ∧ rest = []) ∨
       (∃ tag : BitVec 4, i = .fired tag ∧ first.toNat = 48 + tag.toNat ∧ rest = []) ∨
       (∃ (tag : BitVec 4) (c : RefusalCause), i = .refused tag c ∧ first.toNat = 64 + tag.toNat ∧
         rest = [BitVec.ofNat 8 (codeRefusal c)]) ∨
       (∃ st : ValveStatus, i = .status st ∧ first.toNat / 16 = 6 ∧ rest = [statusByte st])) := by
  constructor
  · intro h
    match bytes, h with
    | [first, check], h =>
      obtain ⟨rfl, hi⟩ := (readIndication_short first check i).mp h
      exact ⟨first, [], rfl, by simpa using hi⟩
    | [first, second, check], h =>
      obtain ⟨rfl, hi⟩ := (readIndication_long first second check i).mp h
      exact ⟨first, [second], rfl, by simpa using hi⟩
  · rintro ⟨first, rest, rfl, ⟨hi, hfirst, rfl⟩ | ⟨hi, hfirst, rfl⟩ | ⟨tag, hi, hfirst, rfl⟩ | ⟨tag, c, hi, hfirst, rfl⟩ |
      ⟨st, hi, hfirst, rfl⟩⟩
    · exact (readIndication_short ..).mpr ⟨rfl, .inl ⟨hi, hfirst⟩⟩
    · exact (readIndication_short ..).mpr ⟨rfl, .inr (.inl ⟨hi, hfirst⟩)⟩
    · exact (readIndication_short ..).mpr ⟨rfl, .inr (.inr ⟨tag, hi, hfirst⟩)⟩
    · exact (readIndication_long ..).mpr ⟨rfl, .inl ⟨tag, c, hi, hfirst, rfl⟩⟩
    · exact (readIndication_long ..).mpr ⟨rfl, .inr ⟨st, hi, hfirst, rfl⟩⟩

/-- Settles O39. -/
theorem valveErrorsAndSelfFired : Obligations.ValveErrorsAndSelfFired := by
  unfold Obligations.ValveErrorsAndSelfFired
  refine ⟨fun s c bytes hheld hbytes => ?_, fun s c hheld hmap => ?_, readIndication_iff⟩
  · have hnone : readIndication bytes = none := by simpa [wellFormed] using hbytes
    simp [exec, execValveFrameError, running_free _ s hheld, takeValveFrame, hnone, countFrameError, modChannel]
  · intro awake heard counted
    have hexec : exec (.selfFired c) s = .next (takeIndication c .selfFired s) := by simp [exec, execSelfFired, running_free _ s hheld]
    refine ⟨fun hspare => ?_, fun g hg => ?_⟩
    · rw [hexec, takeIndication_spare c _ hspare]
      rfl
    · subst hg
      rw [takeIndication_mapped g _ hmap, takeRouted, takeSelfFired] at hexec
      refine ⟨_, hexec, by simp [heard, awake, counted, modGroupCounters, modGroup, modChannel, heardChannel], ?_, fun hoff => ?_, ?_⟩
      · rw [raise_events_self _ _ (by decide)]
        rfl
      · rw [raise_of_trigger_off .selfFired .selfFired _ rfl (by exact hoff)]
        exact ⟨rfl, fun k hk => noteEvent_events_ne _ _ _ (by simpa using hk)⟩
      · rw [SameButValve, raise_eq]
        rfl

end

end Sys2Proof.Machine

/-! The requests on groups, causes and the device: RESET_GROUP, BLOCK, UNBLOCK, DISABLE, MAP_GROUP (R10, R11, R142, R143, R147 to R149). -/

namespace Sys2Proof.Machine

open Safety

section
variable {s t : State}

/-! ## The frame's own acceptance apart (R187) -/

theorem takeTrigger_acceptFrame (c : TriggerCause) (s : State) : takeTrigger c (acceptFrame s) = acceptFrame (takeTrigger c s) := by
  cases hcapture : s.hr.capture with
  | free => by_cases hpost : s.hr.post = 0 <;> simp [takeTrigger, acceptFrame, hcapture, hpost, freeze, noteEvent]
  | _ => simp [takeTrigger, acceptFrame, hcapture]

theorem offerTrigger_acceptFrame (c : TriggerCause) (s : State) : offerTrigger c (acceptFrame s) = acceptFrame (offerTrigger c s) := by
  simp only [offerTrigger, apply_ite acceptFrame, ← takeTrigger_acceptFrame]
  rfl

theorem raise_acceptFrame (k : EventKind) (s : State) : raise k (acceptFrame s) = acceptFrame (raise k s) := by
  unfold raise
  cases triggerOf k with
  | none => rfl
  | some c => exact offerTrigger_acceptFrame c (noteEvent k s)

theorem enterHalted_acceptFrame (c : HaltCause) (b : Option Branch) (g : Option Group) (f : Option FailureCause) (s : State) :
    enterHalted c b g f (acceptFrame s) = acceptFrame (enterHalted c b g f s) := by
  simp only [enterHalted, apply_ite acceptFrame, ← cancelLatch_acceptFrame, ← raise_acceptFrame]
  rfl

theorem enterBlocked_acceptFrame (b : Branch) (s : State) : enterBlocked b (acceptFrame s) = acceptFrame (enterBlocked b s) := by
  cases hopen : (s.vlc.firing.get b).transaction <;> simp [enterBlocked, hopen, acceptFrame] <;> rfl

theorem changeCauses_acceptFrame (b : Branch) (f : CauseSet → CauseSet) (s : State) :
    changeCauses b f (acceptFrame s) = acceptFrame (changeCauses b f s) := by
  have hblock := enterBlocked_acceptFrame b { s with causes := s.causes.set b (f (s.causes.get b)) }
  simp only [changeCauses, apply_ite acceptFrame, ← hblock]
  rfl

theorem addCause_acceptFrame (b : Branch) (c : BlockCause) (s : State) : addCause b c (acceptFrame s) = acceptFrame (addCause b c s) :=
  changeCauses_acceptFrame ..

theorem recordFailure_acceptFrame (g : Group) (c : FailureCause) (s : State) :
    recordFailure g c (acceptFrame s) = acceptFrame (recordFailure g c s) := by
  rw [recordFailure, recordFailure, ← addCause_acceptFrame, ← raise_acceptFrame]
  rfl

theorem failGroup_acceptFrame (g : Group) (c : FailureCause) (s : State) : failGroup g c (acceptFrame s) = acceptFrame (failGroup g c s) := by
  by_cases havailable : (s.vlc.groups.get g).failure = none
  · by_cases hhalts : FailureHalts g s
    · rw [failGroup_halting g c havailable hhalts, failGroup_halting (s := acceptFrame s) g c havailable hhalts,
        recordFailure_acceptFrame, enterHalted_acceptFrame]
    · rw [failGroup_going_on g c havailable hhalts, failGroup_going_on (s := acceptFrame s) g c havailable hhalts,
        recordFailure_acceptFrame]
  · rw [failGroup_failed g c s havailable, failGroup_failed g c (acceptFrame s) havailable]

/-! ## RESET_GROUP (R149) -/

/-- R149: the cause by which a group that is reset fails again: its status first, then its channel (log entry 31). -/
def failsAgain (s : State) (g : Group) : Option FailureCause :=
  ((currentStatus s g).bind (statusFailure s.vlc.settings.redundancyLimit)).or
    (if (s.vlc.channels.get (s.vlc.map.get g)).link = .silent then some .channelSilent else none)

/-- R149: the group AVAILABLE, its consecutive counts at 0. -/
def madeAvailable (g : Group) (s : State) : State := modGroup g (fun r => { r with failure := none, misfireRun := 0, refusalRun := 0 }) s

theorem failGroup_twice (g : Group) (c d : FailureCause) (s : State) : failGroup g d (failGroup g c s) = failGroup g c s := by
  refine failGroup_failed g d _ ?_
  by_cases havailable : (s.vlc.groups.get g).failure = none
  · simp [(failGroup_fails g c havailable).failure]
  · rwa [failGroup_failed g c s havailable]

theorem resetGroup_eq (g : Group) (s : State) : resetGroup g s =
    match failsAgain s g with
    | some c => failGroup g c (madeAvailable g s)
    | none => madeAvailable g s := by
  cases hst : currentStatus s g with
  | none => by_cases hsilent : (s.vlc.channels.get (s.vlc.map.get g)).link = .silent <;> simp [resetGroup, failsAgain, hst, hsilent, madeAvailable]
  | some st =>
    have hchecked : resetGroup g s =
        if (s.vlc.channels.get (s.vlc.map.get g)).link = .silent then failGroup g .channelSilent (checkLimits g st (madeAvailable g s))
        else checkLimits g st (madeAvailable g s) := by
      simp only [resetGroup, hst]
      rfl
    have hlimit : (madeAvailable g s).vlc.settings = s.vlc.settings := rfl
    rw [hchecked, checkLimits_eq, hlimit, failsAgain, hst, Option.bind_some]
    cases statusFailure s.vlc.settings.redundancyLimit st with
    | none => by_cases hsilent : (s.vlc.channels.get (s.vlc.map.get g)).link = .silent <;> simp [hsilent]
    | some c => simp [failGroup_twice]

theorem resetGroup_acceptFrame (g : Group) (s : State) : resetGroup g (acceptFrame s) = acceptFrame (resetGroup g s) := by
  rw [resetGroup_eq, resetGroup_eq]
  have hagain : failsAgain (acceptFrame s) g = failsAgain s g := rfl
  rw [hagain]
  cases failsAgain s g with
  | none => rfl
  | some c => exact failGroup_acceptFrame g c (madeAvailable g s)

theorem readGroupByte_none {x : Byte} (h : 5 < x.toNat) : readGroupByte x = none :=
  List.getElem?_eq_none (Nat.lt_iff_add_one_le.mp h)

@[simp] theorem readGroupByte_number (g : Group) : readGroupByte (BitVec.ofNat 8 g.number) = some g := by cases g <;> rfl

theorem failGroup_device (g : Group) (c : FailureCause) (s : State) :
    (failGroup g c s).oc.device = s.oc.device ∨ (failGroup g c s).oc.device = .halted := by
  by_cases havailable : (s.vlc.groups.get g).failure = none
  · by_cases hhalts : FailureHalts g s
    · exact .inr (by rw [(failGroup_halts g c havailable hhalts).oc])
    · exact .inl (failGroup_goes_on g c havailable hhalts).device
  · exact .inl (by rw [failGroup_failed g c s havailable])

theorem enterHalted_settings (c : HaltCause) (b : Option Branch) (g : Option Group) (f : Option FailureCause) (s : State) (k : Branch) :
    ((enterHalted c b g f s).bdu.branches.get k).settings = (s.bdu.branches.get k).settings := by
  unfold enterHalted
  dsimp only
  split
  · simp [leaveRunDemand, abandonFiring]
  · rfl

theorem failGroup_settings (g : Group) (c : FailureCause) (s : State) (b : Branch) :
    ((failGroup g c s).bdu.branches.get b).settings = (s.bdu.branches.get b).settings := by
  have hrecord : ((recordFailure g c s).bdu.branches.get b).settings = (s.bdu.branches.get b).settings := by
    simp [recordFailure, addCause]
  by_cases havailable : (s.vlc.groups.get g).failure = none
  · by_cases hhalts : FailureHalts g s
    · rw [failGroup_halting g c havailable hhalts, enterHalted_settings, hrecord]
    · rw [failGroup_going_on g c havailable hhalts, hrecord]
  · rw [failGroup_failed g c s havailable]

theorem configured_failGroup (g : Group) (c : FailureCause) (s : State) : configured (failGroup g c s) = configured s :=
  configured_congr (by simp) (failGroup_settings g c s)

/-- The state after RESET_GROUP, as far as the device and the configuration go. -/
theorem resetGroup_unset (g : Group) (h : s.oc.device ≠ .unset ∨ configured s = false) :
    (resetGroup g s).oc.device ≠ .unset ∨ configured (resetGroup g s) = false := by
  rw [resetGroup_eq]
  cases failsAgain s g with
  | none => exact h
  | some c =>
    have hdevice := failGroup_device g c (madeAvailable g s)
    refine h.imp (fun hset => ?_) (fun hopen => (configured_failGroup g c _).trans hopen)
    obtain e | e := hdevice
    · exact fun hunset => hset (e.symm.trans hunset)
    · exact fun hunset => nomatch e.symm.trans hunset

theorem exec_resetGroup_open (h : Receptive s) (hc : s.oc.device ≠ .unset ∨ configured s = false) (g : Group)
    (hopen : groupRequestOpen s g.branch = true) : exec (.resetGroup (BitVec.ofNat 8 g.number)) s =
      .next (answered .resetGroup .ok (groupStateBytes (resetGroup g s) g) (resetGroup g s)) := by
  refine exec_answers h (body := doResetGroup (BitVec.ofNat 8 g.number)) (u := resetGroup g s) rfl ?_ (.inr (.inr (resetGroup_unset g hc)))
  rw [doResetGroup, readGroupByte_number]
  simp only [resetGroup_acceptFrame]
  exact if_pos hopen

theorem failsAgain_of_status {g : Group} {st : ValveStatus} (h : currentStatus s g = some st) : failsAgain s g =
    if st.coolingOk = false then some .cooling
    else if s.vlc.settings.redundancyLimit < st.failedLevels.toNat then some .redundancy
    else if (s.vlc.channels.get (s.vlc.map.get g)).link = .silent then some .channelSilent else none := by
  simp only [failsAgain, h, Option.bind_some, statusFailure]
  split_ifs <;> rfl

theorem failsAgain_of_none {g : Group} (h : currentStatus s g = none) : failsAgain s g =
    if (s.vlc.channels.get (s.vlc.map.get g)).link = .silent then some .channelSilent else none := by
  simp [failsAgain, h]

/-- R149, where the branch holds VALVE already: a new failure is recorded and raised, and nothing else. -/
theorem resetGroup_held {g : Group} (hheld : (s.causes.get g.branch).valve = true) : resetGroup g s =
    match failsAgain s g with
    | some c => raise .groupFailed (modGroup g (failedRecord c) (madeAvailable g s))
    | none => madeAvailable g s := by
  rw [resetGroup_eq]
  cases failsAgain s g with
  | none => rfl
  | some c =>
    have hgoes : ¬ FailureHalts g (madeAvailable g s) := fun hhalts => by
      have := hhalts.1
      simp [madeAvailable, hheld] at this
    exact (failGroup_going_on g c (by simp [madeAvailable]) hgoes).trans (recordFailure_held g c (by simpa [madeAvailable] using hheld))

/-- Settles O24. -/
theorem resetGroupChecksAgain : Obligations.ResetGroupChecksAgain := by
  unfold Obligations.ResetGroupChecksAgain
  refine ⟨fun s g h hc => ?_, fun s x h hx => ?_, fun s g h hc hopen hnew => ?_⟩
  · intro i again
    have hagain : again = failsAgain s g := by
      simp only [again]
      cases hst : currentStatus s g with
      | none => rw [failsAgain_of_none hst]
      | some st => rw [failsAgain_of_status hst]
    refine ⟨fun hshut => ?_, fun hopen hheld => ⟨_, exec_resetGroup_open h hc g hopen, ?_⟩⟩
    · refine exec_turns_away h (body := doResetGroup (BitVec.ofNat 8 g.number)) rfl ?_ nofun
      rw [doResetGroup, readGroupByte_number]
      exact if_neg (by simp [show groupRequestOpen (acceptFrame s) g.branch = false from hshut])
    · rw [hagain, resetGroup_held hheld]
      cases failsAgain s g with
      | none =>
        refine ⟨?_, fun k hk => ?_, rfl, rfl, replies_answered .., ?_, rfl⟩
        · simp [answered, madeAvailable]
        · simp [answered, madeAvailable, PerGroup.get_set_ne _ _ _ _ hk]
        · simp [answered, madeAvailable]
      | some c =>
        refine ⟨?_, fun k hk => ?_, ?_, ?_, replies_answered .., ?_, ?_⟩
        · simp [answered, madeAvailable, failedRecord, clearReadiness]
        · simp [answered, madeAvailable, PerGroup.get_set_ne _ _ _ _ hk]
        · simp [answered, madeAvailable]
        · simp [answered, madeAvailable]
        · simp [answered, raise_events_self, madeAvailable]
        · simp only []
          rw [raise_eq]
          rfl
  · refine exec_turns_away h (body := doResetGroup x) rfl ?_ nofun
    rw [doResetGroup, readGroupByte_none hx]
  · intro silent again
    have hagain : again = failsAgain s g := by
      simp only [again]
      cases hst : currentStatus s g with
      | none => rw [failsAgain_of_none hst]
      | some st => rw [failsAgain_of_status hst]
    refine ⟨_, exec_resetGroup_open h hc g hopen, ?_⟩
    rw [hagain, resetGroup_eq]
    cases failsAgain s g with
    | none =>
      refine ⟨?_, ?_, ?_, fun k hk => ?_, fun _ => ⟨rfl, rfl, rfl⟩, nofun⟩
      · simp [answered, madeAvailable]
      · simp [answered, madeAvailable]
      · simp [answered, madeAvailable]
      · simp [answered, madeAvailable, PerGroup.get_set_ne _ _ _ _ hk]
    | some c =>
      have havailable : ((madeAvailable g s).vlc.groups.get g).failure = none := by simp [madeAvailable]
      have hfails := failGroup_fails g c havailable
      refine ⟨hfails.failure, ?_, ?_, fun k hk => ?_, nofun, fun f hf => ?_⟩
      · exact hfails.misfireRun.trans (by simp [madeAvailable])
      · exact hfails.refusalRun.trans (by simp [madeAvailable])
      · exact (hfails.others k hk).trans (by simp [madeAvailable, PerGroup.get_set_ne _ _ _ _ hk])
      · obtain rfl := Option.some.inj hf
        refine ⟨hfails.causes, hfails.event, fun hrun htrip => ?_, fun hgoes => ?_⟩
        · have hhalt := failGroup_halts g c havailable ⟨hnew, hrun, htrip⟩
          have hoc : (answered .resetGroup .ok (groupStateBytes (failGroup g c (madeAvailable g s)) g)
              (failGroup g c (madeAvailable g s))).oc = _ := hhalt.oc
          exact ⟨by rw [hoc], by rw [hoc], by rw [hoc]; rfl, hhalt.idle⟩
        · have hon := failGroup_goes_on g c havailable fun hhalts => by
            obtain ⟨_, hrun, htrip⟩ := hhalts
            exact hgoes.elim (· hrun) fun hoff => by simp [madeAvailable, hoff] at htrip
          exact ⟨hon.device, hon.halt⟩

end

end Sys2Proof.Machine

/-! BLOCK and UNBLOCK (R147, R148, R150, R151). -/

namespace Sys2Proof.Machine

open Safety

section
variable {s t : State}

/-! ## What a changed set makes of its branch -/

/-- R150: the change of its set blocks a branch. -/
def Blocks (f : CauseSet → CauseSet) (s : State) (b : Branch) : Prop :=
  s.oc.device = .run ∧ s.causes.get b = .empty ∧ f (s.causes.get b) ≠ .empty

/-- R151: the change of its set unblocks a branch. -/
def Unblocks (f : CauseSet → CauseSet) (s : State) (b : Branch) : Prop :=
  s.oc.device = .run ∧ s.causes.get b ≠ .empty ∧ f (s.causes.get b) = .empty

theorem noCauses_false_iff (x : CauseSet) : noCauses x = false ↔ x ≠ .empty := by
  rw [ne_eq, ← noCauses_iff, Bool.not_eq_true]

theorem changeCauses_blocks {b : Branch} {f : CauseSet → CauseSet} (h : Blocks f s b) :
    changeCauses b f s = enterBlocked b { s with causes := s.causes.set b (f (s.causes.get b)) } := by
  obtain ⟨hrun, hold, hnew⟩ := h
  simp [changeCauses, hrun, (noCauses_iff _).mpr hold, (noCauses_false_iff _).mpr hnew]

theorem changeCauses_unblocks {b : Branch} {f : CauseSet → CauseSet} (h : Unblocks f s b) :
    changeCauses b f s = leaveBlocked b { s with causes := s.causes.set b (f (s.causes.get b)) } := by
  obtain ⟨hrun, hold, hnew⟩ := h
  simp [changeCauses, hrun, (noCauses_false_iff _).mpr hold, (noCauses_iff _).mpr hnew]

theorem changeCauses_sets {b : Branch} {f : CauseSet → CauseSet} (hb : ¬ Blocks f s b) (hu : ¬ Unblocks f s b) :
    changeCauses b f s = { s with causes := s.causes.set b (f (s.causes.get b)) } := by
  obtain ⟨hrun, hold, hnew, -⟩ | ⟨hrun, hold, hnew, -⟩ | ⟨-, e⟩ := changeCauses_cases b f s
  · exact absurd ⟨hrun, (noCauses_iff _).mp hold, (noCauses_false_iff _).mp hnew⟩ hb
  · exact absurd ⟨hrun, (noCauses_false_iff _).mp hold, (noCauses_iff _).mp hnew⟩ hu
  · exact e

/-- A branch's items as a change of its set leaves them. -/
structure SetChanged (f : CauseSet → CauseSet) (b : Branch) (s t : State) : Prop where
  causes : t.causes.get b = f (s.causes.get b)
  blocked : Blocks f s b → t.bdu.branches.get b = blockDemand (s.bdu.branches.get b) ∧ (t.vlc.firing.get b).armed = none ∧
    (t.vlc.firing.get b).transaction = none
  unblocked : Unblocks f s b → t.bdu.branches.get b = unblockDemand (s.bdu.branches.get b)
  stands : ¬ Blocks f s b → ¬ Unblocks f s b → t.bdu.branches.get b = s.bdu.branches.get b
  firing : ¬ Blocks f s b → t.vlc.firing.get b = s.vlc.firing.get b

theorem changeCauses_changed (b : Branch) (f : CauseSet → CauseSet) (s : State) : SetChanged f b s (changeCauses b f s) where
  causes := by simp
  blocked h := by
    rw [changeCauses_blocks h]
    exact ⟨by simp, enterBlocked_firing_self ..⟩
  unblocked h := by
    rw [changeCauses_unblocks h]
    simp [leaveBlocked]
  stands hb hu := by rw [changeCauses_sets hb hu]
  firing hb := by
    by_cases hu : Unblocks f s b
    · rw [changeCauses_unblocks hu]
      simp
    · rw [changeCauses_sets hb hu]

/-- A branch's own items, and what a change of its set looks at. -/
structure SameBranch (c : Branch) (s t : State) : Prop where
  device : t.oc.device = s.oc.device
  causes : t.causes.get c = s.causes.get c
  branch : t.bdu.branches.get c = s.bdu.branches.get c
  firing : t.vlc.firing.get c = s.vlc.firing.get c

theorem changeCauses_elsewhere {b c : Branch} (f : CauseSet → CauseSet) (h : c ≠ b) (s : State) : SameBranch c s (changeCauses b f s) := by
  obtain ⟨-, -, -, e⟩ | ⟨-, -, -, e⟩ | ⟨-, e⟩ := changeCauses_cases b f s <;> rw [e]
  · exact ⟨by simp, by simp [PerBranch.get_set_ne _ _ _ _ h], by simp [PerBranch.get_set_ne _ _ _ _ h], enterBlocked_firing_ne _ _ h⟩
  · exact ⟨rfl, by simp [PerBranch.get_set_ne _ _ _ _ h], by simp [leaveBlocked, PerBranch.get_set_ne _ _ _ _ h], by simp⟩
  · exact ⟨rfl, PerBranch.get_set_ne _ _ _ _ h, rfl, rfl⟩

theorem SetChanged.before {f : CauseSet → CauseSet} {c : Branch} {u : State} (h : SetChanged f c u t) (k : SameBranch c s u) :
    SetChanged f c s t where
  causes := by rw [h.causes, k.causes]
  blocked hb := by rw [← k.branch]; exact h.blocked (by simpa [Blocks, k.device, k.causes] using hb)
  unblocked hu := by rw [← k.branch]; exact h.unblocked (by simpa [Unblocks, k.device, k.causes] using hu)
  stands hb hu := by
    rw [← k.branch]
    exact h.stands (by simpa [Blocks, k.device, k.causes] using hb) (by simpa [Unblocks, k.device, k.causes] using hu)
  firing hb := by rw [← k.firing]; exact h.firing (by simpa [Blocks, k.device, k.causes] using hb)

theorem SetChanged.after {f : CauseSet → CauseSet} {c : Branch} {u : State} (h : SetChanged f c s u) (k : SameBranch c u t) : SetChanged f c s t where
  causes := by rw [k.causes, h.causes]
  blocked hb := by rw [k.branch, k.firing]; exact h.blocked hb
  unblocked hu := by rw [k.branch]; exact h.unblocked hu
  stands hb hu := by rw [k.branch]; exact h.stands hb hu
  firing hb := by rw [k.firing]; exact h.firing hb

/-! ## Several sets changed one after another -/

/-- The sets of several branches changed in turn. -/
def changeEach (f : CauseSet → CauseSet) (l : List Branch) (s : State) : State := l.foldl (fun s b => changeCauses b f s) s

theorem changeEach_acceptFrame (f : CauseSet → CauseSet) (l : List Branch) (s : State) :
    changeEach f l (acceptFrame s) = acceptFrame (changeEach f l s) := by
  induction l generalizing s with
  | nil => rfl
  | cons b l ih =>
    simp only [changeEach, List.foldl_cons, changeCauses_acceptFrame]
    exact ih _

/-- What no change of a set touches. -/
structure SetsOnly (s t : State) : Prop where
  device : t.oc.device = s.oc.device
  slr : t.slr = s.slr
  ct : t.ct = s.ct
  table : t.table = s.table
  pli : t.pli = s.pli
  hr : t.hr = s.hr
  sli : t.sli = s.sli
  settings : ∀ b, (t.bdu.branches.get b).settings = (s.bdu.branches.get b).settings
  outside : s.oc.device ≠ .run → t = { s with causes := t.causes }

theorem changeEach_setsOnly (f : CauseSet → CauseSet) (l : List Branch) (s : State) : SetsOnly s (changeEach f l s) := by
  induction l generalizing s with
  | nil => exact ⟨rfl, rfl, rfl, rfl, rfl, rfl, rfl, fun _ => rfl, fun _ => rfl⟩
  | cons b l ih =>
    obtain ⟨device, slr, ct, table, pli, hr, sli, settings, outside⟩ := ih (changeCauses b f s)
    refine ⟨device.trans (by simp), slr.trans (by simp), ct.trans (by simp), table.trans (by simp), pli.trans (by simp), hr.trans (by simp),
      sli.trans (by simp), fun c => (settings c).trans (by simp), fun hout => ?_⟩
    have hlast := outside (by simpa using hout)
    rw [changeCauses_outside b f s hout] at hlast
    simp only [changeEach, List.foldl_cons, changeCauses_outside b f s hout]
    exact hlast

/-- The change of one branch's set does not reach another's. -/
theorem changeEach_elsewhere (f : CauseSet → CauseSet) {l : List Branch} {c : Branch} (hc : c ∉ l) (s : State) :
    SameBranch c s (changeEach f l s) := by
  induction l generalizing s with
  | nil => exact ⟨rfl, rfl, rfl, rfl⟩
  | cons b l ih =>
    rw [List.mem_cons, not_or] at hc
    have hfirst := changeCauses_elsewhere f hc.1 s
    have hrest := ih hc.2 (changeCauses b f s)
    exact ⟨hrest.device.trans hfirst.device, hrest.causes.trans hfirst.causes, hrest.branch.trans hfirst.branch,
      hrest.firing.trans hfirst.firing⟩

theorem changeEach_changed (f : CauseSet → CauseSet) {l : List Branch} (hl : l.Nodup) {c : Branch} (hc : c ∈ l) (s : State) :
    SetChanged f c s (changeEach f l s) := by
  induction l generalizing s with
  | nil => cases hc
  | cons b l ih =>
    rw [List.nodup_cons] at hl
    obtain rfl | hc := List.mem_cons.mp hc
    · exact (changeCauses_changed c f s).after (changeEach_elsewhere f hl.1 _)
    · exact (ih hl.2 hc _).before (changeCauses_elsewhere f (fun h => hl.1 (by rwa [← h])) s)

/-- A change that empties sets only leaves the valve controller as it was. -/
theorem changeEach_vlc {f : CauseSet → CauseSet} (hf : f .empty = .empty) (l : List Branch) (s : State) :
    (changeEach f l s).vlc = s.vlc := by
  induction l generalizing s with
  | nil => rfl
  | cons b l ih =>
    refine (ih (changeCauses b f s)).trans ?_
    have hb : ¬ Blocks f s b := fun ⟨_, hold, hnew⟩ => hnew (by rw [hold, hf])
    by_cases hu : Unblocks f s b
    · rw [changeCauses_unblocks hu]
      simp
    · rw [changeCauses_sets hb hu]

/-! ## The two requests -/

theorem cancelLatch_events_ne (c : CancelCause) {k : EventKind} (h : k ≠ .presetCancelled) (s : State) :
    (cancelLatch c s).sli.events.get k = s.sli.events.get k := by
  by_cases hlatch : s.pli.latch = none
  · rw [cancelLatch_none c s hlatch]
  · rw [cancelLatch_some c s hlatch]
    exact noteEvent_events_ne _ _ _ h

theorem readBranchSet_none {x : Byte} (h : 3 < x.toNat) : readBranchSet x = none := by
  rw [readBranchSet, if_neg (by rintro rfl; simp at h), readBranchByte_none (by omega)]
  rfl

@[simp] theorem readBranchSet_number (b : Branch) : readBranchSet (BitVec.ofNat 8 b.number) = some [b] := by cases b <;> rfl

@[simp] theorem readBranchSet_all : readBranchSet 3 = some Branch.all := rfl

theorem changed_unset (f : CauseSet → CauseSet) (l : List Branch) (c : CancelCause) (h : s.oc.device ≠ .unset ∨ configured s = false) :
    (cancelLatch c (changeEach f l s)).oc.device ≠ .unset ∨ configured (cancelLatch c (changeEach f l s)) = false := by
  have hsets := changeEach_setsOnly f l s
  rw [configured_cancelLatch, configured_congr hsets.table hsets.settings]
  simpa [hsets.device] using h

/-- R147: the sets with SUPERVISOR added. -/
def withSupervisor (x : CauseSet) : CauseSet := { x with supervisor := true }

/-- The state that BLOCK leaves, apart from the interface's own items. -/
def blocked (l : List Branch) (s : State) : State := cancelLatch .block (changeEach withSupervisor l s)

/-- The state that UNBLOCK leaves, apart from the interface's own items. -/
def unblocked (l : List Branch) (s : State) : State := cancelLatch .unblock (changeEach unblockSet l s)

theorem exec_block (h : Receptive s) (hc : s.oc.device ≠ .unset ∨ configured s = false) {x : Byte} {l : List Branch}
    (hx : readBranchSet x = some l) : exec (.block x) s = .next (answered .block .ok (causesBytes (blocked l s)) (blocked l s)) := by
  refine exec_answers h (body := doBlock x) (u := blocked l s) rfl ?_ (.inr (.inr (changed_unset _ _ _ hc)))
  have heach : l.foldl (fun s b => addCause b .supervisor s) (acceptFrame s) = acceptFrame (changeEach withSupervisor l s) :=
    changeEach_acceptFrame withSupervisor l s
  simp only [doBlock, hx, heach, cancelLatch_acceptFrame]
  rfl

theorem exec_unblock (h : Receptive s) (hc : s.oc.device ≠ .unset ∨ configured s = false) {x : Byte} {l : List Branch}
    (hx : readBranchSet x = some l) (hfailed : l.any (branchHasFailed s) = false) :
    exec (.unblock x) s = .next (answered .unblock .ok (causesBytes (unblocked l s)) (unblocked l s)) := by
  refine exec_answers h (body := doUnblock x) (u := unblocked l s) rfl ?_ (.inr (.inr (changed_unset _ _ _ hc)))
  have heach : l.foldl (fun s b => changeCauses b unblockSet s) (acceptFrame s) = acceptFrame (changeEach unblockSet l s) :=
    changeEach_acceptFrame unblockSet l s
  simp only [doUnblock, hx, heach, cancelLatch_acceptFrame]
  exact if_neg (by simp [show l.any (branchHasFailed (acceptFrame s)) = false from hfailed])

theorem exec_unblock_refused (h : Receptive s) {x : Byte} {l : List Branch} (hx : readBranchSet x = some l)
    (hfailed : l.any (branchHasFailed s) = true) : exec (.unblock x) s = .next (answered .unblock .refusedState (causesBytes s) s) := by
  refine exec_turns_away h (body := doUnblock x) rfl ?_ nofun
  simp only [doUnblock, hx]
  exact if_pos hfailed

end

end Sys2Proof.Machine

/-! BLOCK and UNBLOCK, DISABLE and MAP_GROUP as requests (R10, R11, R142, R143, R147, R148). -/

namespace Sys2Proof.Machine

open Safety

section
variable {s t : State}

/-- What is left once the latch is cancelled too. -/
structure LatchOnly (s t : State) : Prop where
  oc : t.oc = s.oc
  slr : t.slr = s.slr
  ct : t.ct = s.ct
  bdu : t.bdu = s.bdu
  table : t.table = s.table
  vlc : t.vlc = s.vlc
  causes : t.causes = s.causes
  hr : t.hr = s.hr
  inputs : t.pli.inputs = s.pli.inputs
  events : OtherEventsKept [.presetCancelled] s t

theorem cancelLatch_latchOnly (c : CancelCause) (s : State) : LatchOnly s (cancelLatch c s) where
  oc := by simp
  slr := by simp
  ct := by simp
  bdu := by simp
  table := by simp
  vlc := by simp
  causes := by simp
  hr := by rw [cancelLatch_eq]
  inputs := by simp
  events k hk := cancelLatch_events_ne c (by simpa using hk) s

theorem withSupervisor_ne_empty (x : CauseSet) : withSupervisor x ≠ .empty := by
  rintro h
  simpa [withSupervisor, CauseSet.empty] using congrArg CauseSet.supervisor h

theorem blocks_withSupervisor {b : Branch} : Blocks withSupervisor s b ↔ s.oc.device = .run ∧ s.causes.get b = .empty := by
  simp [Blocks, withSupervisor_ne_empty]

theorem not_unblocks_withSupervisor {b : Branch} : ¬ Unblocks withSupervisor s b := fun h => withSupervisor_ne_empty _ h.2.2

theorem Branch.nodup_all : Branch.all.Nodup := by decide

theorem Branch.mem_all (b : Branch) : b ∈ Branch.all := by cases b <;> decide

theorem changeAll_changed (f : CauseSet → CauseSet) (b : Branch) (s : State) : SetChanged f b s (changeEach f Branch.all s) :=
  changeEach_changed f Branch.nodup_all (Branch.mem_all b) s

/-- Outside RUN, with no latch armed, the sets alone change. -/
theorem changeAll_still (f : CauseSet → CauseSet) (c : CancelCause) (hstate : s.oc.device ≠ .run) (hlatch : s.pli.latch = none) :
    cancelLatch c (changeEach f Branch.all s) = { s with causes := (changeEach f Branch.all s).causes } := by
  have hsets := changeEach_setsOnly f Branch.all s
  rw [cancelLatch_none _ _ (by rwa [hsets.pli])]
  exact hsets.outside hstate

/-- Settles O25. -/
theorem blockAddsSupervisor : Obligations.BlockAddsSupervisor := by
  unfold Obligations.BlockAddsSupervisor
  refine ⟨fun s b h hc => ?_, fun s h hstate hlatch => ?_, fun s x h hx => ?_, fun s h hc => ?_⟩
  · have hlatch := cancelLatch_cancelled .block (changeEach withSupervisor [b] s)
    have honly := cancelLatch_latchOnly .block (changeEach withSupervisor [b] s)
    have hsets := changeEach_setsOnly withSupervisor [b] s
    refine ⟨_, exec_block h hc (readBranchSet_number b), replies_answered .., honly.causes.trans (changeCauses_causes ..),
      hlatch.latch, fun hs => (hlatch.armed (by rwa [hsets.pli])).1, fun c hcb => ?_, honly.ct.trans hsets.ct, honly.slr.trans hsets.slr,
      honly.hr.trans hsets.hr, honly.table.trans hsets.table, ?_, fun k hk => ?_, fun hstands => ?_, fun hrun hfree => ?_⟩
    · have hother := changeEach_elsewhere withSupervisor (l := [b]) (by simpa using hcb) s
      exact ⟨(congrArg (·.branches.get c) honly.bdu).trans hother.branch, (congrArg (·.firing.get c) honly.vlc).trans hother.firing⟩
    · exact (congrArg OperatingControl.device honly.oc).trans hsets.device
    · exact (honly.events k hk).trans (by rw [hsets.sli])
    · have hset : changeEach withSupervisor [b] s = { s with causes := s.causes.set b (withSupervisor (s.causes.get b)) } :=
        addCause_stands b .supervisor s hstands
      exact ⟨honly.bdu.trans (by rw [hset]), honly.vlc.trans (by rw [hset]), honly.oc.trans (by rw [hset])⟩
    · have hblock : changeEach withSupervisor [b] s =
          enterBlocked b { s with causes := s.causes.set b (withSupervisor (s.causes.get b)) } :=
        addCause_blocks b .supervisor s hrun hfree
      have hgiven := enterBlocked_givesUp b { s with causes := s.causes.set b (withSupervisor (s.causes.get b)) }
      have hbranch : (answered .block .ok (causesBytes (blocked [b] s)) (blocked [b] s)).bdu.branches.get b =
          blockDemand (s.bdu.branches.get b) := (congrArg (·.branches.get b) honly.bdu).trans (by simp [hblock])
      have hvlc : (answered .block .ok (causesBytes (blocked [b] s)) (blocked [b] s)).vlc = (enterBlocked b _).vlc :=
        honly.vlc.trans (by rw [hblock])
      have hfallback := (congrArg OperatingControl.fallbackActive honly.oc).trans
        ((congrArg (·.oc.fallbackActive) hblock).trans (enterBlocked_raisesFallback ..))
      rw [hbranch, hvlc]
      exact ⟨rfl, rfl, rfl, rfl, rfl, hfallback, hgiven.armed, hgiven.transaction, hgiven.overtaken, hgiven.free⟩
  · have hdevice : s.oc.device ≠ .unset ∧ s.oc.device ≠ .run := by rcases hstate with e | e | e <;> simp [e]
    refine ⟨_, exec_block h (.inl hdevice.1) readBranchSet_all, fun b => ?_, ?_⟩
    · exact (congrArg (·.get b) (cancelLatch_latchOnly .block _).causes).trans (changeAll_changed withSupervisor b s).causes
    · simp only [answered, blocked, changeAll_still _ _ hdevice.2 hlatch]
  · refine exec_turns_away h (body := doBlock x) rfl ?_ nofun
    rw [doBlock, readBranchSet_none hx]
    rfl
  · have hlatch := cancelLatch_cancelled .block (changeEach withSupervisor Branch.all s)
    have honly := cancelLatch_latchOnly .block (changeEach withSupervisor Branch.all s)
    have hsets := changeEach_setsOnly withSupervisor Branch.all s
    refine ⟨_, exec_block h hc readBranchSet_all, replies_answered .., fun b => ?_,
      (congrArg OperatingControl.device honly.oc).trans hsets.device, hlatch.latch, fun hnone => ?_, fun hsome => ?_, fun hout => ?_,
      fun hrun b => ⟨fun hempty => ?_, fun hbusy => ?_⟩⟩
    · exact (congrArg (·.get b) honly.causes).trans (changeAll_changed withSupervisor b s).causes
    · obtain ⟨hpli, hevents⟩ := hlatch.free (by rwa [hsets.pli])
      exact ⟨hpli.trans hsets.pli, hevents.trans (by rw [hsets.sli])⟩
    · obtain ⟨hlast, hcount, hevent⟩ := hlatch.armed (by rwa [hsets.pli])
      exact ⟨hlast, hcount.trans (by rw [hsets.pli]), hevent.trans (by rw [hsets.sli])⟩
    · have hstill := hsets.outside hout
      exact ⟨honly.bdu.trans (by rw [hstill]), honly.vlc.trans (by rw [hstill]), honly.oc.trans (by rw [hstill])⟩
    · obtain ⟨hbranch, harmed, hopen⟩ := (changeAll_changed withSupervisor b s).blocked (blocks_withSupervisor.mpr ⟨hrun, hempty⟩)
      have hbdu := (congrArg (·.branches.get b) honly.bdu).trans hbranch
      have hfiring := congrArg (·.firing.get b) honly.vlc
      exact ⟨congrArg BranchDemand.state hbdu, congrArg BranchDemand.decision hbdu, (congrArg Firing.armed hfiring).trans harmed,
        (congrArg Firing.transaction hfiring).trans hopen⟩
    · have hnot : ¬ Blocks withSupervisor s b := fun hb => hbusy hb.2.1
      exact ⟨(congrArg (·.branches.get b) honly.bdu).trans
          ((changeAll_changed withSupervisor b s).stands hnot not_unblocks_withSupervisor),
        (congrArg (·.firing.get b) honly.vlc).trans ((changeAll_changed withSupervisor b s).firing hnot)⟩

/-! ## UNBLOCK (R148) -/

theorem any_branchHasFailed : Branch.all.any (branchHasFailed s) = true ↔ ∃ g, (s.vlc.groups.get g).failure ≠ none := by
  rw [List.any_eq_true]
  constructor
  · rintro ⟨b, -, hb⟩
    rw [branchHasFailed, Bool.or_eq_true] at hb
    obtain hb | hb := hb
    · exact ⟨b.group .forward, Option.isSome_iff_ne_none.mp hb⟩
    · exact ⟨b.group .reverse, Option.isSome_iff_ne_none.mp hb⟩
  · rintro ⟨g, hg⟩
    refine ⟨g.branch, Branch.mem_all _, ?_⟩
    cases hb : branchHasFailed s g.branch with
    | true => rfl
    | false => exact absurd (branchHasFailed_eq_false hb g rfl) hg

theorem any_branchHasFailed_eq_false : Branch.all.any (branchHasFailed s) = false ↔ ∀ g, (s.vlc.groups.get g).failure = none := by
  rw [← Bool.not_eq_true, any_branchHasFailed]
  simp

theorem unblockSet_empty : unblockSet .empty = .empty := rfl

theorem not_blocks_unblockSet {b : Branch} : ¬ Blocks unblockSet s b := fun ⟨_, hold, hnew⟩ => hnew (by rw [hold, unblockSet_empty])

/-- Settles O26. -/
theorem unblockRemovesCauses : Obligations.UnblockRemovesCauses := by
  unfold Obligations.UnblockRemovesCauses
  refine ⟨fun s b h hc => ⟨fun hfailed => ?_, fun hfine => ?_⟩, fun s h hstate hlatch => ⟨fun hfailed => ?_, fun hfine => ?_⟩,
    fun s x h hx => ?_, fun s h hc => ⟨fun hfailed => ?_, fun hfine => ?_⟩⟩
  · exact exec_unblock_refused h (readBranchSet_number b) (by simpa using hfailed)
  · have hlatch := cancelLatch_cancelled .unblock (changeEach unblockSet [b] s)
    have honly := cancelLatch_latchOnly .unblock (changeEach unblockSet [b] s)
    have hsets := changeEach_setsOnly unblockSet [b] s
    have hcauses : (answered .unblock .ok (causesBytes (unblocked [b] s)) (unblocked [b] s)).causes =
        s.causes.set b (unblockSet (s.causes.get b)) := honly.causes.trans (changeCauses_causes ..)
    refine ⟨_, exec_unblock h hc (readBranchSet_number b) (by simpa using hfine), replies_answered .., hcauses, hlatch.latch,
      honly.vlc.trans (changeEach_vlc unblockSet_empty _ _), honly.ct.trans hsets.ct, honly.slr.trans hsets.slr, honly.hr.trans hsets.hr,
      (congrArg OperatingControl.device honly.oc).trans hsets.device, fun k hk => (honly.events k hk).trans (by rw [hsets.sli]),
      fun c hcb => ?_, fun hrun hold hnew => ?_, fun hstands => honly.bdu.trans ?_⟩
    · exact (congrArg (·.branches.get c) honly.bdu).trans (changeEach_elsewhere unblockSet (l := [b]) (by simpa using hcb) s).branch
    · rw [hcauses, PerBranch.get_set_self] at hnew
      have hu : Unblocks unblockSet s b := ⟨hrun, (noCauses_false_iff _).mp hold, (noCauses_iff _).mp hnew⟩
      exact (congrArg (·.branches.get b) honly.bdu).trans ((changeCauses_changed b unblockSet s).unblocked hu)
    · rw [hcauses, PerBranch.get_set_self] at hstands
      have hset : changeEach unblockSet [b] s = { s with causes := s.causes.set b (unblockSet (s.causes.get b)) } :=
        hstands.elim (changeCauses_outside b unblockSet s) fun he => changeCauses_still b unblockSet s he.symm
      rw [hset]
  · exact exec_unblock_refused h readBranchSet_all (any_branchHasFailed.mpr hfailed)
  · have hdevice : s.oc.device ≠ .unset ∧ s.oc.device ≠ .run := by rcases hstate with e | e | e <;> simp [e]
    refine ⟨_, exec_unblock h (.inl hdevice.1) readBranchSet_all (any_branchHasFailed_eq_false.mpr hfine), fun b => ?_, ?_⟩
    · exact (congrArg (·.get b) (cancelLatch_latchOnly .unblock _).causes).trans (changeAll_changed unblockSet b s).causes
    · simp only [answered, unblocked, changeAll_still _ _ hdevice.2 hlatch]
  · refine exec_turns_away h (body := doUnblock x) rfl ?_ nofun
    rw [doUnblock, readBranchSet_none hx]
    rfl
  · exact exec_unblock_refused h readBranchSet_all (any_branchHasFailed.mpr hfailed)
  · have hlatch := cancelLatch_cancelled .unblock (changeEach unblockSet Branch.all s)
    have honly := cancelLatch_latchOnly .unblock (changeEach unblockSet Branch.all s)
    have hsets := changeEach_setsOnly unblockSet Branch.all s
    have hcauses (b : Branch) : (answered .unblock .ok (causesBytes (unblocked Branch.all s)) (unblocked Branch.all s)).causes.get b =
        unblockSet (s.causes.get b) := (congrArg (·.get b) honly.causes).trans (changeAll_changed unblockSet b s).causes
    refine ⟨_, exec_unblock h hc readBranchSet_all (any_branchHasFailed_eq_false.mpr hfine), replies_answered .., hcauses,
      honly.vlc.trans (changeEach_vlc unblockSet_empty _ _), (congrArg OperatingControl.device honly.oc).trans hsets.device, hlatch.latch,
      fun hnone => ?_, fun hsome => ?_, fun hout => honly.bdu.trans (by rw [hsets.outside hout]), fun hrun b => ?_⟩
    · obtain ⟨hpli, hevents⟩ := hlatch.free (by rwa [hsets.pli])
      exact ⟨hpli.trans hsets.pli, hevents.trans (by rw [hsets.sli])⟩
    · obtain ⟨hlast, hcount, hevent⟩ := hlatch.armed (by rwa [hsets.pli])
      exact ⟨hlast, hcount.trans (by rw [hsets.pli]), hevent.trans (by rw [hsets.sli])⟩
    · refine (congrArg (·.branches.get b) honly.bdu).trans ?_
      rw [hcauses]
      split
      · next hleaves => exact (changeAll_changed unblockSet b s).unblocked ⟨hrun, hleaves.1, hleaves.2⟩
      · next hstays => exact (changeAll_changed unblockSet b s).stands not_blocks_unblockSet fun hu => hstays ⟨hu.2.1, hu.2.2⟩

end

end Sys2Proof.Machine

/-! DISABLE and MAP_GROUP as requests (R10, R11, R142, R143). -/

namespace Sys2Proof.Machine

open Safety

section
variable {s t : State}

/-! ## DISABLE (R10, R11) -/

/-- R10: a started or halted device stopped, its latch apart. -/
def stopDevice (s : State) : State :=
  abandonFiring <| flushLines
    { s with
      oc := ⟨.ready, .clear, false, true, none⟩
      ct := { s.ct with nominal := none, progress := .empty, tracks := s.ct.tracks.mapKey (fun _ => disableTrack) }
      bdu := { s.bdu with branches := s.bdu.branches.mapKey (fun _ => leaveRunDemand) }
      causes := s.causes.mapKey (fun _ c => { c with sync := false }) }

theorem disableDevice_stops (h : s.oc.device = .acquire ∨ s.oc.device = .run ∨ s.oc.device = .halted) :
    disableDevice s = cancelLatch .disable (stopDevice s) := by
  obtain h | h | h := h <;> simp [disableDevice, h, stopDevice]

theorem disableDevice_acceptFrame (s : State) : disableDevice (acceptFrame s) = acceptFrame (disableDevice s) := by
  by_cases h : s.oc.device = .acquire ∨ s.oc.device = .run ∨ s.oc.device = .halted
  · rw [disableDevice_stops h, disableDevice_stops (s := acceptFrame s) h, ← cancelLatch_acceptFrame]
    rfl
  · have hstill : s.oc.device = .unset ∨ s.oc.device = .ready := by
      cases hdevice : s.oc.device <;> simp_all
    rw [disableDevice_still s hstill, disableDevice_still (acceptFrame s) hstill]

theorem exec_disable (h : Receptive s) (hc : (disableDevice s).oc.device ≠ .unset ∨ configured (disableDevice s) = false) :
    exec .disable s = .next (answered .disable .ok [] (disableDevice s)) := by
  refine exec_answers h (body := doDisable) (u := disableDevice s) rfl ?_ (.inr (.inr hc))
  rw [doDisable, disableDevice_acceptFrame]
  rfl

/-- Settles O22. -/
theorem disableStopsTheDevice : Obligations.DisableStopsTheDevice := by
  unfold Obligations.DisableStopsTheDevice
  refine ⟨fun s h => ⟨fun hstate => ?_, fun hready => ?_⟩, fun s h hunset hc => ?_⟩
  · have honly := cancelLatch_latchOnly .disable (stopDevice s)
    have hlatch := cancelLatch_cancelled .disable (stopDevice s)
    have hexec := exec_disable h (by rw [disableDevice_stops hstate, honly.oc]; exact .inl nofun)
    rw [disableDevice_stops hstate] at hexec
    refine ⟨_, hexec, replies_answered .., honly.oc, fun b => ?_, fun b => ?_, fun b => ?_, (congrArg DemandUnit.lines honly.bdu :),
      fun g => ?_, (congrArg ValveControl.map honly.vlc :), (congrArg ValveControl.channels honly.vlc :),
          (congrArg ValveControl.settings honly.vlc :),
      (congrArg Tracker.settings honly.ct :), (congrArg Tracker.nominal honly.ct :), (congrArg Tracker.progress honly.ct :), honly.table, honly.hr,
      honly.slr, hlatch.latch, honly.inputs, (congrArg DemandUnit.shares honly.bdu :), fun b => ?_,
      fun hs => ⟨(hlatch.armed hs).1, (hlatch.armed hs).2.2⟩, honly.events⟩
    · simp [BranchIdle, answered, stopDevice, disableTrack, leaveRunDemand, Track.reset]
    · simp [answered, stopDevice, disableTrack]
    · simp [answered, stopDevice]
    · simp [answered, stopDevice, clearReadiness]
    · simp [answered, stopDevice, leaveRunDemand]
  · have hstill := disableDevice_still s (.inr hready)
    rw [exec_disable h (by rw [hstill, hready]; exact .inl nofun), hstill]
  · have hstill := disableDevice_still s (.inl hunset)
    rw [exec_disable h (by rw [hstill]; exact .inr hc), hstill]

/-! ## MAP_GROUP (R142, R143) -/

theorem heldByOther_iff {g : Group} {c : ValveChannel} : heldByOther s g c = true ↔ ∃ h, h ≠ g ∧ s.vlc.map.get h = c := by
  rw [heldByOther, List.any_eq_true]
  simp only [Bool.and_eq_true, bne_iff_ne, beq_iff_eq]
  exact ⟨fun ⟨k, _, hk⟩ => ⟨k, hk⟩, fun ⟨k, hk⟩ => ⟨k, Group.mem_all k, hk⟩⟩

theorem heldByOther_eq_false {g : Group} {c : ValveChannel} (h : ∀ k, k ≠ g → s.vlc.map.get k ≠ c) : heldByOther s g c = false := by
  rw [← Bool.not_eq_true, heldByOther_iff]
  exact fun ⟨k, hk, hc⟩ => h k hk hc

@[simp] theorem readChannelByte_number (c : ValveChannel) : readChannelByte (BitVec.ofNat 8 c.number) = some c := by cases c <;> rfl

theorem readChannelByte_none {x : Byte} (h : 7 < x.toNat) : readChannelByte x = none :=
  List.getElem?_eq_none (Nat.lt_iff_add_one_le.mp h)

theorem moveGroup_acceptFrame (g : Group) (c : ValveChannel) (s : State) : moveGroup g c (acceptFrame s) = acceptFrame (moveGroup g c s) := by
  rw [moveGroup, moveGroup, ← cancelLatch_acceptFrame]
  rfl

/-- R142, R143: what the body of MAP_GROUP answers, its checks in order. -/
theorem doMapGroup_eq (g : Group) (c : ValveChannel) (s : State) :
    doMapGroup (BitVec.ofNat 8 g.number) (BitVec.ofNat 8 c.number) (acceptFrame s) =
      if heldByOther s g c then turnAway (acceptFrame s) .refusedConflict (mapBytes s)
      else if !groupRequestOpen s g.branch then turnAway (acceptFrame s) .refusedState (mapBytes s)
      else if s.vlc.map.get g = c then okay (acceptFrame s) (mapBytes s)
      else if (s.vlc.channels.get c).link = .silent then turnAway (acceptFrame s) .refusedState (mapBytes s)
      else okay (acceptFrame (moveGroup g c s)) (mapBytes (moveGroup g c s)) := by
  rw [doMapGroup, readGroupByte_number, readChannelByte_number]
  simp only [moveGroup_acceptFrame]
  rfl

/-- Settles O23. -/
theorem mapGroupMovesOrRefuses : Obligations.MapGroupMovesOrRefuses := by
  unfold Obligations.MapGroupMovesOrRefuses
  refine ⟨fun s g c h hc => ?_, fun s x y h hxy => ?_⟩
  · have hbody := doMapGroup_eq g c s
    intro i
    refine ⟨fun hheld => ?_, fun hfree hshut => ?_, fun hfree hopen => ⟨fun hsame => ?_, fun hother hsilent => ?_, fun hother hactive => ?_⟩⟩
    · rw [if_pos (heldByOther_iff.mpr hheld)] at hbody
      exact exec_turns_away h rfl hbody nofun
    · rw [if_neg (by simp [heldByOther_eq_false hfree]), if_pos (by simp [hshut])] at hbody
      exact exec_turns_away h rfl hbody nofun
    · rw [if_neg (by simp [heldByOther_eq_false hfree]), if_neg (by simp [hopen]), if_pos hsame] at hbody
      exact exec_answers h rfl hbody (.inr (.inr hc))
    · rw [if_neg (by simp [heldByOther_eq_false hfree]), if_neg (by simp [hopen]), if_neg hother, if_pos hsilent] at hbody
      exact exec_turns_away h rfl hbody nofun
    · rw [if_neg (by simp [heldByOther_eq_false hfree]), if_neg (by simp [hopen]), if_neg hother, if_neg (by simp [hactive])] at hbody
      have honly := cancelLatch_latchOnly .mapGroup (modGroup g movedGroup { s with vlc := { s.vlc with map := s.vlc.map.set g c } })
      have hlatch := cancelLatch_cancelled .mapGroup (modGroup g movedGroup { s with vlc := { s.vlc with map := s.vlc.map.set g c } })
      have hexec := exec_answers h (i := i) (body := doMapGroup _ _) (u := moveGroup g c s) rfl hbody
        (.inr (.inr (by simpa [moveGroup, configured] using hc)))
      refine ⟨_, hexec, replies_answered .., (congrArg ValveControl.map honly.vlc :), (congrArg ValveControl.channels honly.vlc :),
        (congrArg ValveControl.groups honly.vlc :), (congrArg ValveControl.firing honly.vlc :), (congrArg ValveControl.settings honly.vlc :),
        honly.causes, hlatch.latch, fun hs => (hlatch.armed hs).1, fun hs => (hlatch.free hs).1, ?_⟩
      simp only [answered, moveGroup]
      rw [cancelLatch_eq]
      rfl
  · refine exec_turns_away h (body := doMapGroup x y) rfl ?_ nofun
    obtain hx | hy := hxy
    · rw [doMapGroup, readGroupByte_none hx]
      rfl
    · rw [doMapGroup, readChannelByte_none hy]
      cases readGroupByte x <;> rfl

end

end Sys2Proof.Machine

/-! The plant lines: raw levels, settling, level changes and the breaker close (R155 to R158, R160, R171, R172). -/

namespace Sys2Proof.Machine

open Safety

section
variable {s t : State}

/-! ## EXT_BLOCK (R158) -/

/-- R158: a set with PLANT as EXT_BLOCK says. -/
def withPlant (asserted : Bool) (x : CauseSet) : CauseSet := { x with plant := asserted }

theorem setPlantCause_eq (asserted : Bool) (s : State) : setPlantCause asserted s = changeEach (withPlant asserted) Branch.all s := rfl

theorem withPlant_true_ne_empty (x : CauseSet) : withPlant true x ≠ .empty := by
  rintro h
  simpa [withPlant, CauseSet.empty] using congrArg CauseSet.plant h

theorem blocks_withPlant {l : Bool} {b : Branch} : Blocks (withPlant l) s b ↔ s.oc.device = .run ∧ s.causes.get b = .empty ∧ l = true := by
  refine and_congr_right fun _ => and_congr_right fun hold => ?_
  cases l with
  | true => simp [withPlant_true_ne_empty]
  | false => simp [hold, withPlant, CauseSet.empty]

/-- R156: every debounced level at its raw level, before EXT_BLOCK is looked at. -/
def settleLevels (s : State) : State :=
  { s with
    clock := { s.clock with sinceReset := Config.stableMark }
    pli := { s.pli with
      settling := false
      inputs := s.pli.inputs.mapKey fun i r => { r with debounced := s.pins.raw.get i } } }

theorem endSettling_eq (h : s.pli.settling = true) : endSettling s =
    if s.pins.raw.get .extBlock = true then changeEach (withPlant true) Branch.all (settleLevels s) else settleLevels s := if_pos h

/-- Outside RUN the end of the settling leaves the levels and the sets changed, and nothing else. -/
theorem endSettling_outside (h : s.pli.settling = true) (hstate : s.oc.device ≠ .run) :
    endSettling s = { settleLevels s with causes := (endSettling s).causes } := by
  rw [endSettling_eq h]
  split
  · exact (changeEach_setsOnly (withPlant true) Branch.all (settleLevels s)).outside hstate
  · rfl

/-- Settles O47. -/
theorem rawLevelsAndSettling : Obligations.RawLevelsAndSettling := by
  unfold Obligations.RawLevelsAndSettling
  refine ⟨fun s i l => ?_, fun s hheld hsettling hstate => ?_⟩
  · by_cases h : s.pins.raw.get i = l <;> simp [exec, execRawLevelChange, moveRawLevel, h, modInput]
  · have hexec : exec .initialSettlingEnd s = .next (endSettling s) := by simp [exec, execInitialSettlingEnd, running_free _ s hheld]
    refine ⟨_, hexec, fun i => ?_, fun b => endSettling_causes hsettling b, ?_, ?_⟩ <;> rw [endSettling_outside hsettling hstate]
    · simp [settleLevels]
    · rfl
    · rfl

/-! ## Level changes (R155, R157) -/

/-- R155: an input's new level taken, counted and raised. -/
def takeLevel (i : PlantInput) (s : State) : State :=
  { s with
    pli := { s.pli with inputs := s.pli.inputs.set i ⟨s.pins.raw.get i, 8, count16 (s.pli.inputs.get i).changes⟩ }
    sli := { s.sli with events := s.sli.events.set .plantLineChanged ⟨true, bump 255 (s.sli.events.get .plantLineChanged).count⟩ } }

theorem changeLevel_acts {i : PlantInput} (hsettled : s.pli.settling = false) (hmoved : (s.pli.inputs.get i).debounced ≠ s.pins.raw.get i) :
    changeLevel i s = actOnLevel i (s.pins.raw.get i) (takeLevel i s) := by
  rw [changeLevel]
  simp only [raise_of_no_trigger .plantLineChanged _ rfl]
  exact if_pos ⟨hsettled, hmoved⟩

theorem exec_plantLineChanged (hheld : inReset s = false) (i : PlantInput) : exec (.plantLineChanged i) s = .next (changeLevel i s) := by
  simp [exec, execPlantLineChanged, running_free _ s hheld]

theorem exec_breakerClose (hheld : inReset s = false) (hsettled : s.pli.settling = false)
    (hopen : (s.pli.inputs.get .furnaceBreaker).debounced = false) (hraw : s.pins.raw.get .furnaceBreaker = true) :
    exec (.plantLineChanged .furnaceBreaker) s = .next (breakerClose (takeLevel .furnaceBreaker s)) := by
  rw [exec_plantLineChanged hheld, changeLevel_acts hsettled (by simp [hopen, hraw]), hraw]
  rfl

theorem breakerClose_unarmed (h : s.pli.latch = none) : breakerClose s = offerTrigger .breakerClose s := by
  simp [breakerClose, h]

theorem breakerClose_armed {v : PresetValues} (h : s.pli.latch = some v) : breakerClose s =
    if s.oc.device = .run then consumeLatch v (offerTrigger .breakerClose s)
    else cancelLatch .breakerClose (offerTrigger .breakerClose s) := by
  simp [breakerClose, h]

/-- R171, R172: a trigger offered, in each capture state. -/
theorem offerTrigger_eq (c : TriggerCause) (s : State) : offerTrigger c s =
    if s.hr.triggers.getLsbD (triggerNumber c) = false then s
    else if s.hr.capture ≠ .free then { s with hr := { s.hr with ignored := count16 s.hr.ignored } }
    else if s.hr.post ≠ 0 then { s with hr := { s.hr with
      capture := .triggered, trigger := some ⟨c, newestSeq s.hr, s.slr.frameIndex⟩, remaining := s.hr.post, ignored := 0 } }
    else { s with
      hr := { s.hr with
        capture := .frozen, suppressed := 0, trigger := some ⟨c, newestSeq s.hr, s.slr.frameIndex⟩
        remaining := s.hr.post, ignored := 0 }
      sli := { s.sli with events := s.sli.events.set .captureFrozen ⟨true, bump 255 (s.sli.events.get .captureFrozen).count⟩ } } := by
  cases hset : s.hr.triggers.getLsbD (triggerNumber c) with
  | false => rw [if_pos rfl, offerTrigger_off _ _ hset]
  | true =>
    rw [if_neg (by simp), offerTrigger, if_pos hset]
    by_cases hcapture : s.hr.capture = .free
    · rw [if_neg (by simp [hcapture])]
      by_cases hpost : s.hr.post = 0
      · rw [if_neg (by simp [hpost])]
        simp only [takeTrigger, hcapture, if_pos hpost]
        rfl
      · rw [if_pos hpost, takeTrigger_free _ _ hcapture hpost]
        rfl
    · rw [if_pos hcapture, takeTrigger_busy _ _ hcapture]

/-- Settles O48. -/
theorem levelChangeActs : Obligations.LevelChangeActs := by
  unfold Obligations.LevelChangeActs
  refine ⟨fun s i hheld => ?_, fun s hheld hsettled hlatch hopen hraw => ?_⟩
  · intro l took moved changed raised
    refine ⟨fun hstill => ?_, fun hsettled hmoved => ⟨fun hi hopens => ?_, fun hi => ?_⟩⟩
    · rw [exec_plantLineChanged hheld, changeLevel]
      refine congrArg _ (if_neg fun ⟨hs, hm⟩ => ?_)
      obtain hsettling | hsame := hstill
      · simp [hs] at hsettling
      · exact hm hsame
    · rw [exec_plantLineChanged hheld, changeLevel_acts hsettled hmoved]
      cases i with
      | extBlock => exact absurd rfl hi
      | furnaceBreaker =>
        rw [show s.pins.raw.get .furnaceBreaker = false from hopens rfl]
        rfl
      | _ => rfl
    · subst hi
      have hsets := changeEach_setsOnly (withPlant l) Branch.all (takeLevel .extBlock s)
      have hchanged (b : Branch) := changeAll_changed (withPlant l) b (takeLevel .extBlock s)
      have hexec : exec (.plantLineChanged .extBlock) s = .next (changeEach (withPlant l) Branch.all (takeLevel .extBlock s)) := by
        rw [exec_plantLineChanged hheld, changeLevel_acts hsettled hmoved]
        rfl
      refine ⟨_, hexec, hsets.pli, hsets.sli, fun b => (hchanged b).causes, hsets.device, fun hout => hsets.outside hout, fun hrun b => ?_⟩
      by_cases hblocks : Blocks (withPlant l) (takeLevel .extBlock s) b
      · obtain ⟨-, hempty, hl⟩ := blocks_withPlant.mp hblocks
        rw [if_pos ⟨(noCauses_iff _).mpr hempty, hl⟩, ((hchanged b).blocked hblocks).1]
        rfl
      · rw [if_neg (fun h => hblocks (blocks_withPlant.mpr ⟨hrun, (noCauses_iff _).mp h.1, h.2⟩)), (hchanged b).causes]
        split
        · next hleaves =>
          rw [(hchanged b).unblocked ⟨hrun, (noCauses_false_iff _).mp hleaves.1, (noCauses_iff _).mp hleaves.2⟩]
          rfl
        · next hstays =>
          rw [(hchanged b).stands hblocks fun hu => hstays ⟨(noCauses_false_iff _).mpr hu.2.1, (noCauses_iff _).mpr hu.2.2⟩]
          rfl
  · intro took changed frozen taken moved
    have hmoved : takeLevel .furnaceBreaker s = moved := by simp [takeLevel, hraw, moved, took, changed]
    rw [exec_breakerClose hheld hsettled hopen hraw, breakerClose_unarmed (s := takeLevel .furnaceBreaker s) hlatch, hmoved,
      offerTrigger_eq]
    rfl

/-! ## The breaker close with a latch armed (R83, R160) -/

/-- R160: the branches named at a close. -/
def namedBranches (s : State) : PerBranch Bool := ⟨namedForPreset s .ab, namedForPreset s .bc, namedForPreset s .ca⟩

@[simp] theorem namedBranches_get (b : Branch) : (namedBranches s).get b = namedForPreset s b := by cases b <;> rfl

theorem namedForPreset_iff {b : Branch} :
    namedForPreset s b = true ↔ (s.bdu.branches.get b).state ≠ .blocked ∧ forced s.slr b = false := by
  simp [namedForPreset]

theorem consumeLatch_pli (v : PresetValues) (s : State) : (consumeLatch v s).pli = { s.pli with
    latch := none, lastApplication := some ⟨s.slr.frameIndex, namedBranches s⟩, applications := count16 s.pli.applications } := by
  simp [consumeLatch, namedBranches]

/-- What a consumed latch leaves apart from the branches and its own items. -/
theorem consumeLatch_rest (v : PresetValues) (s : State) : (consumeLatch v s).vlc = s.vlc ∧ (consumeLatch v s).ct = s.ct ∧
    (consumeLatch v s).causes = s.causes ∧ (consumeLatch v s).oc.device = s.oc.device ∧ (consumeLatch v s).hr = s.hr ∧
    (consumeLatch v s).sli.events.get .presetApplied = ⟨true, bump 255 (s.sli.events.get .presetApplied).count⟩ := by
  simp [consumeLatch, raise_of_no_trigger .presetApplied _ rfl]

/-- A breaker close touches the history by its trigger alone. -/
theorem breakerClose_hr (s : State) : (breakerClose s).hr = (offerTrigger .breakerClose s).hr := by
  cases hlatch : s.pli.latch with
  | none => rw [breakerClose_unarmed hlatch]
  | some v =>
    rw [breakerClose_armed hlatch]
    split
    · exact (consumeLatch_rest ..).2.2.2.2.1
    · exact (cancelLatch_latchOnly ..).hr

/-- Settles O49. -/
theorem breakerCloseAppliesPreset : Obligations.BreakerCloseAppliesPreset := by
  unfold Obligations.BreakerCloseAppliesPreset
  refine ⟨fun s v hheld hsettled hlatch hopen hraw => ⟨fun hrun => ?_, fun hout => ?_⟩, fun s hheld hsettled hopen hraw => ?_⟩
  · have hexec := exec_breakerClose hheld hsettled hopen hraw
    rw [breakerClose_armed (s := takeLevel .furnaceBreaker s) hlatch, if_pos (show (takeLevel .furnaceBreaker s).oc.device = .run from hrun)] at hexec
    have hnamed (b : Branch) : namedForPreset (offerTrigger .breakerClose (takeLevel .furnaceBreaker s)) b = true ↔
        (s.bdu.branches.get b).state ≠ .blocked ∧ forced s.slr b = false := by
      simp [namedForPreset_iff, takeLevel]
    obtain ⟨hvlc, hct, hcauses, hdevice, -, hevent⟩ := consumeLatch_rest v (offerTrigger .breakerClose (takeLevel .furnaceBreaker s))
    refine ⟨_, hexec, by simp, by rw [consumeLatch_pli]; simp [takeLevel], by rw [consumeLatch_pli]; simp [takeLevel], fun b => ?_, ?_,
      hvlc.trans (by simp [takeLevel]), hct.trans (by simp [takeLevel]), hcauses.trans (by simp [takeLevel]),
      hdevice.trans (by simp [takeLevel, hrun])⟩
    · intro named
      refine ⟨fun h => ?_, fun h => ?_, ⟨_, by rw [consumeLatch_pli], by simp [takeLevel], by simpa using hnamed b⟩⟩
      · rw [consumeLatch_branch, if_pos ((hnamed b).mpr h)]
        simp [presetDemand, takeLevel]
      · rw [consumeLatch_branch, if_neg (mt (hnamed b).mp h)]
        simp [takeLevel]
    · rw [hevent, offerTrigger_events _ _ _ (by decide)]
      rfl
  · have hexec := exec_breakerClose hheld hsettled hopen hraw
    rw [breakerClose_armed (s := takeLevel .furnaceBreaker s) hlatch, if_neg (show (takeLevel .furnaceBreaker s).oc.device ≠ .run from hout)] at hexec
    have honly := cancelLatch_latchOnly .breakerClose (offerTrigger .breakerClose (takeLevel .furnaceBreaker s))
    obtain ⟨hlast, hcount, hevent⟩ := (cancelLatch_cancelled .breakerClose (offerTrigger .breakerClose (takeLevel .furnaceBreaker s))).armed
      (by simp [takeLevel, hlatch])
    refine ⟨_, hexec, cancelLatch_latch .., hlast, hcount.trans (by simp [takeLevel]), ?_, honly.bdu.trans (by simp [takeLevel]),
      honly.oc.trans (by simp [takeLevel])⟩
    rw [hevent, offerTrigger_events _ _ _ (by decide)]
    rfl
  · have hhr := (breakerClose_hr (takeLevel .furnaceBreaker s)).trans (congrArg State.hr (offerTrigger_eq .breakerClose _))
    refine ⟨_, exec_breakerClose hheld hsettled hopen hraw, fun hoff => ?_, fun hon hfree hpost => ?_, fun hon hbusy => ?_⟩ <;> rw [hhr]
    · rw [if_pos (by exact hoff)]
      rfl
    · rw [if_neg (by simpa [takeLevel, triggerNumber] using hon), if_neg (by simpa [takeLevel] using hfree), if_pos (by exact hpost)]
      rfl
    · rw [if_neg (by simpa [takeLevel, triggerNumber] using hon), if_pos (by exact hbusy)]
      rfl

end

end Sys2Proof.Machine

/-! The demand arithmetic and the moves at a closure (R73 to R89, R96). -/

namespace Sys2Proof.Machine

open Safety

section
variable {s t : State}

/-! ## Rounding and saturation (R75 to R77) -/

/-- Dividing with half the divisor added rounds to nearest, halves upward. -/
theorem rounded_div (n h : Nat) (hpos : 0 < h) :
    (n + h) / (2 * h) * (2 * h) ≤ n + h ∧ n + h < (n + h) / (2 * h) * (2 * h) + 2 * h :=
  ⟨Nat.div_mul_le_self .., by
    have := Nat.lt_div_mul_add (a := n + h) (b := 2 * h) (by omega)
    omega⟩

/-- R75: the rounded quotient lies within half a divisor, and a half goes away from zero. -/
theorem rounded_near (num : Int) (h : Nat) (hpos : 0 < h) (q : Int)
    (hq : q = if num < 0 then -(((num.natAbs + h) / (2 * h) : Nat) : Int) else ((num.natAbs + h) / (2 * h) : Nat)) :
    2 * |num - q * (2 * h : Nat)| ≤ (2 * h : Nat) ∧
      (2 * |num - q * (2 * h : Nat)| = (2 * h : Nat) → |num| ≤ |q * (2 * h : Nat)|) := by
  obtain ⟨hlow, hhigh⟩ := rounded_div num.natAbs h hpos
  generalize hk : (num.natAbs + h) / (2 * h) = k at *
  obtain ⟨m, hm⟩ : ∃ m : Nat, m = k * (2 * h) := ⟨_, rfl⟩
  have hprod : q * (2 * h : Nat) = if num < 0 then -(m : Int) else m := by
    rw [hq, hm]
    split <;> push_cast <;> ring
  rw [hprod]
  rw [← hm] at hlow hhigh
  simp only [Int.abs_eq_natAbs]
  split <;> omega

theorem clampInt_eq (lo hi x : Int) (h : lo ≤ hi) : clampInt lo hi x = max lo (min hi x) := by
  unfold clampInt
  split_ifs <;> omega

theorem saturate_cast (x : Int) : (saturate x : Int) = max 0 (min 4095 x) := by
  rw [saturate, clampInt_eq _ _ _ (by decide)]
  omega

/-- Settles O51. -/
theorem demandRoundsToNearest : Obligations.DemandRoundsToNearest := by
  unfold Obligations.DemandRoundsToNearest
  refine ⟨fun gain w henergy => ?_, fun s b kind w => ?_, fun s b d => ?_⟩
  · intro num den
    have hden : den = (2 * (w.energy * 128) : Nat) := by simp only [den]; push_cast; ring
    have hsize : w.energy * 256 = 2 * (w.energy * 128) := by ring
    have hhalf : 2 * (w.energy * 128) / 2 = w.energy * 128 := by omega
    obtain ⟨hnear, haway⟩ := rounded_near num (w.energy * 128) (by omega) _ rfl
    rw [hden]
    refine ⟨_, hnear, haway, ?_⟩
    simp only [demandOf, hsize, hhalf]
    rfl
  · intro n k1 k2 k3 k4 k5 k6 k7 k8 k9
    have hn : nominalFrames (nominalOf s) = n := by
      simp only [n, nominalOf]
      rcases s.ct.nominal with _ | _ | _ <;> rfl
    have hn12 : 12 ≤ n := by
      simp only [n]
      split <;> decide
    have h2 : forced s.slr b = true ↔ k2 := by simp [forced, branchDiverged, k2, or_assoc]
    have h6 : w.frames < n - 12 ∨ n + 12 < w.frames ↔ k6 := or_congr_left (by omega)
    have h9 : w.energy = 0 ∨ (meanSquare w).getD 0 < (s.bdu.branches.get b).settings.floor ↔ k9 := by
      have hmean : (meanSquare w).getD 0 = w.energy / w.frames := by
        by_cases hframes : w.frames = 0 <;> simp [meanSquare, hframes]
      rw [hmean]
    unfold judge
    simp only [hn, h2, h6, h9]
    rfl
  · intro share filters
    rw [saturate_cast]
    have hfilters : filterSusceptance s b = filters := by
      simp [filterSusceptance, filters, Bank.all, share, Nat.add_assoc]
    rw [rawTarget, hfilters]

/-! ## The moves at a closure (R79 to R86) -/

/-- R81: a move into FALLBACK. -/
theorem moveToFallback_falls {m : Move} {set : BranchSettings} (h : m = moveToFallback set) :
    m.state = .fallback ∧ m.susceptance = set.fallback ∧ m.heldClosures = 0 ∧ m.validClosures = 0 ∧ m.preset = none ∧
      m.entersFallback = true := by
  subst h
  exact ⟨rfl, rfl, rfl, rfl, rfl, rfl⟩

/-- R79: a move into TRACK. -/
theorem moveToTrack_limited {m : Move} {set : BranchSettings} {from_ target : Nat} (h : m = moveToTrack set from_ target) :
    m.state = .track ∧ m.susceptance = max (from_ - set.step) (min (from_ + set.step) target) ∧ m.heldClosures = 0 ∧
      m.validClosures = 0 ∧ m.preset = none ∧ m.entersFallback = false ∧ m.takesTarget = true := by
  subst h
  exact ⟨rfl, rfl, rfl, rfl, rfl, rfl, rfl⟩

/-- R80, R81: a move into HOLD, or into FALLBACK at the hold limit. -/
theorem moveToHold_holds {m : Move} {set : BranchSettings} {n x : Nat} (h : m = moveToHold set n x) :
    (n < set.holdLimit → m.state = .hold ∧ m.susceptance = x ∧ m.heldClosures = n ∧ m.entersFallback = false ∧ m.preset = none) ∧
      (set.holdLimit ≤ n → m.state = .fallback ∧ m.susceptance = set.fallback ∧ m.heldClosures = 0 ∧ m.validClosures = 0 ∧
        m.preset = none ∧ m.entersFallback = true) := by
  subst h
  refine ⟨fun hbelow => ?_, fun hlimit => ?_⟩
  · simp [moveToHold, Nat.not_le.mpr hbelow]
  · exact moveToFallback_falls (if_pos hlimit)

section
variable {d : BranchDemand} {code : ValidityCode} {target p : Nat}

theorem nextMove_valid (hstate : d.state = .track ∨ d.state = .hold) (hprevious : d.previous = some p) :
    nextMove d .valid target = moveToTrack d.settings p target := by
  unfold nextMove
  obtain h | h := hstate <;> rw [h, hprevious] <;> rfl

theorem nextMove_forced (hstate : d.state = .track ∨ d.state = .hold ∨ d.state = .preset) :
    nextMove d .measForced target = moveToFallback d.settings := by
  unfold nextMove
  obtain h | h | h := hstate <;> rw [h]

theorem nextMove_track (hstate : d.state = .track) (hprevious : d.previous = some p) (hv : code ≠ .valid) (hf : code ≠ .measForced) :
    nextMove d code target = moveToHold d.settings 1 p := by
  unfold nextMove
  rw [hstate, hprevious]
  cases code with
  | valid => exact absurd rfl hv
  | measForced => exact absurd rfl hf
  | _ => rfl

theorem nextMove_hold (hstate : d.state = .hold) (hprevious : d.previous = some p) (hv : code ≠ .valid) (hf : code ≠ .measForced) :
    nextMove d code target = moveToHold d.settings (d.heldClosures + 1) p := by
  unfold nextMove
  rw [hstate, hprevious]
  cases code with
  | valid => exact absurd rfl hv
  | measForced => exact absurd rfl hf
  | _ => rfl

theorem nextMove_fallback_stays (hstate : d.state = .fallback) (h : code ≠ .valid ∨ d.validClosures = 0) : nextMove d code target =
    ⟨.fallback, d.heldClosures, if code = .valid then 1 else 0, none, d.settings.fallback, false, false⟩ := by
  unfold nextMove
  rw [hstate]
  cases code with
  | valid => exact if_pos (h.resolve_left (absurd rfl))
  | _ => rfl

theorem nextMove_fallback_leaves (hstate : d.state = .fallback) (h : d.validClosures ≠ 0) :
    nextMove d .valid target = moveToTrack d.settings d.settings.fallback target := by
  unfold nextMove
  rw [hstate]
  exact if_neg h

theorem nextMove_preset_runs {x : PresetRun} (hstate : d.state = .preset) (hpreset : d.preset = some x) (hf : code ≠ .measForced)
    (hleft : x.remaining ≠ 0) : nextMove d code target =
      ⟨.preset, d.heldClosures, d.validClosures, some ⟨x.remaining - 1, x.value⟩, x.value, false, false⟩ := by
  unfold nextMove
  rw [hstate, hpreset]
  cases code with
  | measForced => exact absurd rfl hf
  | _ => exact if_neg hleft

theorem nextMove_preset_tracks {x : PresetRun} (hstate : d.state = .preset) (hpreset : d.preset = some x) (hdone : x.remaining = 0) :
    nextMove d .valid target = moveToTrack d.settings x.value target := by
  unfold nextMove
  rw [hstate, hpreset]
  exact if_pos hdone

theorem nextMove_preset_holds {x : PresetRun} (hstate : d.state = .preset) (hpreset : d.preset = some x) (hv : code ≠ .valid)
    (hf : code ≠ .measForced) (hdone : x.remaining = 0) : nextMove d code target = moveToHold d.settings 1 x.value := by
  unfold nextMove
  rw [hstate, hpreset]
  cases code with
  | valid => exact absurd rfl hv
  | measForced => exact absurd rfl hf
  | _ => exact if_pos hdone

/-- A move enters TRACK only with its step limited from the susceptance held. -/
theorem nextMove_stays_tracking (hstate : d.state = .track) (hprevious : d.previous = some p) (h : (nextMove d code target).state = .track) :
    nextMove d code target = moveToTrack d.settings p target := by
  by_cases hv : code = .valid
  · subst hv
    exact nextMove_valid (.inl hstate) hprevious
  · by_cases hf : code = .measForced
    · rw [hf, nextMove_forced (.inl hstate)] at h
      nomatch h
    · rw [nextMove_track hstate hprevious hv hf] at h
      obtain e | e := moveToHold_state d.settings 1 p <;> rw [e] at h <;> nomatch h

end

/-- R77, R96: an absent sum lies outside no limit. -/
theorem any_above_iff (o : Option Int) : (o.any fun x => decide (4095 < x)) = true ↔ 4095 < o.getD 0 := by cases o <;> simp

theorem any_below_iff (o : Option Int) : (o.any fun x => decide (x < 0)) = true ↔ o.getD 0 < 0 := by cases o <;> simp

/-- Settles O52. -/
theorem branchMovesAtClosure : Obligations.BranchMovesAtClosure := by
  unfold Obligations.BranchMovesAtClosure
  refine ⟨fun d code target => ?_, fun s b kind p hstate hprevious htrack => ?_, fun s b kind => ?_⟩
  · intro set m falls limited holds
    refine ⟨fun p hp => ⟨fun hs hv => ?_, fun hs hv hf => ?_, fun hs hv hf => ?_⟩, fun hs hf => ?_, fun hs hc => ?_, fun hs hv hc => ?_,
      fun x hx hs hf => ⟨fun hleft => ?_, fun hdone => ⟨fun hv => ?_, fun hv => ?_⟩⟩, fun hs => ?_⟩
    · subst hv
      exact moveToTrack_limited (nextMove_valid hs hp)
    · exact moveToHold_holds (nextMove_track hs hp hv hf)
    · exact moveToHold_holds (nextMove_hold hs hp hv hf)
    · subst hf
      exact moveToFallback_falls (nextMove_forced hs)
    · have hm : m = _ := nextMove_fallback_stays hs hc
      rw [hm]
      exact ⟨rfl, rfl, rfl, rfl⟩
    · subst hv
      exact moveToTrack_limited (nextMove_fallback_leaves hs hc)
    · have hm : m = _ := nextMove_preset_runs hs hx hf hleft
      rw [hm]
      exact ⟨rfl, rfl, rfl, rfl⟩
    · subst hv
      exact moveToTrack_limited (nextMove_preset_tracks hs hx hdone)
    · exact moveToHold_holds (nextMove_preset_holds hs hx hv hf hdone)
    · have hm : m = _ := nextMove_of_blocked hs code target
      rw [hm]
      exact ⟨rfl, rfl, rfl, rfl, rfl⟩
  · have hmove : closureMove s b kind = moveToTrack (s.bdu.branches.get b).settings p _ := nextMove_stays_tracking hstate hprevious htrack
    refine ⟨_, rfl, ?_, ?_, ?_⟩
    · simp [closedDemand, hmove, moveToTrack, decisionOf]
    · simp only [hmove, decisionOf, moveToTrack, limitStep]
      omega
    · simp only [hmove, decisionOf, moveToTrack, limitStep]
      omega
  · intro d e m code raw high low
    refine ⟨rfl, rfl, rfl, fun hs => ⟨?_, ?_, ?_⟩, fun hm => ⟨?_, ?_⟩, rfl, fun c => ?_, ?_, ?_, rfl⟩
    · exact (closedDemand_blocked_iff b kind).mpr hs
    · exact (closedDemand_decision b kind).trans (congrArg some (decisionOf_of_blocked kind hs))
    · exact if_pos ((closedDemand_blocked_iff b kind).mpr hs)
    · exact (closedDemand_decision b kind).trans (congrArg some (by simp only [decisionOf, m] at hm ⊢; rw [if_neg hm]))
    · exact if_neg hm
    · rw [show e.counters.codes = d.counters.codes.set code (count32 (d.counters.codes.get code)) from rfl, PerCode.get_set]
      split
      · next hc => rw [hc]
      · rfl
    · exact if_congr (by rw [Bool.and_eq_true, any_above_iff]; rfl) rfl rfl
    · exact if_congr (by rw [Bool.and_eq_true, any_below_iff]; rfl) rfl rfl

end

end Sys2Proof.Machine

/-! Header words, check frames and the gap marks of the sample link (R21, R26, R32 to R37, R198). -/

namespace Sys2Proof.Machine

open Safety

section
variable {s t : State}

/-! ## Header words (R21, R198) -/

/-- An exclusive or over a list is the parity of its ones. -/
theorem foldl_xor_eq (f : Nat → Bool) (l : List Nat) (a : Bool) :
    l.foldl (fun acc i => acc ^^ f i) a = decide ((a.toNat + (l.map fun i => (f i).toNat).sum) % 2 = 1) := by
  induction l generalizing a with
  | nil => cases a <;> rfl
  | cons i l ih =>
    rw [List.foldl_cons, ih, List.map_cons, List.sum_cons, ← Nat.add_assoc]
    congr 2
    rw [Nat.add_mod, Nat.add_mod (a.toNat + (f i).toNat)]
    cases a <;> cases f i <;> simp

theorem parityGood_iff (d : Half) (p : Bool) :
    parityGood ⟨d, p⟩ = true ↔ (((List.range 16).map fun i => (d.getLsbD i).toNat).sum + p.toNat) % 2 = 1 := by
  rw [parityGood, foldl_xor_eq, decide_eq_true_iff, Nat.add_comm]

theorem field_eq_iff {w : Nat} (d : BitVec w) (at_ n : Nat) (x : BitVec n) :
    d.extractLsb' at_ n = x ↔ d.toNat / 2 ^ at_ % 2 ^ n = x.toNat := by
  rw [BitVec.toNat_eq, BitVec.extractLsb'_toNat, Nat.shiftRight_eq_div_pow]

/-- What a header word says, by its fields. -/
theorem readHeader_eq (d : Half) (p : Bool) : readHeader ⟨d, p⟩ =
    if parityGood ⟨d, p⟩ = true ∧ d.toNat / 256 % 16 = 0 then
      if d.toNat / 4096 = 9 then .data (BitVec.ofNat 8 (d.toNat % 256))
      else if d.toNat / 4096 = 6 ∧ d.toNat / 32 % 8 = 0 then .check (BitVec.ofNat 5 (d.toNat % 32))
      else .error
    else .error := by
  have htop : d.toNat / 4096 % 16 = d.toNat / 4096 := Nat.mod_eq_of_lt (by have := d.isLt; omega)
  have hzero : d.extractLsb' 8 4 = 0#4 ↔ d.toNat / 256 % 16 = 0 := field_eq_iff d 8 4 0#4
  have hnine : d.extractLsb' 12 4 = 9#4 ↔ d.toNat / 4096 % 16 = 9 := field_eq_iff d 12 4 9#4
  have hsix : d.extractLsb' 12 4 = 6#4 ↔ d.toNat / 4096 % 16 = 6 := field_eq_iff d 12 4 6#4
  have hspare : d.extractLsb' 5 3 = 0#3 ↔ d.toNat / 32 % 8 = 0 := field_eq_iff d 5 3 0#3
  have hdata : d.extractLsb' 0 8 = BitVec.ofNat 8 (d.toNat % 256) := by
    rw [field_eq_iff]
    simp
  have hindex : d.extractLsb' 0 5 = BitVec.ofNat 5 (d.toNat % 32) := by
    rw [field_eq_iff]
    simp
  rw [htop] at hnine hsix
  simp only [readHeader, ne_eq, hzero, hnine, hsix, hspare, hdata, hindex]
  cases parityGood ⟨d, p⟩ with
  | false => simp
  | true => by_cases h : d.toNat / 256 % 16 = 0 <;> simp [h, ite_and]

section
variable {header : LinkWord} {words : PerQuantity (PerLink LinkWord)}

theorem takeLinkFrame_error (h : readHeader header = .error) :
    takeLinkFrame header words s = modLinkCounters (fun c => { c with headerErrors := count32 c.headerErrors }) s := by
  unfold takeLinkFrame
  rw [h]

theorem takeLinkFrame_data {seq : Byte} (h : readHeader header = .data seq) : takeLinkFrame header words s = takeData seq words s := by
  unfold takeLinkFrame
  rw [h]

theorem takeLinkFrame_check {i : BitVec 5} (h : readHeader header = .check i) : takeLinkFrame header words s = takeCheck i words s := by
  unfold takeLinkFrame
  rw [h]

/-- A frame of the sample link comes to what its header word says, by whichever row it came. -/
theorem exec_linkFrame (hheld : inReset s = false) :
    exec (.dataFrame header words) s = .next (takeLinkFrame header words s) ∧
      exec (.checkFrame header words) s = .next (takeLinkFrame header words s) :=
  ⟨congrArg Host.Outcome.next (running_free _ s hheld), congrArg Host.Outcome.next (running_free _ s hheld)⟩

/-- R22 to R26: a data frame while the link flows, by how far it is ahead of the one expected. -/
theorem takeData_flowing {seq e : Byte} (hlink : s.slr.link = .flowing ∨ s.slr.link = .late) (hexpected : s.slr.expected = some e) :
    takeData seq words s =
      if (seq - e).toNat ≤ 3 then deliverReceived seq words (deliverPatches (seq - e).toNat e s)
      else if (seq - e).toNat ≤ 127 then resync seq words s
      else modLinkCounters (fun c => { c with discarded := count32 c.discarded }) s := by
  unfold takeData
  obtain h | h := hlink <;> simp only [h, hexpected, Option.getD_some]

end

/-- Settles O29. -/
theorem discardedFramesAreCounted : Obligations.DiscardedFramesAreCounted := by
  unfold Obligations.DiscardedFramesAreCounted
  refine ⟨?_, ?_, ?_⟩
  · intro s h w hheld herror t
    rw [(exec_linkFrame hheld).1, (exec_linkFrame hheld).2, takeLinkFrame_error herror]
    exact ⟨rfl, rfl⟩
  · intro d p ones kind
    have hgood : parityGood ⟨d, p⟩ = true ↔ ones % 2 = 1 := parityGood_iff d p
    clear_value ones
    simp only [readHeader_eq, hgood]
    refine ⟨?_, fun hodd hspare => ⟨fun hkind => ?_, fun hkind hindex => ?_⟩⟩
    · split_ifs with hfields hnine hsix <;> simp only [true_iff, false_iff] <;> omega
    · rw [if_pos ⟨hodd, hspare⟩, if_pos hkind]
    · rw [if_pos ⟨hodd, hspare⟩, if_neg (by omega), if_pos ⟨hkind, hindex⟩]
  · intro s h w seq e hheld hheader hlink hexpected hold
    rw [(exec_linkFrame hheld).1, takeLinkFrame_data hheader, takeData_flowing hlink hexpected, if_neg (by omega), if_neg (by omega)]
    rfl

/-! ## The gap marks (R36, R37) -/

theorem gapBelow_iff (mark : Nat) : gapBelow s mark = true ↔ s.slr.gapRunning = true ∧ s.slr.gap < mark := by simp [gapBelow]

theorem reachLate_passed (h : 3 ≤ s.slr.gap) : reachLate s = s :=
  if_neg fun hbelow => Nat.not_lt.mpr h ((gapBelow_iff _).mp hbelow).2

theorem reachGapMark_passed (h : 12 ≤ s.slr.gap) : reachGapMark s = s :=
  if_neg fun hbelow => Nat.not_lt.mpr h ((gapBelow_iff _).mp hbelow).2

theorem reachLate_reaches (hrunning : s.slr.gapRunning = true) (hgap : s.slr.gap < 3) : reachLate s = markLate (setGap 3 s) :=
  if_pos ((gapBelow_iff _).mpr ⟨hrunning, hgap⟩)

theorem reachGapMark_reaches (hrunning : s.slr.gapRunning = true) (hlate : 3 ≤ s.slr.gap) (hgap : s.slr.gap < 12) :
    reachGapMark s = markGap (setGap 12 s) := by
  refine (if_pos ((gapBelow_iff _).mpr ⟨hrunning, hgap⟩)).trans ?_
  rw [reachLate_passed hlate]
  rfl

theorem reachLost_reaches (hrunning : s.slr.gapRunning = true) (hmarked : 12 ≤ s.slr.gap) (hgap : s.slr.gap < 48) :
    reachLost s = markLost (setGap 48 s) := by
  refine (if_pos ((gapBelow_iff _).mpr ⟨hrunning, hgap⟩)).trans ?_
  rw [reachGapMark_passed hmarked]
  rfl

theorem markMeasGap_eq (x : Window) :
    markMeasGap x = { x with gapMark := if x.gapMark = some .resync then some .resync else some .measGap } := by
  rcases h : x.gapMark with _ | _ | _ <;> simp [markMeasGap, h]

/-- Every branch's window is marked, and nothing else. -/
theorem markWindows_eq (f : Window → Window) (s : State) : markWindows f s = { s with bdu := { s.bdu with
    branches := s.bdu.branches.mapKey fun _ d => { d with window := d.window.map f } } } := rfl

/-- The state at the third mark, before its event is raised. -/
def lostLink (s : State) : State :=
  flushLines (modLink (fun l => { l with link := .lost, counters := { l.counters with losses := count32 l.counters.losses } })
    (setGap 48 s))

/-- Settles O34. -/
theorem gapMarks : Obligations.GapMarks := by
  unfold Obligations.GapMarks
  intro s hheld hrunning
  refine ⟨fun hgap hlink => ?_, fun hlate hgap => ?_, fun hmarked hgap hlink => ?_⟩
  · have hexec : exec .linkLate s = .next (reachLate s) := congrArg Host.Outcome.next (running_free _ s hheld)
    rw [hexec, reachLate_reaches hrunning hgap, markLate, if_pos (show (setGap 3 s).slr.link = .flowing from hlink),
      raise_of_no_trigger .linkLate _ rfl]
    rfl
  · have hexec : exec .measGap s = .next (reachGapMark s) := congrArg Host.Outcome.next (running_free _ s hheld)
    rw [reachGapMark_reaches hrunning hlate hgap, markGap, markWindows_eq] at hexec
    refine ⟨_, hexec, rfl, fun b => ?_⟩
    simp only [PerBranch.get_mapKey, setGap, modLink, funext markMeasGap_eq]
  · have hexec : exec .linkLost s = .next (reachLost s) := congrArg Host.Outcome.next (running_free _ s hheld)
    have hmark : markLost (setGap 48 s) = raise .linkLost (lostLink s) := if_pos hlink
    have hhr : (raise .linkLost (lostLink s)).hr = (offerTrigger .linkLost (noteEvent .linkLost (lostLink s))).hr := rfl
    rw [reachLost_reaches hrunning hmarked hgap, hmark] at hexec
    refine ⟨_, hexec, by simp [lostLink, setGap, modLink], by simp [lostLink, setGap, modLink, flushLines], by simp [lostLink, modLink,
        measurementCondition], ?_,
      fun hoff => ?_, fun hon hfree hpost => ?_, ?_⟩
    · rw [raise_events_self _ _ (by decide)]
      rfl
    · rw [hhr, offerTrigger_eq, if_pos (by exact hoff)]
      rfl
    · rw [hhr, offerTrigger_eq, if_neg (by simpa [lostLink, setGap, modLink, triggerNumber] using hon),
        if_neg (by simpa [lostLink, setGap, modLink] using hfree),
            if_pos (show (noteEvent .linkLost (lostLink s)).hr.post ≠ 0 from Nat.one_le_iff_ne_zero.mp hpost)]
      exact ⟨rfl, rfl, rfl⟩
    · rw [raise_eq]
      rfl

end

end Sys2Proof.Machine

/-! Check frames (R32, R33, R35). -/

namespace Sys2Proof.Machine

open Safety

section
variable {s t : State} {words : PerQuantity (PerLink LinkWord)} {c : LinkChannel}

/-! ## One channel judged (R33) -/

/-- R33: the verified block fails a channel that is not FAILED. -/
def failsBlock (words : PerQuantity (PerLink LinkWord)) (c : LinkChannel) (s : State) : Bool :=
  (s.slr.chains.get c).status != .failed && !passesBlock s.slr words c

/-- R33: the failed block makes the channel FAILED. -/
def diesAtBlock (words : PerQuantity (PerLink LinkWord)) (c : LinkChannel) (s : State) : Bool :=
  failsBlock words c s && decide (4 ≤ (s.slr.chains.get c).failedRun + 1)

/-- R33: a channel's state after a verified block. -/
def judgedChain (words : PerQuantity (PerLink LinkWord)) (c : LinkChannel) (s : State) : ChainState :=
  let x := s.slr.chains.get c
  if x.status = .failed then x else if passesBlock s.slr words c then ⟨.good, 0⟩ else ⟨statusOf (x.failedRun + 1), x.failedRun + 1⟩

/-- R33: what a verified block leaves of one channel's judgement. -/
structure Judged (words : PerQuantity (PerLink LinkWord)) (c : LinkChannel) (s t : State) : Prop where
  rest : t = { s with slr := t.slr, sli := t.sli }
  slr : t.slr = { s.slr with chains := s.slr.chains.set c (judgedChain words c s), counters := t.slr.counters }
  counters : t.slr.counters = { s.slr.counters with
    failedBlocks :=
      if failsBlock words c s then s.slr.counters.failedBlocks.set c (count32 (s.slr.counters.failedBlocks.get c))
      else s.slr.counters.failedBlocks
    channelFailures := if diesAtBlock words c s then count32 s.slr.counters.channelFailures else s.slr.counters.channelFailures }
  errors : t.sli.events.get .blockCheckError =
    if failsBlock words c s then ⟨true, bump 255 (s.sli.events.get .blockCheckError).count⟩ else s.sli.events.get .blockCheckError
  failures : t.sli.events.get .channelFailed =
    if diesAtBlock words c s then ⟨true, bump 255 (s.sli.events.get .channelFailed).count⟩ else s.sli.events.get .channelFailed
  others : OtherEventsKept [.blockCheckError, .channelFailed] s t

theorem PerLink.set_get {α : Type} (t : PerLink α) (c : LinkChannel) : t.set c (t.get c) = t := by cases c <;> rfl

theorem judgeChannel_judged (words : PerQuantity (PerLink LinkWord)) (c : LinkChannel) (s : State) :
    Judged words c s (judgeChannel words c s) := by
  unfold judgeChannel
  simp only [raise_of_no_trigger .blockCheckError _ rfl, raise_of_no_trigger .channelFailed _ rfl]
  by_cases hfailed : (s.slr.chains.get c).status = .failed
  · have hf : failsBlock words c s = false := by simp [failsBlock, hfailed]
    have hd : diesAtBlock words c s = false := by simp [diesAtBlock, hf]
    rw [if_pos hfailed]
    refine ⟨rfl, ?_, by simp [hf, hd], by simp [hf], by simp [hd], fun _ _ => rfl⟩
    simp [judgedChain, hfailed, PerLink.set_get]
  · by_cases hpass : passesBlock s.slr words c = true
    · have hf : failsBlock words c s = false := by simp [failsBlock, hpass]
      have hd : diesAtBlock words c s = false := by simp [diesAtBlock, hf]
      rw [if_neg hfailed, if_pos hpass]
      refine ⟨rfl, ?_, by simp [hf, hd, modLink], by simp [hf, modLink], by simp [hd, modLink], fun _ _ => rfl⟩
      simp [judgedChain, hfailed, hpass, modLink]
    · have hf : failsBlock words c s = true := by simp [failsBlock, hpass, hfailed]
      have hjudged : judgedChain words c s = ⟨statusOf ((s.slr.chains.get c).failedRun + 1), (s.slr.chains.get c).failedRun + 1⟩ := by
        simp [judgedChain, hfailed, hpass]
      rw [if_neg hfailed, if_neg hpass]
      by_cases hlimit : 4 ≤ (s.slr.chains.get c).failedRun + 1
      · have hd : diesAtBlock words c s = true := by simp only [diesAtBlock, hf, Bool.true_and, decide_eq_true_eq, hlimit]
        rw [if_pos (by exact hlimit)]
        refine ⟨rfl, ?_, ?_, ?_, ?_, fun k hk => ?_⟩
        · rw [hjudged]
          rfl
        · simp [hf, hd, modLink, modLinkCounters]
        · rw [if_pos hf, noteEvent_events_ne _ _ _ (by decide)]
          simp [modLink]
        · rw [if_pos hd]
          simp [PerEvent.get_set, modLink]
        · simp only [List.mem_cons, not_or] at hk
          simp [PerEvent.get_set, hk.1, hk.2.1, modLink]
      · have hd : diesAtBlock words c s = false := by simp only [diesAtBlock, hf, Bool.true_and, decide_eq_false_iff_not, hlimit, not_false_eq_true]
        rw [if_neg (by exact hlimit)]
        refine ⟨rfl, ?_, ?_, ?_, ?_, fun k hk => ?_⟩
        · rw [hjudged]
          rfl
        · simp [hf, hd, modLink]
        · simp [hf, modLink]
        · simp [hd, PerEvent.get_set, modLink]
        · simp only [List.mem_cons, not_or] at hk
          simp [PerEvent.get_set, hk.1, modLink]

/-! ## The switch of the primary (R35) -/

/-- R35: what the switch leaves, made or not. -/
structure Switched (s t : State) : Prop where
  rest : t = { s with slr := { s.slr with primary := t.slr.primary, counters := t.slr.counters }, sli := t.sli }
  primary : t.slr.primary =
    if (s.slr.chains.get s.slr.primary).status = .failed ∧ (s.slr.chains.get s.slr.primary.other).status ≠ .failed then s.slr.primary.other
    else s.slr.primary
  counters : t.slr.counters = { s.slr.counters with primarySwitches := t.slr.counters.primarySwitches }
  made : t.slr.primary ≠ s.slr.primary → t.slr.counters.primarySwitches = count32 s.slr.counters.primarySwitches ∧
    t.sli.events.get .primarySwitched = ⟨true, bump 255 (s.sli.events.get .primarySwitched).count⟩
  kept : t.slr.primary = s.slr.primary → t.slr.counters.primarySwitches = s.slr.counters.primarySwitches ∧
    t.sli.events.get .primarySwitched = s.sli.events.get .primarySwitched
  others : OtherEventsKept [.primarySwitched] s t

theorem other_ne (c : LinkChannel) : c.other ≠ c := by cases c <;> decide

theorem switchPrimary_switched (s : State) : Switched s (switchPrimary s) := by
  unfold switchPrimary
  simp only [raise_of_no_trigger .primarySwitched _ rfl]
  by_cases h : (s.slr.chains.get s.slr.primary).status = .failed ∧ (s.slr.chains.get s.slr.primary.other).status ≠ .failed
  · rw [if_pos h]
    refine ⟨rfl, by rw [if_pos h]; rfl, rfl, fun _ => ⟨rfl, by simp [modLink]⟩, fun hsame => absurd hsame (other_ne _), fun k hk => ?_⟩
    rw [noteEvent_events_ne _ _ _ (by simpa using hk)]
    rfl
  · rw [if_neg h]
    exact ⟨rfl, by rw [if_neg h], rfl, fun hne => absurd rfl hne, fun _ => ⟨rfl, rfl⟩, fun _ _ => rfl⟩

/-! ## The whole check frame (R32) -/

theorem mem_allQuantities (q : Quantity) : q ∈ Quantity.all := by cases q <;> decide

theorem discardsCheck_iff {i : BitVec 5} : discardsCheck s.slr i words = true ↔
    s.slr.block.index ≠ some i ∨ s.slr.block.judged = true ∨ ∃ q c, parityGood ((words.get q).get c) = false := by
  have hwords : (Quantity.all.all fun q => parityGood ((words.get q).get .a) && parityGood ((words.get q).get .b)) = false ↔
      ∃ q c, parityGood ((words.get q).get c) = false := by
    rw [List.all_eq_false]
    constructor
    · rintro ⟨q, -, hq⟩
      rw [Bool.and_eq_true, not_and_or, Bool.not_eq_true, Bool.not_eq_true] at hq
      exact hq.elim (⟨q, .a, ·⟩) (⟨q, .b, ·⟩)
    · rintro ⟨q, c, hq⟩
      refine ⟨q, mem_allQuantities q, ?_⟩
      cases c <;> simp [hq]
  simp only [discardsCheck, Bool.or_eq_true, bne_iff_ne, Bool.not_eq_true', hwords, or_assoc]

/-- The state in which the channels are judged: the block judged and counted as verified. -/
def verifiedBlock (s : State) : State :=
  modLinkCounters (fun c => { c with verified := count32 c.verified }) (modLink (fun l => { l with block := { l.block with judged := true } }) s)

/-- R32: a check frame by what it finds. -/
theorem takeCheck_judges {i : BitVec 5} (hjudges : ¬ discardsCheck s.slr i words = true) (hfull : s.slr.block.received = 8) :
    takeCheck i words s = switchPrimary (judgeChannel words .b (judgeChannel words .a (verifiedBlock s))) := by
  unfold takeCheck
  rw [if_neg hjudges]
  exact if_pos hfull

/-- R33: under the agreement of the statuses with their counts, a channel's judgement by its count. -/
theorem judgedChain_eq (hagree : ChainsAgree s) (words : PerQuantity (PerLink LinkWord)) (c : LinkChannel) : judgedChain words c s =
    if (s.slr.chains.get c).failedRun = 4 then s.slr.chains.get c
    else if ∀ q ∈ Quantity.all, (s.slr.block.sums.get q).get c = ((words.get q).get c).data then ⟨.good, 0⟩
    else ⟨if (s.slr.chains.get c).failedRun = 3 then .failed else .suspect, (s.slr.chains.get c).failedRun + 1⟩ := by
  obtain ⟨hstatus, hbound⟩ := hagree c
  have hfailed : (s.slr.chains.get c).status = .failed ↔ (s.slr.chains.get c).failedRun = 4 := by
    rw [hstatus, statusOf]
    split_ifs with h0 h4 <;> simp [Config.failedBlocksLimit] at * <;> omega
  have hpass : passesBlock s.slr words c = true ↔ ∀ q ∈ Quantity.all, (s.slr.block.sums.get q).get c = ((words.get q).get c).data := by
    simp [passesBlock, List.all_eq_true]
  have hnext (n : Nat) (hn : n ≤ 4) (hn4 : n ≠ 4) : statusOf (n + 1) = if n = 3 then .failed else .suspect := by
    interval_cases n <;> simp_all [statusOf, Config.failedBlocksLimit]
  simp only [judgedChain, hfailed, hpass]
  split_ifs with h4 hp h3
  · rfl
  · rfl
  · rw [hnext _ hbound h4, if_pos h3]
  · rw [hnext _ hbound h4, if_neg h3]

/-- The judgement of one channel does not reach the other's. -/
theorem Judged.other {d : LinkChannel} (h : Judged words c s t) (hd : d ≠ c) : judgedChain words d t = judgedChain words d s ∧
    failsBlock words d t = failsBlock words d s ∧ diesAtBlock words d t = diesAtBlock words d s := by
  have hchain : t.slr.chains.get d = s.slr.chains.get d := by
    rw [h.slr]
    exact PerLink.get_set_ne _ _ _ _ hd
  have hpass : passesBlock t.slr words d = passesBlock s.slr words d := by
    rw [h.slr]
    rfl
  simp only [judgedChain, failsBlock, diesAtBlock, hchain, hpass, and_self]

/-- Two states that differ in the receiver and the interface alone. -/
def ReceiverOnly (s t : State) : Prop := t = { s with slr := t.slr, sli := t.sli }

theorem ReceiverOnly.trans {u : State} (h : ReceiverOnly s u) (k : ReceiverOnly u t) : ReceiverOnly s t := by
  unfold ReceiverOnly at *
  calc t = { u with slr := t.slr, sli := t.sli } := k
    _ = { s with slr := t.slr, sli := t.sli } := by rw [h]

theorem failsBlock_eq (hagree : ChainsAgree s) (words : PerQuantity (PerLink LinkWord)) (c : LinkChannel) : failsBlock words c s =
    ((s.slr.chains.get c).failedRun != 4 && Quantity.all.any fun q => (s.slr.block.sums.get q).get c != ((words.get q).get c).data) := by
  obtain ⟨hstatus, hbound⟩ := hagree c
  have hfailed : ((s.slr.chains.get c).status != .failed) = ((s.slr.chains.get c).failedRun != 4) := by
    rw [hstatus]
    generalize (s.slr.chains.get c).failedRun = n at hbound
    interval_cases n <;> rfl
  rw [failsBlock, hfailed, passesBlock, List.not_all_eq_any_not]
  rfl

theorem diesAtBlock_eq (hagree : ChainsAgree s) (words : PerQuantity (PerLink LinkWord)) (c : LinkChannel) :
    diesAtBlock words c s = (failsBlock words c s && (s.slr.chains.get c).failedRun == 3) := by
  have hbound := (hagree c).2
  cases hf : failsBlock words c s with
  | false => simp [diesAtBlock, hf]
  | true =>
    have hne : (s.slr.chains.get c).failedRun ≠ 4 := by
      rw [failsBlock_eq hagree, Bool.and_eq_true, bne_iff_ne] at hf
      exact hf.1
    simp only [diesAtBlock, hf, Bool.true_and]
    rw [Bool.eq_iff_iff, decide_eq_true_iff, beq_iff_eq]
    omega

/-- A count one higher where something happens. -/
def countIf (step : Nat → Nat) (happens : Bool) (n : Nat) : Nat := if happens then step n else n

/-- R33, R35: what a verified block leaves, channel A judged before channel B and the primary last. -/
structure BlockVerified (words : PerQuantity (PerLink LinkWord)) (s t : State) : Prop where
  rest : ReceiverOnly s t
  slr : t.slr = { s.slr with
    chains := t.slr.chains, primary := t.slr.primary, block := { s.slr.block with judged := true }, counters := t.slr.counters }
  chains : ∀ c, t.slr.chains.get c = judgedChain words c s
  primary : t.slr.primary =
    if (t.slr.chains.get s.slr.primary).status = .failed ∧ (t.slr.chains.get s.slr.primary.other).status ≠ .failed then s.slr.primary.other
    else s.slr.primary
  verified : t.slr.counters.verified = count32 s.slr.counters.verified
  failedBlocks : ∀ c, t.slr.counters.failedBlocks.get c = countIf count32 (failsBlock words c s) (s.slr.counters.failedBlocks.get c)
  channelFailures : t.slr.counters.channelFailures =
    countIf count32 (diesAtBlock words .b s) (countIf count32 (diesAtBlock words .a s) s.slr.counters.channelFailures)
  errors : (t.sli.events.get .blockCheckError).count =
    countIf (bump 255) (failsBlock words .b s) (countIf (bump 255) (failsBlock words .a s) (s.sli.events.get .blockCheckError).count)
  failures : (t.sli.events.get .channelFailed).count =
    countIf (bump 255) (diesAtBlock words .b s) (countIf (bump 255) (diesAtBlock words .a s) (s.sli.events.get .channelFailed).count)
  made : t.slr.primary ≠ s.slr.primary → t.slr.counters.primarySwitches = count32 s.slr.counters.primarySwitches ∧
    t.sli.events.get .primarySwitched = ⟨true, bump 255 (s.sli.events.get .primarySwitched).count⟩
  kept : t.slr.primary = s.slr.primary → t.slr.counters.primarySwitches = s.slr.counters.primarySwitches ∧
    t.sli.events.get .primarySwitched = s.sli.events.get .primarySwitched
  others : OtherEventsKept [.blockCheckError, .channelFailed, .primarySwitched] s t

theorem Judged.count_errors (h : Judged words c s t) : (t.sli.events.get .blockCheckError).count =
    countIf (bump 255) (failsBlock words c s) (s.sli.events.get .blockCheckError).count := by
  rw [h.errors, countIf]
  split <;> rfl

theorem Judged.count_failures (h : Judged words c s t) : (t.sli.events.get .channelFailed).count =
    countIf (bump 255) (diesAtBlock words c s) (s.sli.events.get .channelFailed).count := by
  rw [h.failures, countIf]
  split <;> rfl

theorem Judged.failedBlocks_self (h : Judged words c s t) : t.slr.counters.failedBlocks.get c =
    countIf count32 (failsBlock words c s) (s.slr.counters.failedBlocks.get c) := by
  rw [h.counters]
  cases failsBlock words c s <;> simp [countIf]

theorem Judged.failedBlocks_ne {d : LinkChannel} (h : Judged words c s t) (hd : d ≠ c) :
    t.slr.counters.failedBlocks.get d = s.slr.counters.failedBlocks.get d := by
  rw [h.counters]
  cases failsBlock words c s <;> simp [PerLink.get_set_ne _ _ _ _ hd]

theorem blockVerified (words : PerQuantity (PerLink LinkWord)) (s : State) :
    BlockVerified words s (switchPrimary (judgeChannel words .b (judgeChannel words .a (verifiedBlock s)))) := by
  have ha := judgeChannel_judged words .a (verifiedBlock s)
  generalize judgeChannel words .a (verifiedBlock s) = u at ha
  have hb := judgeChannel_judged words .b u
  generalize judgeChannel words .b u = v at hb
  have hs := switchPrimary_switched v
  generalize switchPrimary v = t at hs
  obtain ⟨hchain, hfails, hdies⟩ := ha.other (d := .b) (by decide)
  have hslr : t.slr = { v.slr with primary := t.slr.primary, counters := t.slr.counters } := by rw [hs.rest]
  have hchains (c : LinkChannel) : t.slr.chains.get c = judgedChain words c s := by
    rw [hslr, hb.slr, ha.slr]
    cases c with
    | a => rw [PerLink.get_set_ne _ _ _ _ (by decide), PerLink.get_set_self]; rfl
    | b => rw [PerLink.get_set_self, hchain]; rfl
  have hprimary : v.slr.primary = s.slr.primary := by rw [hb.slr, ha.slr]; rfl
  have hstands : t.slr.chains = v.slr.chains := by rw [hslr]
  have hswitches : v.slr.counters.primarySwitches = s.slr.counters.primarySwitches := by rw [hb.counters, ha.counters]; rfl
  have hevent : v.sli.events.get .primarySwitched = s.sli.events.get .primarySwitched := by
    rw [hb.others _ (by decide), ha.others _ (by decide)]
    rfl
  exact {
    rest := by
      have hfirst : ReceiverOnly s u := ReceiverOnly.trans (u := verifiedBlock s) rfl ha.rest
      have hlast : ReceiverOnly v t := hs.rest.trans (by rw [← hslr])
      exact (hfirst.trans hb.rest).trans hlast
    slr := by
      rw [hslr, hb.slr, ha.slr]
      rfl
    chains := hchains
    primary := by rw [hs.primary, hprimary, hstands]
    verified := by rw [hs.counters, hb.counters, ha.counters]; rfl
    failedBlocks := fun c => by
      have hswitched : t.slr.counters.failedBlocks = v.slr.counters.failedBlocks := by rw [hs.counters]
      rw [hswitched]
      cases c with
      | a => rw [hb.failedBlocks_ne (by decide), ha.failedBlocks_self]; rfl
      | b => rw [hb.failedBlocks_self, hfails, ha.failedBlocks_ne (by decide)]; rfl
    channelFailures := by
      rw [hs.counters, hb.counters, ha.counters, hdies]
      rfl
    errors := by
      rw [hs.others _ (by decide), hb.count_errors, ha.count_errors, hfails]
      rfl
    failures := by
      rw [hs.others _ (by decide), hb.count_failures, ha.count_failures, hdies]
      rfl
    made := by rw [← hprimary, ← hswitches, ← hevent]; exact hs.made
    kept := by rw [← hprimary, ← hswitches, ← hevent]; exact hs.kept
    others := fun k hk => by
      simp only [List.mem_cons, not_or] at hk
      rw [hs.others k (by simp [hk]), hb.others k (by simp [hk]), ha.others k (by simp [hk])]
      rfl }

theorem countIf_pair {m n : Nat} (x y : Bool) (h : n ≤ m) :
    countIf (bump m) y (countIf (bump m) x n) = min m (n + (x.toNat + y.toNat)) := by
  have hstep (z : Bool) {k : Nat} (hk : k ≤ m) : countIf (bump m) z k = min m (k + z.toNat) := by
    cases z with
    | false => simp [countIf, hk]
    | true => exact bump_eq_min hk
  rw [hstep x h, hstep y (Nat.min_le_left ..)]
  omega

theorem length_filter_links (f : LinkChannel → Bool) : (LinkChannel.all.filter f).length = (f .a).toNat + (f .b).toNat := by
  cases ha : f .a <;> cases hb : f .b <;> simp [LinkChannel.all, ha, hb]

/-- Settles O33. -/
theorem checkFrameJudgesTheBlock : Obligations.CheckFrameJudgesTheBlock := by
  unfold Obligations.CheckFrameJudgesTheBlock
  refine ⟨?_, ?_⟩
  · intro s h w i hheld hheader hagree idle
    have hexec : exec (.checkFrame h w) s = .next (takeCheck i w s) := by
      rw [(exec_linkFrame hheld).2, takeLinkFrame_check hheader]
    refine ⟨fun hidle => ?_, fun hbusy hshort => ?_, fun hbusy hfull => ?_⟩
    · rw [hexec]
      exact congrArg _ (if_pos (discardsCheck_iff.mpr hidle))
    · rw [hexec]
      exact congrArg _ ((if_neg (mt discardsCheck_iff.mp hbusy)).trans (if_neg hshort))
    · rw [takeCheck_judges (mt discardsCheck_iff.mp hbusy) hfull] at hexec
      have hverified := blockVerified w s
      exact ⟨_, hexec, hverified.rest, by rw [hverified.slr], hverified.verified, by rw [hverified.slr], by rw [hverified.slr],
        by rw [hverified.slr], fun c => (hverified.chains c).trans (judgedChain_eq hagree w c), hverified.primary, hverified.others⟩
  · intro s h w i hheld hheader hagree hindex hjudged hparity hfull hbounded hcount fails dies failing dying
    have hbusy : ¬ discardsCheck s.slr i w = true := by
      rw [discardsCheck_iff]
      simp [hindex, hjudged, hparity]
    have hexec : exec (.checkFrame h w) s = .next (takeCheck i w s) := by
      rw [(exec_linkFrame hheld).2, takeLinkFrame_check hheader]
    rw [takeCheck_judges hbusy hfull] at hexec
    have hverified := blockVerified w s
    have hfails (c : LinkChannel) : failsBlock w c s = fails c := failsBlock_eq hagree w c
    have hdies (c : LinkChannel) : diesAtBlock w c s = dies c := by rw [diesAtBlock_eq hagree, hfails]
    refine ⟨_, hexec, fun c => by rw [hverified.failedBlocks, hfails]; rfl, ?_, ?_, ?_, hverified.made, hverified.kept⟩
    · rw [hverified.channelFailures, hdies, hdies]
      simp only [dying, length_filter_links]
      refine (countIf_pair (m := 4294967295) _ _ (by omega)).trans (Nat.min_eq_right ?_)
      have := Bool.toNat_le (dies .a)
      have := Bool.toNat_le (dies .b)
      omega
    · rw [hverified.errors, hfails, hfails, countIf_pair _ _ (hbounded _)]
      simp only [failing, length_filter_links]
    · rw [hverified.failures, hdies, hdies, countIf_pair _ _ (hbounded _)]
      simp only [dying, length_filter_links]

end

end Sys2Proof.Machine

/-! Word selection and the compare check of a received frame (R28 to R30). -/

namespace Sys2Proof.Machine

open Safety

section
variable {s t u : State} {words : PerQuantity (PerLink LinkWord)}

/-! ## One quantity -/

/-- R28, R29: a quantity's items after its selection and its comparison, before DIVERGED is judged. -/
def comparedQuantity (words : PerQuantity (PerLink LinkWord)) (l : SampleLink) (q : Quantity) : QuantityState :=
  let pair := words.get q
  let r := { l.quantities.get q with lastUsed := usedValue l q pair }
  if compared l pair then runsAfter (mismatches l pair) r else r

/-- R30: the quantity's mismatch run sets DIVERGED. -/
def setsDiverged (words : PerQuantity (PerLink LinkWord)) (l : SampleLink) (q : Quantity) : Bool :=
  (comparedQuantity words l q).mismatchRun == 64 && !(comparedQuantity words l q).diverged

/-- R28 to R30: a quantity's items after a received frame. -/
def selectedQuantity (words : PerQuantity (PerLink LinkWord)) (l : SampleLink) (q : Quantity) : QuantityState :=
  let r := comparedQuantity words l q
  { r with diverged := setsDiverged words l q || (r.diverged && !decide (r.agreementRun = 64)) }

/-- R28, R30: what the selection of one quantity counts. -/
def selectionCounts (words : PerQuantity (PerLink LinkWord)) (l : SampleLink) (q : Quantity) : LinkCounters :=
  let c := countSelection l q (words.get q) l.counters
  { c with divergences := if setsDiverged words l q then c.divergences.set q (count32 (c.divergences.get q)) else c.divergences }

/-- R28 to R30: the selection of one quantity, whole. -/
theorem selectQuantity_eq (q : Quantity) (s : State) : selectQuantity words q s =
    let v : State := { s with slr := { s.slr with
      quantities := s.slr.quantities.set q (selectedQuantity words s.slr q), counters := selectionCounts words s.slr q } }
    if setsDiverged words s.slr q then noteEvent .quantityDiverged v else v := by
  have hset : setsDiverged words s.slr q = true ↔
      (comparedQuantity words s.slr q).mismatchRun = 64 ∧ (comparedQuantity words s.slr q).diverged = false := by
    simp [setsDiverged]
  have hunfold : selectQuantity words q s =
      let r := comparedQuantity words s.slr q
      let diverges := r.mismatchRun = 64 ∧ r.diverged = false
      let c := countSelection s.slr q (words.get q) s.slr.counters
      let v : State := { s with slr := { s.slr with
        quantities := s.slr.quantities.set q (if diverges then { r with diverged := true }
          else if r.agreementRun = 64 ∧ r.diverged = true then { r with diverged := false } else r)
        counters := if diverges then { c with divergences := c.divergences.set q (count32 (c.divergences.get q)) } else c } }
      if diverges then raise .quantityDiverged v else v := rfl
  rw [hunfold]
  by_cases hd : setsDiverged words s.slr q = true
  · have hboth := hset.mp hd
    simp only [selectedQuantity, selectionCounts, hd, hboth, and_self, if_true, Bool.true_or]
    rfl
  · have hnot := mt hset.mpr hd
    have hkept : selectedQuantity words s.slr q =
        if (comparedQuantity words s.slr q).agreementRun = 64 ∧ (comparedQuantity words s.slr q).diverged = true then
          { comparedQuantity words s.slr q with diverged := false } else comparedQuantity words s.slr q := by
      rw [Bool.not_eq_true] at hd
      rw [selectedQuantity, hd]
      generalize comparedQuantity words s.slr q = r
      obtain ⟨used, m, a, d⟩ := r
      by_cases ha : a = 64 <;> cases d <;> simp [ha]
    simp only [selectionCounts, if_neg hd, if_neg hnot, hkept]

/-! ## The six quantities -/

/-- R28: the quantities whose word is damaged on a channel. -/
def damaged (words : PerQuantity (PerLink LinkWord)) (c : LinkChannel) (q : Quantity) : Bool := !parityGood ((words.get q).get c)

/-- R190: an event raised once more. -/
def raisedOnce (x : EventCell) : EventCell := ⟨true, bump 255 x.count⟩

/-- R28 to R30: what the selection of some of a frame's quantities leaves. -/
structure Selected (words : PerQuantity (PerLink LinkWord)) (l : List Quantity) (s t : State) : Prop where
  rest : t = { s with
    slr := { s.slr with quantities := t.slr.quantities, counters := t.slr.counters }, sli := { s.sli with events := t.sli.events } }
  counters : t.slr.counters = { s.slr.counters with
    parityErrors := t.slr.counters.parityErrors, substitutions := t.slr.counters.substitutions
    heldWords := t.slr.counters.heldWords, divergences := t.slr.counters.divergences }
  quantity : ∀ q, t.slr.quantities.get q = if q ∈ l then selectedQuantity words s.slr q else s.slr.quantities.get q
  parityErrors : ∀ c, t.slr.counters.parityErrors.get c = count32^[(l.filter (damaged words c)).length] (s.slr.counters.parityErrors.get c)
  substitutions : ∀ q, t.slr.counters.substitutions.get q =
    if q ∈ l ∧ isSubstitution s.slr (words.get q) = true then count32 (s.slr.counters.substitutions.get q)
    else s.slr.counters.substitutions.get q
  heldWords : ∀ q, t.slr.counters.heldWords.get q =
    if q ∈ l ∧ isHeld s.slr (words.get q) = true then count32 (s.slr.counters.heldWords.get q) else s.slr.counters.heldWords.get q
  divergences : ∀ q, t.slr.counters.divergences.get q =
    if q ∈ l ∧ setsDiverged words s.slr q = true then count32 (s.slr.counters.divergences.get q) else s.slr.counters.divergences.get q
  raised : t.sli.events.get .quantityDiverged =
    raisedOnce^[(l.filter (setsDiverged words s.slr)).length] (s.sli.events.get .quantityDiverged)
  others : OtherEventsKept [.quantityDiverged] s t

theorem selectQuantity_selected (q : Quantity) (s : State) : Selected words [q] s (selectQuantity words q s) := by
  have hevents : (selectQuantity words q s).sli.events =
      if setsDiverged words s.slr q then s.sli.events.set .quantityDiverged (raisedOnce (s.sli.events.get .quantityDiverged)) else s.sli.events := by
    rw [selectQuantity_eq]
    dsimp only
    split <;> rfl
  have hcounters : (selectQuantity words q s).slr.counters = selectionCounts words s.slr q := by
    rw [selectQuantity_eq]
    dsimp only
    split <;> rfl
  have hquantities : (selectQuantity words q s).slr.quantities = s.slr.quantities.set q (selectedQuantity words s.slr q) := by
    rw [selectQuantity_eq]
    dsimp only
    split <;> rfl
  refine ⟨?_, ?_, fun k => ?_, fun c => ?_, fun k => ?_, fun k => ?_, fun k => ?_, ?_, fun k hk => ?_⟩
  · rw [selectQuantity_eq]
    dsimp only
    split <;> rfl
  · rw [hcounters]
    rfl
  · rw [hquantities, PerQuantity.get_set]
    by_cases h : k = q <;> simp [h]
  · rw [hcounters]
    cases hgood : parityGood ((words.get q).get c) <;> simp [selectionCounts, countSelection, damaged, hgood]
  · rw [hcounters]
    by_cases h : k = q <;> cases hsub : isSubstitution s.slr (words.get q) <;>
      simp [selectionCounts, countSelection, hsub, h, PerQuantity.get_set]
  · rw [hcounters]
    by_cases h : k = q <;> cases hheld : isHeld s.slr (words.get q) <;>
      simp [selectionCounts, countSelection, hheld, h, PerQuantity.get_set]
  · rw [hcounters]
    by_cases h : k = q <;> cases hd : setsDiverged words s.slr q <;>
      simp [selectionCounts, countSelection, hd, h, PerQuantity.get_set]
  · rw [hevents]
    cases hd : setsDiverged words s.slr q <;> simp [hd]
  · rw [hevents]
    split
    · exact PerEvent.get_set_ne _ _ _ _ (by simpa using hk)
    · rfl

/-- What the selection of one quantity leaves to that of another is as it was. -/
theorem Selected.selects_alike {l : List Quantity} {k : Quantity} (h : Selected words l s u) (hk : k ∉ l) :
    selectedQuantity words u.slr k = selectedQuantity words s.slr k ∧ setsDiverged words u.slr k = setsDiverged words s.slr k ∧
      isSubstitution u.slr (words.get k) = isSubstitution s.slr (words.get k) ∧
      isHeld u.slr (words.get k) = isHeld s.slr (words.get k) := by
  have hown := h.quantity k
  rw [if_neg hk] at hown
  have hcompared : comparedQuantity words u.slr k = comparedQuantity words s.slr k := by
    rw [h.rest]
    simp only [comparedQuantity, usedValue, hown]
    rfl
  refine ⟨?_, ?_, ?_, ?_⟩
  · simp only [selectedQuantity, setsDiverged, hcompared]
  · simp only [setsDiverged, hcompared]
  · rw [h.rest]
    rfl
  · rw [h.rest]
    rfl

theorem Selected.cons {q : Quantity} {l : List Quantity} (hq : q ∉ l) (h : Selected words [q] s u) (k : Selected words l u t) :
    Selected words (q :: l) s t := by
  have halike (x : Quantity) (hx : x ∈ l) := h.selects_alike (k := x) (by simpa using ne_of_mem_of_not_mem hx hq)
  have hdiverged : l.filter (setsDiverged words u.slr) = l.filter (setsDiverged words s.slr) :=
    List.filter_congr fun x hx => (halike x hx).2.1
  refine ⟨?_, ?_, fun x => ?_, fun c => ?_, fun x => ?_, fun x => ?_, fun x => ?_, ?_, fun e he => ?_⟩
  · rw [k.rest, h.rest]
  · rw [k.counters, h.counters]
  · rw [k.quantity x, h.quantity x]
    by_cases hx : x ∈ l
    · simp [hx, (halike x hx).1]
    · simp [hx]
  · rw [k.parityErrors c, h.parityErrors c, ← Function.iterate_add_apply, ← List.length_append]
    rw [List.length_append, Nat.add_comm, ← List.length_append, ← List.filter_append]
    rfl
  · rw [k.substitutions x, h.substitutions x]
    by_cases hx : x ∈ l
    · have hne : x ≠ q := ne_of_mem_of_not_mem hx hq
      simp [hx, hne, (halike x hx).2.2.1]
    · simp [hx]
  · rw [k.heldWords x, h.heldWords x]
    by_cases hx : x ∈ l
    · have hne : x ≠ q := ne_of_mem_of_not_mem hx hq
      simp [hx, hne, (halike x hx).2.2.2]
    · simp [hx]
  · rw [k.divergences x, h.divergences x]
    by_cases hx : x ∈ l
    · have hne : x ≠ q := ne_of_mem_of_not_mem hx hq
      simp [hx, hne, (halike x hx).2.1]
    · simp [hx]
  · rw [k.raised, h.raised, hdiverged, ← Function.iterate_add_apply, ← List.length_append]
    rw [List.length_append, Nat.add_comm, ← List.length_append, ← List.filter_append]
    rfl
  · rw [k.others e he, h.others e he]

theorem selectEach_selected {l : List Quantity} (hl : l.Nodup) (s : State) :
    Selected words l s (l.foldl (fun s q => selectQuantity words q s) s) := by
  induction l generalizing s with
  | nil => exact ⟨rfl, rfl, fun _ => rfl, fun _ => rfl, fun _ => by simp, fun _ => by simp, fun _ => by simp, rfl, fun _ _ => rfl⟩
  | cons q l ih =>
    obtain ⟨hq, hnodup⟩ := List.nodup_cons.mp hl
    exact (selectQuantity_selected q s).cons hq (ih hnodup _)

theorem selectWords_selected (words : PerQuantity (PerLink LinkWord)) (s : State) :
    Selected words Quantity.all s (selectWords words s) := selectEach_selected (by decide) s

theorem count_iterate {m : Nat} (k : Nat) {n : Nat} (h : n ≤ m) : (bump m)^[k] n = min m (n + k) := by
  induction k with
  | zero => simpa using h
  | succ k ih =>
    rw [Function.iterate_succ_apply', ih, bump_eq_min (Nat.min_le_left ..)]
    omega

theorem raisedOnce_iterate_count (k : Nat) {x : EventCell} (h : x.count ≤ 255) : (raisedOnce^[k] x).count = min 255 (x.count + k) := by
  induction k with
  | zero => simpa using h
  | succ k ih =>
    rw [Function.iterate_succ_apply']
    refine (bump_eq_min (by omega)).trans ?_
    omega

theorem raisedOnce_iterate_flag {k : Nat} (x : EventCell) (h : k ≠ 0) : (raisedOnce^[k] x).flag = true := by
  obtain ⟨k, rfl⟩ := Nat.exists_eq_succ_of_ne_zero h
  rw [Function.iterate_succ_apply']
  rfl

end

end Sys2Proof.Machine

/-! The events of the tracker, and what the closures of a frame leave: events of other kinds and the channels of the valve link. -/

namespace Sys2Proof.Machine

open Safety

/-! ## The events of closures and crossings (R190) -/

/-- The kinds of event that crossings, closures, sync loss and acquisition bring. -/
def trackerEvents : List EventKind :=
  [.misfire, .groupFailed, .halted, .presetCancelled, .captureFrozen, .branchFallback, .demandSaturated, .lateDecision
  , .crossingSynthesized, .crossingRejected, .syncLost, .acquireDone, .acquireFailed]

section
variable {k : EventKind} {f : Branch → State → State} (hf : ∀ b s, (f b s).sli.events.get k = s.sli.events.get k)
include hf

/-- What each of a list's operations keeps of the events, all of them keep. -/
theorem foldl_keeps_events (l : List Branch) (s : State) :
    (l.foldl (fun s b => f b s) s).sli.events.get k = s.sli.events.get k := by
  induction l generalizing s with
  | nil => rfl
  | cons b l ih => rw [List.foldl_cons, ih, hf]

theorem inAnyOrder_keeps_events (l : List Branch) (s : State) : (inAnyOrder f l s).sli.events.get k = s.sli.events.get k := by
  rw [inAnyOrder, foldl_keeps_events hf]
  rfl

end

section
variable {k : EventKind} (hk : k ∉ trackerEvents) (s : State)
include hk

theorem raise_keeps {e : EventKind} (he : e ∈ trackerEvents) : (raise e s).sli.events.get k = s.sli.events.get k :=
  raise_events_ne _ _ _ (ne_of_mem_of_not_mem he hk).symm (ne_of_mem_of_not_mem (a := .captureFrozen) (by decide) hk).symm

theorem noteEvent_keeps {e : EventKind} (he : e ∈ trackerEvents) : (noteEvent e s).sli.events.get k = s.sli.events.get k :=
  noteEvent_events_ne _ _ _ (ne_of_mem_of_not_mem he hk).symm

theorem enterHalted_keeps (c : HaltCause) (b : Option Branch) (g : Option Group) (f : Option FailureCause) :
    (enterHalted c b g f s).sli.events.get k = s.sli.events.get k := by
  simp only [trackerEvents, List.mem_cons, not_or] at hk
  exact enterHalted_events _ _ _ _ _ _ hk.2.2.1 hk.2.2.2.1 hk.2.2.2.2.1

theorem failGroup_keeps (g : Group) (c : FailureCause) : (failGroup g c s).sli.events.get k = s.sli.events.get k := by
  unfold failGroup
  dsimp only
  (repeat' split) <;> simp (disch := decide) only [enterHalted_keeps hk, raise_keeps hk, addCause_frame, modGroup_sli]

theorem closeMisfire_keeps (b : Branch) (x : Transaction) : (closeMisfire b x s).sli.events.get k = s.sli.events.get k := by
  unfold closeMisfire settle
  dsimp only
  (repeat' split) <;> simp (disch := decide) [raise_keeps hk, failGroup_keeps hk]

omit hk in
theorem reachDelay_keeps (b : Branch) : (reachDelay b s).sli.events.get k = s.sli.events.get k := by
  unfold reachDelay
  dsimp only
  (repeat' split) <;> simp [openTransaction, sendFire]

theorem reachGuardEnd_keeps (b : Branch) : (reachGuardEnd b s).sli.events.get k = s.sli.events.get k := by
  unfold reachGuardEnd
  dsimp only
  (repeat' split) <;> simp (disch := decide) [closeMisfire_keeps hk]

theorem reachRetry_keeps (b : Branch) : (reachRetry b s).sli.events.get k = s.sli.events.get k := by
  unfold reachRetry
  dsimp only
  (repeat' split) <;> simp (disch := decide) [closeMisfire_keeps hk, sendFire]

theorem passMarks_keeps (limit : Nat) (b : Branch) (fuel : Nat) :
    (passMarks limit b fuel s).sli.events.get k = s.sli.events.get k := by
  induction fuel generalizing s with
  | zero => rfl
  | succ fuel ih =>
    unfold passMarks
    split
    · next mark act hmark =>
      split
      · rw [ih]
        obtain rfl | rfl | rfl := nextMark_act hmark
        · exact reachDelay_keeps s b
        · exact reachGuardEnd_keeps hk s b
        · exact reachRetry_keeps hk s b
      · rfl
    · rfl

theorem settleHalfCycle_keeps (b : Branch) : (settleHalfCycle b s).sli.events.get k = s.sli.events.get k := by
  unfold settleHalfCycle
  dsimp only
  (repeat' split) <;> simp (disch := decide) [closeMisfire_keeps hk, closeOvertaken, settle]

theorem decideClosure_keeps (b : Branch) (kind : ClosureKind) : (decideClosure b kind s).sli.events.get k = s.sli.events.get k := by
  unfold decideClosure
  dsimp only
  (repeat' split) <;> simp (disch := decide) [raise_keeps hk]

theorem handOver_keeps (b : Branch) (p : Polarity) (delay count : Nat) : (handOver b p delay count s).sli.events.get k = s.sli.events.get k := by
  unfold handOver
  (repeat' split) <;> simp (disch := decide) [raise_keeps hk]

theorem handOverDelay_keeps (b : Branch) (kind : ClosureKind) (p : Polarity) (delay start : Nat) :
    (handOverDelay b kind p delay start s).sli.events.get k = s.sli.events.get k := by
  unfold handOverDelay
  (repeat' split) <;> simp (disch := decide) [handOver_keeps hk, reachCount]

theorem storeRecord_keeps (r : ClosureRecord) : (storeRecord r s).sli.events.get k = s.sli.events.get k := by
  unfold storeRecord freeze
  dsimp only
  repeat' split
  · rfl
  · exact noteEvent_keeps hk _ (by decide)
  · rfl
  · rfl

theorem finishClosure_keeps (b : Branch) (kind : ClosureKind) (ended p : Polarity) (start : Nat) (d : BranchDemand) :
    (finishClosure b kind ended p start d s).sli.events.get k = s.sli.events.get k := by
  unfold finishClosure
  simp (disch := decide) [handOverDelay_keeps hk, storeRecord_keeps hk, openWindow, moveReadiness]

theorem closeHalfCycle_keeps (b : Branch) (kind : ClosureKind) (ended p : Polarity) (start : Nat) :
    (closeHalfCycle b kind ended p start s).sli.events.get k = s.sli.events.get k := by
  unfold closeHalfCycle
  dsimp only
  (repeat' split) <;> simp (disch := decide) [finishClosure_keeps hk, decideClosure_keeps hk, settleHalfCycle_keeps hk]

theorem noteSynthesised_keeps (b : Branch) (x : Option AngleCounter) : (noteSynthesised b x s).sli.events.get k = s.sli.events.get k := by
  unfold noteSynthesised
  simp (disch := decide) [raise_keeps hk]

theorem synthesise_keeps (b : Branch) : (synthesise b s).sli.events.get k = s.sli.events.get k := by
  unfold synthesise
  simp (disch := decide) [closeHalfCycle_keeps hk, noteSynthesised_keeps hk]

theorem closeAtTop_keeps (b : Branch) : (closeAtTop b s).sli.events.get k = s.sli.events.get k := by
  unfold closeAtTop
  dsimp only
  (repeat' split) <;> simp (disch := decide) [synthesise_keeps hk, noteSynthesised_keeps hk, passMarks_keeps hk]

theorem loseSync_keeps (b : Branch) : (loseSync b s).sli.events.get k = s.sli.events.get k := by
  unfold loseSync
  dsimp only
  (repeat' split) <;> simp (disch := decide) [raise_keeps hk, enterHalted_keeps hk]

theorem loseAtLimit_keeps (b : Branch) : (loseAtLimit b s).sli.events.get k = s.sli.events.get k := by
  unfold loseAtLimit
  (repeat' split) <;> simp (disch := decide) [loseSync_keeps hk]

theorem loseTogether_keeps (b : Branch) : (loseTogether b s).sli.events.get k = s.sli.events.get k := by
  unfold loseTogether
  dsimp only
  rw [foldl_keeps_events fun b s => loseAtLimit_keeps hk s b, inAnyOrder_keeps_events fun b s => closeAtTop_keeps hk s b]

theorem reachTop_keeps (b : Branch) : (reachTop b s).sli.events.get k = s.sli.events.get k := by
  unfold reachTop
  dsimp only
  (repeat' split) <;> simp (disch := decide) [loseTogether_keeps hk, closeAtTop_keeps hk]

theorem closeBeforeDelivery_keeps (used : PerQuantity Half) :
    (closeBeforeDelivery used s).sli.events.get k = s.sli.events.get k :=
  inAnyOrder_keeps_events (fun b s => reachTop_keeps hk s b) _ s

theorem rejectCrossing_keeps (b : Branch) : (rejectCrossing b s).sli.events.get k = s.sli.events.get k := by
  unfold rejectCrossing
  simp (disch := decide) [raise_keeps hk]

theorem acceptCrossing_keeps (b : Branch) (c : Candidate) : (acceptCrossing b c s).sli.events.get k = s.sli.events.get k := by
  unfold acceptCrossing
  dsimp only
  simp (disch := decide) [closeHalfCycle_keeps hk]

theorem runCrossing_keeps (b : Branch) (c : Candidate) : (runCrossing b c s).sli.events.get k = s.sli.events.get k := by
  unfold runCrossing
  (repeat' split) <;> simp (disch := decide) [acceptCrossing_keeps hk, rejectCrossing_keeps hk]

theorem failAcquisition_keeps (c : HaltCause) : (failAcquisition c s).sli.events.get k = s.sli.events.get k := by
  unfold failAcquisition
  simp (disch := decide) [enterHalted_keeps hk, raise_keeps hk]

theorem lock_keeps (n : Nominal) : (lock n s).sli.events.get k = s.sli.events.get k := by
  unfold lock
  dsimp only
  simp (disch := decide) [raise_keeps hk, abandonFiring, flushLines]

theorem vabCrossing_keeps (q : Position) : (vabCrossing q s).sli.events.get k = s.sli.events.get k := by
  unfold vabCrossing
  dsimp only
  (repeat' split) <;> simp (disch := decide) [lock_keeps hk, failAcquisition_keeps hk]

theorem confirmCrossing_keeps (b : Branch) (c : Candidate) : (confirmCrossing b c s).sli.events.get k = s.sli.events.get k := by
  unfold confirmCrossing
  split
  · unfold acquireCrossing
    cases b
    · exact vabCrossing_keeps hk s _
    · rfl
    · rfl
  · exact runCrossing_keeps hk s b c
  · rfl

theorem watchVoltage_keeps (b : Branch) (now : Half) : (watchVoltage b now s).sli.events.get k = s.sli.events.get k := by
  unfold watchVoltage
  dsimp only
  (repeat' split) <;> simp (disch := decide) [confirmCrossing_keeps hk]

theorem deliver_keeps (used : PerQuantity Half) (held : PerQuantity Bool) :
    (deliver used held s).sli.events.get k = s.sli.events.get k := by
  simp [deliver, forBranches, watchVoltage_keeps hk]

end

/-! ## The channels of the valve link (R113) -/

section
variable {s : State}

/-- A branch that stands at its top orders nothing on its way there. -/
theorem closeAtTop_channels {b : Branch} (h : AtTop s b) : (closeAtTop b s).vlc.channels = s.vlc.channels := by
  unfold closeAtTop
  split
  · next hruns =>
    rw [if_neg (Nat.not_lt.mpr (h hruns))]
    dsimp only
    split <;> simp
  · split <;> simp

theorem closeEach_channels {l : List Branch} (hl : l.Nodup) (h : ∀ c ∈ l, AtTop s c) :
    (l.foldl (fun s c => closeAtTop c s) s).vlc.channels = s.vlc.channels := by
  induction l generalizing s with
  | nil => rfl
  | cons c l ih =>
    obtain ⟨hc, hl⟩ := List.nodup_cons.mp hl
    have hstands (d : Branch) (hd : d ∈ l) : CounterStands d s (closeAtTop c s) :=
      (closeAtTop_closing (h c (.head _))).counter_stands (closing_working c) d (ne_of_mem_of_not_mem hd hc)
    rw [List.foldl_cons, ih hl fun d hd => (h d (.tail _ hd)).of_stands (hstands d hd), closeAtTop_channels (h c (.head _))]

theorem loseTogether_channels (b : Branch) : (loseTogether b s).vlc.channels = s.vlc.channels := by
  unfold loseTogether inAnyOrder
  dsimp only
  have hlose (l : List Branch) (u : State) : (l.foldl (fun s c => loseAtLimit c s) u).vlc.channels = u.vlc.channels := by simp
  rw [hlose, closeEach_channels (anyOrder_nodup (Branch.all_nodup.filter _) s) fun c hc _ => ?_]
  · rfl
  · have hlosing := (List.mem_filter.mp ((anyOrder_perm _ s).mem_iff.mp hc)).2
    exact (losesWith_iff.mp hlosing).2.2.1

theorem reachTop_channels {b : Branch} (h : AtTop s b) : (reachTop b s).vlc.channels = s.vlc.channels := by
  unfold reachTop
  split
  · dsimp only
    split
    · rw [loseTogether_channels, closeAtTop_channels h]
    · exact closeAtTop_channels h
  · rfl

theorem reachEach_channels {l : List Branch} (hl : l.Nodup) (h : ∀ c ∈ l, AtTop s c) :
    (l.foldl (fun s c => reachTop c s) s).vlc.channels = s.vlc.channels := by
  induction l generalizing s with
  | nil => rfl
  | cons c l ih =>
    obtain ⟨hc, hl⟩ := List.nodup_cons.mp hl
    rw [List.foldl_cons, ih hl fun d hd => reachTop_others c d (ne_of_mem_of_not_mem hd hc) (h d (.tail _ hd)),
      reachTop_channels (h c (.head _))]

theorem closesBefore_atTop {used : PerQuantity Half} {b : Branch} (h : closesBefore used s b = true) : AtTop s b := by
  simp only [closesBefore, Bool.and_eq_true, decide_eq_true_eq] at h
  exact fun _ => h.1.2

theorem closeBeforeDelivery_channels (used : PerQuantity Half) : (closeBeforeDelivery used s).vlc.channels = s.vlc.channels := by
  unfold closeBeforeDelivery inAnyOrder
  rw [reachEach_channels (anyOrder_nodup (Branch.all_nodup.filter _) s) fun c hc => ?_]
  · rfl
  · exact closesBefore_atTop (List.mem_filter.mp ((anyOrder_perm _ s).mem_iff.mp hc)).2

theorem confirmCrossing_channels (b : Branch) (c : Candidate) : (confirmCrossing b c s).vlc.channels = s.vlc.channels := by
  unfold confirmCrossing
  split
  · unfold acquireCrossing vabCrossing
    cases b <;> dsimp only
    split <;> (try split) <;> simp
  · unfold runCrossing
    split
    · rfl
    · split <;> simp
  · rfl

theorem watchVoltage_channels (b : Branch) (now : Half) : (watchVoltage b now s).vlc.channels = s.vlc.channels := by
  unfold watchVoltage
  dsimp only
  (repeat' split) <;> simp [confirmCrossing_channels]

end

end Sys2Proof.Machine

/-! A received frame of the sample link delivered: the receiver's items, and what the words bring (R22, R27 to R31). -/

namespace Sys2Proof.Machine

open Safety

section
variable {s t u : State} {words : PerQuantity (PerLink LinkWord)}

/-- R22, R27, R31: the receiver's items when a frame has been received, before its words are selected. -/
def receivedLink (seq : Byte) (words : PerQuantity (PerLink LinkWord)) (l : SampleLink) : SampleLink :=
  accumulate words (trackBlock seq { l with
    expected := some (seq + 1)
    counters := { l.counters with received := count32 l.counters.received } })

/-- The words of a frame are selected after the closures due before it, and its delivery adds to the receiver's items the advance of the
frame alone. -/
structure Delivered (seq : Byte) (words : PerQuantity (PerLink LinkWord)) (s u t : State) : Prop where
  selected : Selected words Quantity.all (modLink (receivedLink seq words) (closeBeforeDelivery (usedValues s.slr words) s)) u
  delivered : t = deliver (lastUsedValues u.slr) (words.mapKey fun _ pair => isHeld s.slr pair) u

theorem deliverReceived_delivered (seq : Byte) (words : PerQuantity (PerLink LinkWord)) (s : State) :
    ∃ u, Delivered seq words s u (deliverReceived seq words s) := ⟨_, selectWords_selected words _, rfl⟩

theorem deliver_slr (used : PerQuantity Half) (held : PerQuantity Bool) (s : State) : (deliver used held s).slr = advanceFrame s.slr := by
  simp [deliver, forBranches]

/-- R31, R34: a frame's block is another one or not; no other item of the receiver's changes with it but the count of missing checks. -/
theorem trackBlock_kept (seq : Byte) (l : SampleLink) : trackBlock seq l = { l with
    block := (trackBlock seq l).block
    counters := { l.counters with checkMissing := (trackBlock seq l).counters.checkMissing } } := by
  unfold trackBlock startBlock
  repeat' split
  all_goals rfl

/-- R31: what a received frame leaves of the receiver's items, its words apart. -/
theorem receivedLink_kept (seq : Byte) (l : SampleLink) : receivedLink seq words l = { l with
    expected := some (seq + 1), block := (receivedLink seq words l).block
    counters := { l.counters with
      received := count32 l.counters.received, checkMissing := (receivedLink seq words l).counters.checkMissing } } := by
  have h := trackBlock_kept seq { l with
    expected := some (seq + 1), counters := { l.counters with received := count32 l.counters.received } }
  unfold receivedLink accumulate
  generalize trackBlock seq _ = m at h ⊢
  rw [h]

/-- The selection of a quantity's words looks at nothing that the receipt of the frame changes. -/
theorem receivedLink_selects (seq : Byte) (l : SampleLink) (q : Quantity) :
    selectedQuantity words (receivedLink seq words l) q = selectedQuantity words l q ∧
      setsDiverged words (receivedLink seq words l) q = setsDiverged words l q ∧
      isSubstitution (receivedLink seq words l) (words.get q) = isSubstitution l (words.get q) ∧
      isHeld (receivedLink seq words l) (words.get q) = isHeld l (words.get q) := by
  rw [receivedLink_kept]
  exact ⟨rfl, rfl, rfl, rfl⟩

/-- What a received frame leaves of the receiver (R22, R27 to R31, R37). -/
structure Received (seq : Byte) (words : PerQuantity (PerLink LinkWord)) (s t : State) : Prop where
  kept : t.slr = { s.slr with
    frameIndex := s.slr.frameIndex + 1, expected := some (seq + 1), gap := 0, gapRunning := true
    link := if s.slr.link = .late then .flowing else s.slr.link
    quantities := t.slr.quantities, block := (receivedLink seq words s.slr).block, counters := t.slr.counters }
  counters : t.slr.counters = { s.slr.counters with
    received := count32 s.slr.counters.received, checkMissing := (receivedLink seq words s.slr).counters.checkMissing
    parityErrors := t.slr.counters.parityErrors, substitutions := t.slr.counters.substitutions
    heldWords := t.slr.counters.heldWords, divergences := t.slr.counters.divergences }
  quantity : ∀ q, t.slr.quantities.get q = selectedQuantity words s.slr q
  parityErrors : ∀ c, t.slr.counters.parityErrors.get c =
    count32^[(Quantity.all.filter (damaged words c)).length] (s.slr.counters.parityErrors.get c)
  substitutions : ∀ q, t.slr.counters.substitutions.get q =
    if isSubstitution s.slr (words.get q) = true then count32 (s.slr.counters.substitutions.get q) else s.slr.counters.substitutions.get q
  heldWords : ∀ q, t.slr.counters.heldWords.get q =
    if isHeld s.slr (words.get q) = true then count32 (s.slr.counters.heldWords.get q) else s.slr.counters.heldWords.get q
  divergences : ∀ q, t.slr.counters.divergences.get q =
    if setsDiverged words s.slr q = true then count32 (s.slr.counters.divergences.get q) else s.slr.counters.divergences.get q
  raised : t.sli.events.get .quantityDiverged =
    raisedOnce^[(Quantity.all.filter (setsDiverged words s.slr)).length] (s.sli.events.get .quantityDiverged)

theorem deliverReceived_received (seq : Byte) (words : PerQuantity (PerLink LinkWord)) (s : State) :
    Received seq words s (deliverReceived seq words s) := by
  obtain ⟨u, hsel, ht⟩ := deliverReceived_delivered seq words s
  have hslr : (deliverReceived seq words s).slr = advanceFrame u.slr := by rw [ht, deliver_slr]
  have hbefore : (closeBeforeDelivery (usedValues s.slr words) s).slr = s.slr := by simp
  have hrest := (congrArg State.slr hsel.rest :)
  have hcounters := hsel.counters
  have hselects := receivedLink_selects (words := words) seq s.slr
  simp only [modLink_slr, hbefore] at hrest hcounters
  rw [receivedLink_kept] at hrest hcounters
  have hof (q : Quantity) : q ∈ Quantity.all := mem_allQuantities q
  refine ⟨?_, ?_, fun q => ?_, fun c => ?_, fun q => ?_, fun q => ?_, fun q => ?_, ?_⟩
  · rw [hslr, hrest]
    rfl
  · rw [hslr]
    exact hcounters
  · rw [hslr]
    have h := hsel.quantity q
    simp only [modLink_slr, hbefore, hof, hselects, if_true] at h
    exact h
  · rw [hslr]
    have h := hsel.parityErrors c
    rw [modLink_slr, hbefore, receivedLink_kept] at h
    exact h
  · rw [hslr]
    have h := hsel.substitutions q
    simp only [modLink_slr, hbefore, hof, hselects, true_and] at h
    rw [receivedLink_kept] at h
    exact h
  · rw [hslr]
    have h := hsel.heldWords q
    simp only [modLink_slr, hbefore, hof, hselects, true_and] at h
    rw [receivedLink_kept] at h
    exact h
  · rw [hslr]
    have h := hsel.divergences q
    simp only [modLink_slr, hbefore, hof, hselects, true_and] at h
    rw [receivedLink_kept] at h
    exact h
  · have hset : setsDiverged words (receivedLink seq words s.slr) = setsDiverged words s.slr := funext fun q => (hselects q).2.1
    have h := hsel.raised
    simp only [modLink_slr, modLink_sli, hbefore, hset, closeBeforeDelivery_keeps (k := .quantityDiverged) (by decide)] at h
    rw [ht, deliver_keeps (by decide), h]

/-- R22: the frame that is expected is delivered, with none missing before it. -/
theorem exec_expected {h : LinkWord} {e : Byte} (hheld : inReset s = false) (hheader : readHeader h = .data e)
    (hlink : s.slr.link = .flowing ∨ s.slr.link = .late) (hexpected : s.slr.expected = some e) :
    exec (.dataFrame h words) s = .next (deliverReceived e words s) := by
  rw [(exec_linkFrame hheld).1, takeLinkFrame_data hheader, takeData_flowing hlink hexpected, if_pos (by simp), BitVec.sub_self]
  rfl

/-! ## The compare check (R29, R30) -/

theorem compared_iff {l : SampleLink} {pair : PerLink LinkWord} : compared l pair = true ↔
    parityGood (pair.get .a) = true ∧ parityGood (pair.get .b) = true ∧ (l.chains.get .a).status ≠ .failed ∧
      (l.chains.get .b).status ≠ .failed ∧ l.tolerance ≠ 0 := by
  simp [compared, and_assoc]

theorem mismatches_iff {l : SampleLink} {pair : PerLink LinkWord} : mismatches l pair = true ↔
    (l.tolerance : Int) < |(pair.get .a).data.toInt - (pair.get .b).data.toInt| := by
  rw [mismatches, decide_eq_true_iff, Int.abs_eq_natAbs, Int.ofNat_lt]

theorem comparedQuantity_unmade {l : SampleLink} {q : Quantity} (h : compared l (words.get q) = false) : comparedQuantity words l q =
    { l.quantities.get q with lastUsed := usedValue l q (words.get q) } := by
  simp [comparedQuantity, h]

theorem comparedQuantity_mismatch {l : SampleLink} {q : Quantity} (h : compared l (words.get q) = true)
    (hm : mismatches l (words.get q) = true) : comparedQuantity words l q =
    ⟨usedValue l q (words.get q), bump 64 (l.quantities.get q).mismatchRun, 0, (l.quantities.get q).diverged⟩ := by
  simp [comparedQuantity, h, hm, runsAfter, Config.divergeRun]

theorem comparedQuantity_agreement {l : SampleLink} {q : Quantity} (h : compared l (words.get q) = true)
    (hm : mismatches l (words.get q) = false) : comparedQuantity words l q =
    ⟨usedValue l q (words.get q), 0, bump 64 (l.quantities.get q).agreementRun, (l.quantities.get q).diverged⟩ := by
  simp [comparedQuantity, h, hm, runsAfter, Config.divergeRun]

theorem selectedQuantity_lastUsed (l : SampleLink) (q : Quantity) :
    (selectedQuantity words l q).lastUsed = usedValue l q (words.get q) := by
  simp only [selectedQuantity, comparedQuantity, runsAfter]
  (repeat' split) <;> rfl

/-- R30: DIVERGED is set by a mismatch that brings its run to 64. -/
theorem setsDiverged_iff {l : SampleLink} {q : Quantity} (hm : (l.quantities.get q).mismatchRun ≤ 64)
    (hset : (l.quantities.get q).mismatchRun = 64 → (l.quantities.get q).diverged = true) :
    setsDiverged words l q = (compared l (words.get q) && !(l.quantities.get q).diverged &&
      decide (63 ≤ (l.quantities.get q).mismatchRun) && mismatches l (words.get q)) := by
  generalize hr : l.quantities.get q = r at hm hset ⊢
  cases hc : compared l (words.get q) with
  | false =>
    rw [setsDiverged, comparedQuantity_unmade hc, hr]
    by_cases h : r.mismatchRun = 64 <;> simp [h, hset]
  | true =>
    cases hmis : mismatches l (words.get q) with
    | false => simp [setsDiverged, comparedQuantity_agreement hc hmis]
    | true =>
      have hbump : bump 64 r.mismatchRun = 64 ↔ 63 ≤ r.mismatchRun := by
        rw [bump_eq_min hm]
        omega
      rw [setsDiverged, comparedQuantity_mismatch hc hmis, hr]
      by_cases h : 63 ≤ r.mismatchRun
      · simp [h, hbump.mpr h]
      · have hbelow : ¬ bump 64 r.mismatchRun = 64 := mt hbump.mp h
        simp [h, hbelow]

/-- Settles O32. -/
theorem wordsSelectedAndCompared : Obligations.WordsSelectedAndCompared := by
  unfold Obligations.WordsSelectedAndCompared
  refine ⟨?_, ?_, ?_, ?_⟩
  · intro s h w e q hheld hheader hlink hexpected p first second
    have hr := deliverReceived_received e w s
    refine ⟨_, exec_expected hheld hheader hlink hexpected, ?_, ?_, ?_⟩
    · intro hgood
      rw [hr.quantity q, hr.substitutions q, hr.heldWords q, selectedQuantity_lastUsed]
      replace hgood : parityGood ((w.get q).get s.slr.primary) = true := hgood
      simp [usedValue, isSubstitution, isHeld, hgood, first, p]
    · intro hbad hstatus hgood
      rw [hr.quantity q, hr.substitutions q, hr.heldWords q, selectedQuantity_lastUsed]
      replace hbad : parityGood ((w.get q).get s.slr.primary) = false := hbad
      have husable : secondaryUsable s.slr (w.get q) = true := by
        replace hgood : parityGood ((w.get q).get s.slr.primary.other) = true := hgood
        simpa [secondaryUsable, hgood] using hstatus
      simp [usedValue, isSubstitution, isHeld, hbad, husable, second, p]
    · intro hbad hnone
      rw [hr.quantity q, hr.substitutions q, hr.heldWords q, selectedQuantity_lastUsed]
      replace hbad : parityGood ((w.get q).get s.slr.primary) = false := hbad
      have husable : secondaryUsable s.slr (w.get q) = false := by
        simp only [secondaryUsable, Bool.and_eq_false_iff, bne_eq_false_iff_eq]
        exact hnone
      simp [usedValue, isSubstitution, isHeld, hbad, husable]
  · intro s h w e q hheld hheader hlink hexpected r a b made apart
    have hmade : compared s.slr (w.get q) = true ↔ made := compared_iff
    have hapart : mismatches s.slr (w.get q) = true ↔ apart := mismatches_iff
    refine ⟨_, exec_expected hheld hheader hlink hexpected, ?_⟩
    rw [(deliverReceived_received e w s).quantity q]
    clear_value made apart
    refine ⟨fun hnot hmark hagree => ?_, fun h ha hm => ?_, fun h ha hm => ?_⟩
    · have hc : compared s.slr (w.get q) = false := Bool.eq_false_iff.mpr (mt hmade.mp hnot)
      replace hmark : r.mismatchRun = 64 → r.diverged = true := hmark
      simp only [selectedQuantity, setsDiverged, comparedQuantity_unmade hc]
      change r.mismatchRun = r.mismatchRun ∧ r.agreementRun = r.agreementRun ∧
        (r.mismatchRun == 64 && !r.diverged || (r.diverged && !decide (r.agreementRun = 64))) = r.diverged
      refine ⟨rfl, rfl, ?_⟩
      cases hd : r.diverged
      · simpa [hd] using hmark
      · simpa [hd] using hagree
    · simp only [selectedQuantity, setsDiverged, comparedQuantity_mismatch (hmade.mpr h) (hapart.mpr ha)]
      change bump 64 r.mismatchRun = _ ∧ True ∧
        (bump 64 r.mismatchRun == 64 && !r.diverged || (r.diverged && !decide (0 = 64))) = (r.diverged || decide (63 ≤ r.mismatchRun))
      have hbump : (bump 64 r.mismatchRun == 64) = decide (63 ≤ r.mismatchRun) := by
        rw [bump_eq_min hm, Bool.eq_iff_iff]
        simp only [beq_iff_eq, decide_eq_true_eq]
        omega
      refine ⟨bump_eq_min hm, trivial, ?_⟩
      rw [hbump]
      cases r.diverged <;> simp
    · have hagree : mismatches s.slr (w.get q) = false := Bool.eq_false_iff.mpr (mt hapart.mp ha)
      simp only [selectedQuantity, setsDiverged, comparedQuantity_agreement (hmade.mpr h) hagree]
      change True ∧ bump 64 r.agreementRun = _ ∧
        (0 == 64 && !r.diverged || (r.diverged && !decide (bump 64 r.agreementRun = 64))) = (r.diverged && decide (r.agreementRun < 63))
      have hbump : (!decide (bump 64 r.agreementRun = 64)) = decide (r.agreementRun < 63) := by
        rw [bump_eq_min hm, Bool.eq_iff_iff]
        simp only [Bool.not_eq_true', decide_eq_false_iff_not, decide_eq_true_eq]
        omega
      refine ⟨trivial, bump_eq_min hm, ?_⟩
      rw [hbump]
      simp
  · intro s h w c hexp hcount
    obtain ⟨hheld, hlink, e, hexpected, hheader⟩ := hexp
    refine ⟨_, exec_expected hheld hheader hlink hexpected, ?_⟩
    rw [(deliverReceived_received e w s).parityErrors c]
    exact count_iterate _ hcount
  · intro s h w hexp hruns hset hcount diverges many
    obtain ⟨hheld, hlink, e, hexpected, hheader⟩ := hexp
    have hr := deliverReceived_received e w s
    have hdiverges : setsDiverged w s.slr = diverges := by
      funext q
      rw [setsDiverged_iff (hruns q) (hset q), Bool.eq_iff_iff]
      simp only [diverges, Bool.and_eq_true, mismatches_iff, decide_eq_true_eq]
    have hraised := hr.raised
    rw [hdiverges] at hraised
    refine ⟨_, exec_expected hheld hheader hlink hexpected, fun q => ?_, ?_, fun hnone => ?_, fun hsome => ?_⟩
    · rw [hr.divergences q, hdiverges]
    · rw [hraised]
      exact raisedOnce_iterate_count _ hcount
    · rw [hraised, show (Quantity.all.filter diverges).length = 0 from hnone]
      rfl
    · rw [hraised]
      exact raisedOnce_iterate_flag _ hsome

end

end Sys2Proof.Machine

/-! Patched frames (R24), the block of a frame (R31, R34), and a device that watches no voltage. -/

namespace Sys2Proof.Machine

open Safety

section
variable {s t u : State} {words : PerQuantity (PerLink LinkWord)}

/-! ## Outside ACQUIRE and RUN -/

theorem watchVoltage_asleep (ha : s.oc.device ≠ .acquire) (hr : s.oc.device ≠ .run) (b : Branch) (now : Half) :
    watchVoltage b now s = s := if_neg (by simp [ha, hr])

theorem deliver_asleep (ha : s.oc.device ≠ .acquire) (hr : s.oc.device ≠ .run) (used : PerQuantity Half) (held : PerQuantity Bool) :
    deliver used held s = modLink advanceFrame s := by
  have hfed : feedDemand used held (modLink advanceFrame s) = modLink advanceFrame s := if_neg hr
  simp only [deliver, hfed, forBranches, watchVoltage_asleep (s := modLink advanceFrame s) ha hr]

theorem closeBeforeDelivery_asleep (hr : s.oc.device ≠ .run) (used : PerQuantity Half) : closeBeforeDelivery used s = s :=
  closeBeforeDelivery_none used s fun b => by simp [closesBefore, counterRuns, hr]

/-- What no delivery changes outside the receiver, the interface, the tracker and what a closure moves. -/
structure BesideDelivery (s t : State) : Prop where
  inputs : t.pli.inputs = s.pli.inputs
  table : t.table = s.table
  map : t.vlc.map = s.vlc.map
  channels : t.vlc.channels = s.vlc.channels

theorem BesideDelivery.trans (h : BesideDelivery s u) (k : BesideDelivery u t) : BesideDelivery s t :=
  ⟨k.inputs.trans h.inputs, k.table.trans h.table, k.map.trans h.map, k.channels.trans h.channels⟩

theorem modLink_beside (f : SampleLink → SampleLink) (s : State) : BesideDelivery s (modLink f s) := ⟨rfl, rfl, rfl, rfl⟩

theorem deliver_beside (used : PerQuantity Half) (held : PerQuantity Bool) (s : State) : BesideDelivery s (deliver used held s) := by
  constructor <;> simp [deliver, forBranches, watchVoltage_channels]

theorem closeBeforeDelivery_beside (used : PerQuantity Half) (s : State) : BesideDelivery s (closeBeforeDelivery used s) := by
  constructor <;> simp [closeBeforeDelivery_channels]

theorem deliverReceived_beside (seq : Byte) (words : PerQuantity (PerLink LinkWord)) (s : State) :
    BesideDelivery s (deliverReceived seq words s) := by
  obtain ⟨u, hsel, ht⟩ := deliverReceived_delivered seq words s
  have hselected : BesideDelivery (closeBeforeDelivery (usedValues s.slr words) s) u := by
    rw [hsel.rest]
    constructor <;> rfl
  rw [ht]
  exact ((closeBeforeDelivery_beside _ s).trans hselected).trans (deliver_beside _ _ u)

theorem deliverReceived_asleep (ha : s.oc.device ≠ .acquire) (hr : s.oc.device ≠ .run) (seq : Byte)
    (words : PerQuantity (PerLink LinkWord)) :
    deliverReceived seq words s = { s with
        slr := (deliverReceived seq words s).slr, sli := { s.sli with events := (deliverReceived seq words s).sli.events } } ∧
      OtherEventsKept [.quantityDiverged] s (deliverReceived seq words s) := by
  obtain ⟨u, hsel, ht⟩ := deliverReceived_delivered seq words s
  rw [closeBeforeDelivery_asleep hr] at hsel
  have hdevice : u.oc = s.oc := (congrArg State.oc hsel.rest :)
  rw [deliver_asleep (by rwa [hdevice]) (by rwa [hdevice])] at ht
  rw [ht]
  refine ⟨?_, fun k hk => hsel.others k hk⟩
  rw [hsel.rest]
  rfl

/-! ## Patched frames (R24) -/

/-- R24: what frames patched in leave, `n` of them. -/
structure Patched (n : Nat) (s t : State) : Prop where
  kept : t.slr = { s.slr with
    frameIndex := s.slr.frameIndex + BitVec.ofNat 32 n, gap := t.slr.gap, gapRunning := t.slr.gapRunning, link := t.slr.link
    block := t.slr.block, counters := t.slr.counters }
  link : s.slr.link = .flowing ∨ s.slr.link = .late → t.slr.link = .flowing ∨ t.slr.link = .late
  counters : t.slr.counters = { s.slr.counters with
    patched := count32^[n] s.slr.counters.patched, checkMissing := t.slr.counters.checkMissing, heldWords := t.slr.counters.heldWords }
  heldWords : ∀ q, t.slr.counters.heldWords.get q = count32^[n] (s.slr.counters.heldWords.get q)
  beside : BesideDelivery s t
  asleep : s.oc.device ≠ .acquire → s.oc.device ≠ .run → t = { s with slr := t.slr }

theorem Patched.succ {n : Nat} (h : Patched 1 s u) (k : Patched n u t) : Patched (n + 1) s t where
  kept := by
    rw [k.kept, h.kept, BitVec.add_assoc, Nat.add_comm n 1, BitVec.ofNat_add]
  link := fun hl => k.link (h.link hl)
  counters := by
    rw [k.counters, h.counters]
    rfl
  heldWords q := by rw [k.heldWords, h.heldWords]; rfl
  beside := h.beside.trans k.beside
  asleep ha hr := by
    have hu := h.asleep ha hr
    have hoc : u.oc = s.oc := (congrArg State.oc hu :)
    rw [k.asleep (by rwa [hoc]) (by rwa [hoc]), hu]

theorem deliverPatched_patched (seq : Byte) (s : State) : Patched 1 s (deliverPatched seq s) := by
  have hbefore : (closeBeforeDelivery (lastUsedValues s.slr) s).slr = s.slr := by simp
  have hslr : (deliverPatched seq s).slr = advanceFrame (trackBlock seq { s.slr with counters := { s.slr.counters with
      patched := count32 s.slr.counters.patched, heldWords := s.slr.counters.heldWords.mapKey fun _ => count32 } }) := by
    rw [deliverPatched, deliver_slr, modLink_slr, hbefore]
  have htracked := trackBlock_kept seq { s.slr with counters := { s.slr.counters with
    patched := count32 s.slr.counters.patched, heldWords := s.slr.counters.heldWords.mapKey fun _ => count32 } }
  generalize trackBlock seq _ = m at hslr htracked
  refine ⟨?_, fun hl => ?_, ?_, fun q => ?_, ?_, fun ha hr => ?_⟩
  · rw [hslr, htracked]
    rfl
  · rw [hslr, htracked]
    obtain hl | hl := hl <;> simp [advanceFrame, hl]
  · rw [hslr, htracked]
    rfl
  · rw [hslr, htracked]
    simp [advanceFrame]
  · exact ((closeBeforeDelivery_beside _ s).trans (modLink_beside _ _)).trans (deliver_beside _ _ _)
  · rw [deliverPatched, closeBeforeDelivery_asleep hr, deliver_asleep (s := modLink _ s) ha hr]
    rfl

theorem deliverPatches_patched (n : Nat) (seq : Byte) (s : State) : Patched n s (deliverPatches n seq s) := by
  induction n generalizing seq s with
  | zero =>
    refine ⟨?_, id, rfl, fun _ => rfl, ⟨rfl, rfl, rfl, rfl⟩, fun _ _ => rfl⟩
    simp [deliverPatches]
  | succ n ih => exact (deliverPatched_patched seq s).succ (ih _ _)

/-! ## The block of a frame (R31, R34) -/

theorem blockOf_eq (e : Byte) : blockOf e = BitVec.ofNat 5 (e.toNat / 8) := by
  rw [blockOf, field_eq_iff]
  simp

theorem firstOfBlock_iff (e : Byte) : e.extractLsb' 0 3 = 0#3 ↔ e.toNat % 8 = 0 := by
  rw [field_eq_iff]
  simp

theorem receivedLink_block_same {e : Byte} {l : SampleLink} (h : l.block.index = some (blockOf e)) :
    (receivedLink e words l).block = { l.block with
      received := bump 8 l.block.received
      sums := l.block.sums.mapKey fun q sum => sum.mapKey fun c x => x ^^^ ((words.get q).get c).data } ∧
    (receivedLink e words l).counters.checkMissing = l.counters.checkMissing := by
  simp [receivedLink, accumulate, trackBlock, h]

theorem receivedLink_block_other {e : Byte} {l : SampleLink} (h : l.block.index ≠ some (blockOf e)) :
    (receivedLink e words l).block = { newBlock e with
      received := 1
      sums := (newBlock e).sums.mapKey fun q sum => sum.mapKey fun c x => x ^^^ ((words.get q).get c).data } ∧
    (receivedLink e words l).counters.checkMissing =
      if leavesUnjudged e l then count32 l.counters.checkMissing else l.counters.checkMissing := by
  simp only [receivedLink, accumulate, trackBlock, h]
  have hleaves : leavesUnjudged e { l with
    expected := some (e + 1), counters := { l.counters with received := count32 l.counters.received } } = leavesUnjudged e l := rfl
  rw [if_neg (by exact id), hleaves]
  cases leavesUnjudged e l <;> exact ⟨rfl, rfl⟩

theorem leavesUnjudged_iff {e : Byte} {l : SampleLink} :
    leavesUnjudged e l = true ↔ e.toNat % 8 = 0 ∧ l.block.index ≠ none ∧ l.block.judged = false := by
  simp [leavesUnjudged, firstOfBlock_iff, Option.isSome_iff_ne_none, and_assoc]

end

end Sys2Proof.Machine

/-! Frames that confirm no crossing of a voltage, and what a frame brings to the delay lines and the windows (R44, R45, R67, R69). -/

namespace Sys2Proof.Machine

open Safety

section
variable {s t u v : State} {words : PerQuantity (PerLink LinkWord)} {b : Branch} {now : Half}

/-! ## One voltage watched (R44, R45) -/

theorem candidateAt_eq (s : State) (b : Branch) (now : Half) :
    candidateAt (s.ct.tracks.get b) (s.slr.frameIndex + 1) now = candidateAfter s b now.toInt := by
  cases hprevious : (s.ct.tracks.get b).previous with
  | none => simp only [candidateAt, candidateAfter, hprevious]
  | some p =>
    have hindex : s.slr.frameIndex + 1 - 1 = s.slr.frameIndex := by bv_omega
    simp only [candidateAt, candidateAfter, hprevious, hindex, signChange, crossingFraction]
    by_cases hrising : p.toInt < 0 ∧ 0 ≤ now.toInt
    · simp only [if_pos hrising]
    · by_cases hfalling : 0 < p.toInt ∧ now.toInt ≤ 0
      · simp only [if_neg hrising, if_pos hfalling]
      · simp only [if_neg hrising, if_neg hfalling]

theorem confirms_iff {c : Candidate} {x : Int} : confirms s.ct.settings.hysteresis c x = true ↔ Reaches s c x := by
  unfold confirms Reaches
  cases hd : c.direction <;> simp

/-- R44, R45: the candidate of a voltage that a frame leaves where it confirms no crossing. -/
def watchedCandidate (s : State) (b : Branch) (now : Half) : Option Candidate :=
  (candidateAt (s.ct.tracks.get b) s.slr.frameIndex now).filter fun c => !drops c now.toInt

/-- R45: no crossing of the voltage is confirmed at this used value. -/
def Hushed (s : State) (b : Branch) (now : Half) : Prop :=
  ∀ c, candidateAt (s.ct.tracks.get b) s.slr.frameIndex now = some c → confirms s.ct.settings.hysteresis c now.toInt = false

/-- What watching a voltage makes of its branch's items, a crossing apart. -/
def watchedTrack (now : Half) (c : Option Candidate) (x : Track) : Track := { x with previous := some now, candidate := c }

theorem watchVoltage_hushed (hstarted : s.oc.device = .acquire ∨ s.oc.device = .run) (h : Hushed s b now) :
    watchVoltage b now s = modTrack b (watchedTrack now (watchedCandidate s b now)) s := by
  unfold Hushed at h
  unfold watchVoltage watchedCandidate
  rw [if_pos hstarted]
  dsimp only
  generalize candidateAt (s.ct.tracks.get b) s.slr.frameIndex now = x at h
  cases x with
  | none => rfl
  | some c =>
    simp only [h c rfl, Bool.false_eq_true, if_false]
    have hfilter : (some c).filter (fun c => !drops c now.toInt) = if drops c now.toInt = true then none else some c := by
      cases hd : drops c now.toInt <;> simp [Option.filter, hd]
    rw [hfilter]
    split <;> rfl

theorem watchVoltage_confirms {c : Candidate} (hstarted : s.oc.device = .acquire ∨ s.oc.device = .run)
    (hc : candidateAt (s.ct.tracks.get b) s.slr.frameIndex now = some c) (h : confirms s.ct.settings.hysteresis c now.toInt = true) :
    watchVoltage b now s = confirmCrossing b c (modTrack b (watchedTrack now none) s) := by
  unfold watchVoltage
  rw [if_pos hstarted]
  simp only [hc, h, if_true]
  rfl

/-! ## What a frame feeds (R67, R69) -/

theorem usedValues_voltage (s : State) (words : PerQuantity (PerLink LinkWord)) (b : Branch) :
    (usedValues s.slr words).get b.voltage = voltageIn s words b := by simp [usedValues, voltageIn]

theorem willConfirm_iff (h : (usedValues s.slr words).get b.voltage = now) :
    willConfirm s b now = true ↔ ∃ c, Confirms s words b c := by
  rw [usedValues_voltage] at h
  simp only [willConfirm, candidateAt_eq, Option.any_eq_true, confirms_iff, Confirms, h]

theorem willConfirm_of_quiet (h : Quiet s words b) : willConfirm s b ((usedValues s.slr words).get b.voltage) = false := by
  rw [Bool.eq_false_iff]
  intro hc
  obtain ⟨c, hc, hreaches⟩ := (willConfirm_iff rfl).mp hc
  exact h c hc hreaches

/-- R67, R69: the state in which a frame's voltages are watched: the receiver has taken the frame, and in RUN the delay lines and the
open windows have it. -/
structure FrameFed (words : PerQuantity (PerLink LinkWord)) (s v : State) : Prop where
  rest : v = { s with slr := v.slr, bdu := v.bdu, sli := { s.sli with events := v.sli.events } }
  index : v.slr.frameIndex = s.slr.frameIndex + 1
  chains : v.slr.chains = s.slr.chains
  unfed : s.oc.device ≠ .run → v.bdu = s.bdu
  shares : v.bdu.shares = s.bdu.shares
  lines : s.oc.device = .run → v.bdu.lines =
    (if quarterFrames (nominalOf s) ≤ s.bdu.lines.length then s.bdu.lines.tail else s.bdu.lines) ++
      [⟨⟨voltageIn s words .ab, voltageIn s words .bc, voltageIn s words .ca⟩, s.slr.frameIndex + 1⟩]
  windows : s.oc.device = .run → ∀ b, v.bdu.branches.get b = { s.bdu.branches.get b with
    window := (s.bdu.branches.get b).window.map (fedWindow s words (nominalOf s) b) }
  others : OtherEventsKept [.quantityDiverged] s v

theorem bumpBy_eq (limit k n : Nat) : bumpBy limit k n = min limit (n + k) := Nat.min_comm ..

theorem heldAmong_eq (held : PerQuantity Bool) (b : Branch) :
    heldAmong held b = ([b.voltage, b.currentFrom, b.currentTo].filter fun q => held.get q).length := by
  cases hv : held.get b.voltage <;> cases hf : held.get b.currentFrom <;> cases ht : held.get b.currentTo <;>
    simp [heldAmong, hv, hf, ht]

/-- R69: what a frame adds to a window. -/
theorem addFrame_eq_fedWindow (s : State) (words : PerQuantity (PerLink LinkWord)) (b : Branch) :
    addFrame (voltageIn s words b).toInt
      (if decide (quarterFrames (nominalOf s) ≤ s.bdu.lines.length) then
        (s.bdu.lines.head?.map fun e => (e.voltages.get b).toInt).getD 0 else 0)
      ((usedValue s.slr b.currentFrom (words.get b.currentFrom)).toInt - (usedValue s.slr b.currentTo (words.get b.currentTo)).toInt)
      (heldAmong (words.mapKey fun _ pair => isHeld s.slr pair) b) (!decide (quarterFrames (nominalOf s) ≤ s.bdu.lines.length)) =
    fedWindow s words (nominalOf s) b := by
  have hquarter : quarterFrames (nominalOf s) = if nominalOf s = .hz50 then 48 else 40 := by cases nominalOf s <;> rfl
  funext x
  rw [heldAmong_eq]
  simp only [PerQuantity.get_mapKey, addFrame, bumpBy_eq, fedWindow, hquarter, voltageIn]

/-- R67, R69: what a delivery feeds in RUN. -/
theorem feedDemand_run (hrun : s.oc.device = .run) (used : PerQuantity Half) (held : PerQuantity Bool) :
    let full := decide (quarterFrames (nominalOf s) ≤ s.bdu.lines.length)
    (feedDemand used held s).bdu.lines = (if full then s.bdu.lines.tail else s.bdu.lines) ++
      [⟨⟨used.get .vab, used.get .vbc, used.get .vca⟩, s.slr.frameIndex⟩] ∧
    ∀ b, (feedDemand used held s).bdu.branches.get b = { s.bdu.branches.get b with
      window := (s.bdu.branches.get b).window.map (addFrame (used.get b.voltage).toInt
        (if full then (s.bdu.lines.head?.map fun e => (e.voltages.get b).toInt).getD 0 else 0)
        ((used.get b.currentFrom).toInt - (used.get b.currentTo).toInt) (heldAmong held b) (!full)) } := by
  unfold feedDemand
  rw [if_pos hrun]
  refine ⟨?_, fun b => ?_⟩
  · rfl
  · cases b <;> rfl

theorem lastUsedValues_get (l : SampleLink) (q : Quantity) : (lastUsedValues l).get q = (l.quantities.get q).lastUsed := by
  cases q <;> rfl

/-- R22, R27, R69: after the closures due before it a frame is fed, and its three voltages are then watched. -/
theorem deliverReceived_fed (e : Byte) {z : State} (hz : closeBeforeDelivery (usedValues z.slr words) z = s) :
    ∃ v, FrameFed words s v ∧
      deliverReceived e words z = forBranches (fun b => watchVoltage b (voltageIn s words b)) v := by
  obtain ⟨u, hsel, ht⟩ := deliverReceived_delivered e words z
  have hslr : z.slr = s.slr := by simp [← hz]
  rw [hz] at hsel
  rw [hslr] at ht
  have hused (q : Quantity) : (lastUsedValues u.slr).get q = usedValue s.slr q (words.get q) := by
    rw [lastUsedValues_get, hsel.quantity q, if_pos (mem_allQuantities q), modLink_slr, (receivedLink_selects e s.slr q).1,
      selectedQuantity_lastUsed]
  have hkept := hsel.rest
  rw [modLink_slr, receivedLink_kept] at hkept
  have hoc : u.oc = s.oc := (congrArg State.oc hkept :)
  have hbdu : u.bdu = s.bdu := (congrArg State.bdu hkept :)
  have hct : u.ct = s.ct := (congrArg State.ct hkept :)
  have hindex : u.slr.frameIndex = s.slr.frameIndex := (congrArg (·.slr.frameIndex) hkept :)
  have hdevice : (modLink advanceFrame u).oc.device = s.oc.device := (congrArg (·.device) hoc :)
  have hnominal : nominalOf (modLink advanceFrame u) = nominalOf s := by simp [nominalOf, hct]
  refine ⟨feedDemand (lastUsedValues u.slr) (words.mapKey fun _ pair => isHeld s.slr pair) (modLink advanceFrame u),
    ⟨?_, ?_, ?_, ?_, ?_, ?_, ?_, ?_⟩, ?_⟩
  · have hfed (x : State) : feedDemand (lastUsedValues u.slr) (words.mapKey fun _ pair => isHeld s.slr pair) x =
        { x with bdu := (feedDemand (lastUsedValues u.slr) (words.mapKey fun _ pair => isHeld s.slr pair) x).bdu } := by
      unfold feedDemand
      split <;> rfl
    rw [hfed (modLink advanceFrame u)]
    generalize (feedDemand _ _ _).bdu = x
    rw [hkept]
    rfl
  · simp [advanceFrame, hindex]
  · simpa [advanceFrame] using (congrArg (·.slr.chains) hkept :)
  · intro hstill
    have hunfed : ¬ (modLink advanceFrame u).oc.device = .run := by rwa [hdevice]
    rw [feedDemand, if_neg hunfed]
    exact hbdu
  · simp [hbdu]
  · intro hrun
    have h := (feedDemand_run (s := modLink advanceFrame u) (by rwa [hdevice]) (lastUsedValues u.slr)
      (words.mapKey fun _ pair => isHeld s.slr pair)).1
    rw [h, hnominal]
    simp [hbdu, hused, voltageIn, Branch.voltage, advanceFrame, hindex]
  · intro hrun b
    have h := (feedDemand_run (s := modLink advanceFrame u) (by rwa [hdevice]) (lastUsedValues u.slr)
      (words.mapKey fun _ pair => isHeld s.slr pair)).2 b
    rw [h, hnominal, modLink_bdu, hbdu, hused, hused, hused, ← addFrame_eq_fedWindow]
    rfl
  · intro k hk
    simpa using hsel.others k hk
  · rw [ht, deliver]
    simp only [hused]
    rfl

/-! ## The three voltages of a frame -/

/-- Two states differ in what other branches' voltages have been seen to do, and in nothing else. -/
structure WatchedElsewhere (b : Branch) (s t : State) : Prop where
  rest : t = { s with ct := { s.ct with tracks := t.ct.tracks } }
  own : t.ct.tracks.get b = s.ct.tracks.get b
  others : ∀ o, ∃ p c, t.ct.tracks.get o = { s.ct.tracks.get o with previous := p, candidate := c }

theorem WatchedElsewhere.refl (b : Branch) (s : State) : WatchedElsewhere b s s := ⟨rfl, rfl, fun _ => ⟨_, _, rfl⟩⟩

theorem WatchedElsewhere.trans (h : WatchedElsewhere b s u) (k : WatchedElsewhere b u t) : WatchedElsewhere b s t where
  rest := by rw [k.rest, h.rest]
  own := k.own.trans h.own
  others o := by
    obtain ⟨p, c, hp⟩ := h.others o
    obtain ⟨q, d, hq⟩ := k.others o
    exact ⟨q, d, by rw [hq, hp]⟩

theorem watchedTrack_elsewhere {o : Branch} (ho : b ≠ o) (now : Half) (c : Option Candidate) (s : State) :
    WatchedElsewhere b s (modTrack o (watchedTrack now c) s) where
  rest := rfl
  own := by simp [PerBranch.get_set_ne _ _ _ _ ho]
  others k := by
    by_cases hk : k = o
    · exact ⟨some now, c, by simp [hk, watchedTrack]⟩
    · exact ⟨(s.ct.tracks.get k).previous, (s.ct.tracks.get k).candidate, by simp [PerBranch.get_set_ne _ _ _ _ hk]⟩

/-- Another branch's voltage has not been looked at, or the device has halted and looks at none. -/
def Unseen (o : Branch) (s t : State) : Prop :=
  t.oc.device = .halted ∨ (t.ct.tracks.get o).previous = (s.ct.tracks.get o).previous ∧
    (t.ct.tracks.get o).candidate = (s.ct.tracks.get o).candidate

theorem Unseen.of_tracks {o : Branch} (h : t.ct.tracks.get o = s.ct.tracks.get o) : Unseen o s t := .inr (by simp [h])

theorem enterHalted_stops (c : HaltCause) (k : Option Branch) (g : Option Group) (f : Option FailureCause) (s : State) :
    (enterHalted c k g f s).ct = s.ct ∨ (enterHalted c k g f s).oc.device = .halted := by
  by_cases h : s.oc.device = .acquire ∨ s.oc.device = .run
  · exact .inr (by rw [enterHalted_oc _ _ _ _ _ h])
  · rw [not_or] at h
    exact .inl (by rw [enterHalted_elsewhere _ _ _ _ _ h.1 h.2])

theorem failGroup_stops (g : Group) (c : FailureCause) (s : State) :
    (failGroup g c s).ct = s.ct ∨ (failGroup g c s).oc.device = .halted := by
  unfold failGroup
  split
  · exact .inl rfl
  · dsimp only
    split
    · refine (enterHalted_stops _ _ _ _ _).imp_left fun h => h.trans ?_
      simp
    · simp

theorem settleHalfCycle_stops (b : Branch) (s : State) :
    (settleHalfCycle b s).ct = s.ct ∨ (settleHalfCycle b s).oc.device = .halted := by
  unfold settleHalfCycle closeMisfire
  dsimp only
  split
  · split
    · split
      · refine (failGroup_stops _ _ _).imp_left fun h => h.trans ?_
        simp [settle]
      · simp [settle]
    · simp [closeOvertaken]
  · simp
  · simp [settle]

theorem handOverDelay_tracks {o : Branch} (ho : o ≠ b) (kind : ClosureKind) (p : Polarity) (delay start : Nat) (s : State) :
    (handOverDelay b kind p delay start s).ct.tracks.get o = s.ct.tracks.get o := by
  unfold handOverDelay
  (repeat' split) <;> simp [reachCount, PerBranch.get_set_ne _ _ _ _ ho]

theorem finishClosure_tracks {o : Branch} (ho : o ≠ b) (kind : ClosureKind) (ended p : Polarity) (start : Nat) (d : BranchDemand)
    (s : State) : (finishClosure b kind ended p start d s).ct.tracks.get o = s.ct.tracks.get o := by
  simp [finishClosure, handOverDelay_tracks ho, openWindow, moveReadiness]

theorem closeHalfCycle_unseen {o : Branch} (ho : o ≠ b) (kind : ClosureKind) (ended p : Polarity) (start : Nat) (s : State) :
    Unseen o s (closeHalfCycle b kind ended p start s) := by
  unfold closeHalfCycle
  dsimp only
  obtain h | h := settleHalfCycle_stops b s
  · refine .of_tracks ?_
    split
    · simp [finishClosure_tracks ho, h]
    · rw [h]
  · rw [if_neg (by simp [h])]
    exact .inl h

theorem failAcquisition_halts (c : HaltCause) (h : s.oc.device = .acquire) : (failAcquisition c s).oc.device = .halted := by
  rw [failAcquisition, enterHalted_oc _ _ _ _ _ (.inl (by simpa using h))]

theorem confirmCrossing_unseen {o : Branch} (ho : o ≠ b) (c : Candidate) (s : State) : Unseen o s (confirmCrossing b c s) := by
  unfold confirmCrossing
  split
  · next hacquire =>
    cases b
    · unfold acquireCrossing vabCrossing
      dsimp only
      split
      · exact .inr (by simp [lockTrack])
      · exact .inl (failAcquisition_halts _ hacquire)
      · split
        · exact .inl (failAcquisition_halts _ hacquire)
        · exact .of_tracks rfl
    · exact .of_tracks rfl
    · exact .of_tracks rfl
  · unfold runCrossing
    split
    · exact .of_tracks (by simp [startCrossing, clearBranchReadiness, openWindow, PerBranch.get_set_ne _ _ _ _ ho])
    · split
      · have hnoted (f : Track → Track) (kind : ClosureKind) (p q : Polarity) (n : Nat) :
            Unseen o s (closeHalfCycle b kind p q n (modTrack b f s)) := by
          have h := closeHalfCycle_unseen ho kind p q n (modTrack b f s)
          simpa [Unseen, PerBranch.get_set_ne _ _ _ _ ho] using h
        exact hnoted _ _ _ _ _
      · exact .of_tracks (by simp [rejectCrossing, PerBranch.get_set_ne _ _ _ _ ho])
  · exact .of_tracks rfl

/-- A voltage that is hushed stays so while it is not looked at, and watching it concerns its own branch alone. -/
theorem watch_after {o : Branch} (ho : b ≠ o) (hhushed : Hushed s o now) (hslr : t.slr = s.slr) (hsettings : t.ct.settings = s.ct.settings)
    (h : Unseen o s t) : WatchedElsewhere b t (watchVoltage o now t) := by
  by_cases hstarted : t.oc.device = .acquire ∨ t.oc.device = .run
  · obtain hhalted | ⟨hp, hc⟩ := h
    · exact absurd hstarted (by simp [hhalted])
    · have hat : candidateAt (t.ct.tracks.get o) t.slr.frameIndex now = candidateAt (s.ct.tracks.get o) s.slr.frameIndex now := by
        simp only [candidateAt, hp, hc, hslr]
      have hstill : Hushed t o now := by
        intro c
        rw [hat, hsettings]
        exact hhushed c
      rw [watchVoltage_hushed hstarted hstill]
      exact watchedTrack_elsewhere ho _ _ _
  · rw [not_or] at hstarted
    rw [watchVoltage_asleep hstarted.1 hstarted.2]
    exact .refl b t

/-- Where every voltage is hushed, the three of them have been seen and nothing has come of it. -/
theorem forBranches_hushed (now : Branch → Half) (hstarted : s.oc.device = .acquire ∨ s.oc.device = .run)
    (h : ∀ b, Hushed s b (now b)) : forBranches (fun b => watchVoltage b (now b)) s =
      { s with ct := { s.ct with tracks := s.ct.tracks.mapKey fun b => watchedTrack (now b) (watchedCandidate s b (now b)) } } := by
  have hafter {t : State} {o : Branch} (hoc : t.oc = s.oc) (hslr : t.slr = s.slr) (hsettings : t.ct.settings = s.ct.settings)
      (ht : t.ct.tracks.get o = s.ct.tracks.get o) :
      watchVoltage o (now o) t = modTrack o (watchedTrack (now o) (watchedCandidate s o (now o))) t := by
    have hcandidate : watchedCandidate t o (now o) = watchedCandidate s o (now o) := by simp only [watchedCandidate, ht, hslr]
    rw [watchVoltage_hushed (by rwa [hoc]) (by unfold Hushed; rw [ht, hslr, hsettings]; exact h o), hcandidate]
  unfold forBranches
  dsimp only
  rw [hafter (t := s) rfl rfl rfl rfl, hafter (t := modTrack .ab _ s) rfl rfl rfl rfl,
    hafter (t := modTrack .bc _ (modTrack .ab _ s)) rfl rfl rfl rfl]
  rfl

theorem watchVoltage_unseen {o : Branch} (ho : o ≠ b) (now : Half) (h : Unseen o s u) : Unseen o s (watchVoltage b now u) := by
  have hkept (c : Option Candidate) : Unseen o s (modTrack b (watchedTrack now c) u) := by
    simpa [Unseen, PerBranch.get_set_ne _ _ _ _ ho] using h
  by_cases hstarted : u.oc.device = .acquire ∨ u.oc.device = .run
  · by_cases hhushed : Hushed u b now
    · rw [watchVoltage_hushed hstarted hhushed]
      exact hkept _
    · simp only [Hushed, not_forall, Bool.not_eq_false] at hhushed
      obtain ⟨c, hc, hconfirms⟩ := hhushed
      rw [watchVoltage_confirms hstarted hc hconfirms]
      obtain hhalted | ⟨hp, hd⟩ := confirmCrossing_unseen ho c (modTrack b (watchedTrack now none) u)
      · exact .inl hhalted
      · obtain hhalted | hsame := hkept none
        · exact absurd hstarted (by simp [show u.oc.device = .halted from hhalted])
        · exact .inr ⟨hp.trans hsame.1, hd.trans hsame.2⟩
  · rw [not_or] at hstarted
    rwa [watchVoltage_asleep hstarted.1 hstarted.2]

/-- Where the other voltages are hushed, watching the three of them is watching the one. -/
theorem forBranches_watch (now : Branch → Half) (h : ∀ o, o ≠ b → Hushed s o (now o)) :
    ∃ u, WatchedElsewhere b s u ∧
      WatchedElsewhere b (watchVoltage b (now b) u) (forBranches (fun b => watchVoltage b (now b)) s) := by
  have hself (o : Branch) : Unseen o s s := .of_tracks rfl
  have hother {u : State} {o : Branch} (ho : b ≠ o) (hslr : u.slr = s.slr) (hsettings : u.ct.settings = s.ct.settings) (hu : Unseen o s u) :
      WatchedElsewhere b u (watchVoltage o (now o) u) := watch_after ho (h o ho.symm) hslr hsettings hu
  unfold forBranches
  dsimp only
  cases b with
  | ab =>
    refine ⟨s, .refl _ s, ?_⟩
    have hbc := watchVoltage_unseen (o := .bc) (b := .ab) (by decide) (now .ab) (hself .bc)
    have hca := watchVoltage_unseen (o := .ca) (b := .ab) (by decide) (now .ab) (hself .ca)
    exact (hother (o := .bc) (by decide) (by simp) (by simp) hbc).trans
      (hother (o := .ca) (by decide) (by simp) (by simp) (watchVoltage_unseen (by decide) _ hca))
  | bc =>
    refine ⟨_, hother (o := .ab) (by decide) rfl rfl (hself .ab), hother (o := .ca) (by decide) (by simp) (by simp) ?_⟩
    exact watchVoltage_unseen (by decide) _ (watchVoltage_unseen (by decide) _ (hself .ca))
  | ca =>
    refine ⟨_, (hother (o := .ab) (by decide) rfl rfl (hself .ab)).trans
      (hother (o := .bc) (by decide) (by simp) (by simp) ?_), .refl _ _⟩
    exact watchVoltage_unseen (by decide) _ (hself .bc)

/-! ## Expected frames -/

section
variable {z : State} {h : LinkWord}

theorem FrameFed.ct (k : FrameFed words s v) : v.ct = s.ct := (congrArg State.ct k.rest :)

theorem FrameFed.oc (k : FrameFed words s v) : v.oc = s.oc := (congrArg State.oc k.rest :)

theorem FrameFed.hushed (k : FrameFed words s v) (hquiet : Quiet s words b) : Hushed v b (voltageIn s words b) := by
  intro c
  rw [k.ct, k.index, candidateAt_eq, Bool.eq_false_iff, ne_eq, confirms_iff]
  exact hquiet c

/-- No closure is due before a frame that confirms no crossing of a counter at its top (R69). -/
theorem closesBefore_false (hb : Quiet s words b ∨ counterRuns s b = false ∨ countOf s b < topCount s) :
    closesBefore (usedValues s.slr words) s b = false := by
  obtain h | h | h := hb
  · simp [closesBefore, willConfirm_of_quiet h]
  · simp [closesBefore, h]
  · simp [closesBefore, Nat.not_le.mpr h]

/-- R44, R45, R69: an expected frame that confirms no crossing. -/
theorem exec_quiet (hexp : Expected s h) (hstarted : s.oc.device = .acquire ∨ s.oc.device = .run) (hquiet : ∀ b, Quiet s words b) :
    ∃ v, FrameFed words s v ∧ exec (.dataFrame h words) s = .next { v with ct := { s.ct with
      tracks := s.ct.tracks.mapKey fun b => watchedTrack (voltageIn s words b) (watchedCandidate v b (voltageIn s words b)) } } := by
  obtain ⟨hheld, hlink, e, hexpected, hheader⟩ := hexp
  obtain ⟨v, hfed, ht⟩ := deliverReceived_fed (words := words) e
    (closeBeforeDelivery_none _ s fun b => closesBefore_false (.inl (hquiet b)))
  refine ⟨v, hfed, ?_⟩
  rw [exec_expected hheld hheader hlink hexpected, ht,
    forBranches_hushed (voltageIn s words) (by rwa [hfed.oc]) fun b => hfed.hushed (hquiet b), hfed.ct]

/-- The state in which a frame's crossing of one branch's voltage is confirmed: the frame is fed, and the voltage has been seen. -/
structure CrossingSeen (words : PerQuantity (PerLink LinkWord)) (b : Branch) (s x : State) : Prop where
  fed : FrameFed words s { x with ct := s.ct }
  ct : x.ct = { s.ct with tracks := x.ct.tracks }
  own : x.ct.tracks.get b = watchedTrack (voltageIn s words b) none (s.ct.tracks.get b)
  elsewhere : ∀ o, o ≠ b → ∃ p c, x.ct.tracks.get o = { s.ct.tracks.get o with previous := p, candidate := c }

/-- R44, R45, R69: an expected frame that confirms a crossing of one branch's voltage, `s` being the state after any closure due before
it. -/
theorem exec_confirms {c : Candidate} (hexp : Expected z h) (hz : closeBeforeDelivery (usedValues z.slr words) z = s)
    (hstarted : s.oc.device = .acquire ∨ s.oc.device = .run) (hconfirms : Confirms s words b c) (hquiet : ∀ o, o ≠ b → Quiet s words o) :
    ∃ x t, CrossingSeen words b s x ∧ exec (.dataFrame h words) z = .next t ∧ WatchedElsewhere b (confirmCrossing b c x) t := by
  obtain ⟨hheld, hlink, e, hexpected, hheader⟩ := hexp
  obtain ⟨v, hfed, ht⟩ := deliverReceived_fed (words := words) e hz
  obtain ⟨u, hbefore, hafter⟩ := forBranches_watch (b := b) (voltageIn s words) fun o ho => hfed.hushed (hquiet o ho)
  rw [← ht] at hafter
  have hown : u.ct.tracks.get b = s.ct.tracks.get b := by rw [hbefore.own, hfed.ct]
  have hslr : u.slr = v.slr := (congrArg State.slr hbefore.rest :)
  have hoc : u.oc = s.oc := (congrArg State.oc hbefore.rest :).trans hfed.oc
  have hct : u.ct = { s.ct with tracks := u.ct.tracks } := by
    rw [← hfed.ct]
    exact (congrArg State.ct hbefore.rest :)
  have hcandidate : candidateAt (u.ct.tracks.get b) u.slr.frameIndex (voltageIn s words b) = some c := by
    rw [hown, hslr, hfed.index, candidateAt_eq]
    exact hconfirms.1
  have hreaches : confirms u.ct.settings.hysteresis c (voltageIn s words b).toInt = true := by
    rw [hct]
    exact confirms_iff.mpr hconfirms.2
  rw [watchVoltage_confirms (by rwa [hoc]) hcandidate hreaches] at hafter
  refine ⟨modTrack b (watchedTrack (voltageIn s words b) none) u, _, ⟨?_, ?_, ?_, fun o ho => ?_⟩,
    exec_expected hheld hheader hlink hexpected, hafter⟩
  · have hsame : { modTrack b (watchedTrack (voltageIn s words b) none) u with ct := s.ct } = v := by
      rw [← hfed.ct, hbefore.rest]
      rfl
    rwa [hsame]
  · exact congrArg (fun k : Tracker => { k with
      tracks := u.ct.tracks.set b (watchedTrack (voltageIn s words b) none (u.ct.tracks.get b)) }) hct
  · simp [hown]
  · obtain ⟨p, d, hd⟩ := hbefore.others o
    exact ⟨p, d, by simp [PerBranch.get_set_ne _ _ _ _ ho, hd, hfed.ct]⟩

end

end

end Sys2Proof.Machine

/-! Sequential frames, patches, resyncs and new starts of the sample link (R22 to R25, R27, R31, R34, R67 to R69). -/

namespace Sys2Proof.Machine

open Safety

section
variable {s t u : State} {words : PerQuantity (PerLink LinkWord)} {b : Branch}

/-- R22, R24: a frame expected or up to three ahead is delivered after those it shows missing. -/
theorem exec_sequential {h : LinkWord} {seq e : Byte} (hheld : inReset s = false) (hheader : readHeader h = .data seq)
    (hlink : s.slr.link = .flowing ∨ s.slr.link = .late) (hexpected : s.slr.expected = some e) (hahead : (seq - e).toNat ≤ 3) :
    exec (.dataFrame h words) s = .next (deliverReceived seq words (deliverPatches (seq - e).toNat e s)) := by
  rw [(exec_linkFrame hheld).1, takeLinkFrame_data hheader, takeData_flowing hlink hexpected, if_pos hahead]

theorem count32_iterate {n k : Nat} (h : n + k ≤ 4294967295) : count32^[k] n = n + k :=
  (count_iterate k (by omega)).trans (Nat.min_eq_right h)

theorem nominal_cases (n : Nominal) : (if n = .hz50 then 48 else 40) = quarterFrames n := by cases n <;> rfl

/-- Settles O30. -/
theorem sequentialFrameDelivered : Obligations.SequentialFrameDelivered := by
  unfold Obligations.SequentialFrameDelivered
  refine ⟨?_, ?_, ?_, ?_⟩
  · intro s h w seq e hheld hheader hlink hexpected hahead hreceived hpatched
    have hp := deliverPatches_patched (seq - e).toNat e s
    have hr := deliverReceived_received seq w (deliverPatches (seq - e).toNat e s)
    have hbeside := hp.beside.trans (deliverReceived_beside seq w _)
    refine ⟨_, exec_sequential hheld hheader hlink hexpected hahead, ?_⟩
    generalize hu : deliverPatches (seq - e).toNat e s = u at hp hr hbeside ⊢
    have hflow : (if u.slr.link = .late then LinkState.flowing else u.slr.link) = .flowing := by
      obtain hl | hl := hp.link hlink <;> simp [hl]
    have hcounters := hr.counters
    rw [hp.counters] at hcounters
    have hslr := hr.kept
    refine ⟨?_, ?_, ?_, ?_, ?_, ?_, ?_, ?_, ?_, ?_, ?_, ?_, hbeside.inputs, hbeside.table, hbeside.map, hbeside.channels,
      fun ha hrun => ?_⟩
    · rw [hslr, hp.kept, BitVec.ofNat_add, ← BitVec.add_assoc]
      rfl
    · rw [hslr]
    · rw [hslr]
    · rw [hslr]
    · rw [hslr]
      exact hflow
    · rw [hslr, hp.kept]
    · rw [hslr, hp.kept]
    · rw [hslr, hp.kept]
    · rw [hcounters]
      exact bump_of_lt hreceived
    · rw [hcounters]
      exact count32_iterate (by omega)
    · rw [hcounters]
    · rw [hcounters]
    · have hsame := hp.asleep ha hrun
      have hoc : u.oc = s.oc := (congrArg State.oc hsame :)
      have hsli : u.sli = s.sli := (congrArg State.sli hsame :)
      obtain ⟨hrest, hothers⟩ := deliverReceived_asleep (s := u) (by rwa [hoc]) (by rwa [hoc]) seq w
      refine ⟨?_, fun k hk => by rw [hothers k hk, hsli]⟩
      rw [hrest, hsame]
  · intro s h w seq e q hheld hheader hlink hexpected hahead hgood hheldWords
    have hp := deliverPatches_patched (seq - e).toNat e s
    have hr := deliverReceived_received seq w (deliverPatches (seq - e).toNat e s)
    have hprimary : (deliverPatches (seq - e).toNat e s).slr.primary = s.slr.primary := (congrArg SampleLink.primary hp.kept :)
    refine ⟨_, exec_sequential hheld hheader hlink hexpected hahead, ?_⟩
    generalize deliverPatches (seq - e).toNat e s = u at hp hr hprimary ⊢
    constructor
    · rw [hr.heldWords q, hp.heldWords q, if_neg (by simp [isHeld, hprimary, hgood])]
      exact count32_iterate (by omega)
    · rw [hr.quantity q, selectedQuantity_lastUsed]
      simp [usedValue, hprimary, hgood]
  · intro s h w e hheld hheader hlink hexpected hcount block first
    have hblock : blockOf e = block := blockOf_eq e
    have hr := deliverReceived_received e w s
    have hgot : (deliverReceived e w s).slr.block = (receivedLink e w s.slr).block := (congrArg SampleLink.block hr.kept :)
    have hmissing : (deliverReceived e w s).slr.counters.checkMissing = (receivedLink e w s.slr).counters.checkMissing :=
      (congrArg LinkCounters.checkMissing hr.counters :)
    refine ⟨_, exec_expected hheld hheader hlink hexpected, ?_, fun hsame => ?_, fun hother => ?_⟩
    · by_cases hsame : s.slr.block.index = some (blockOf e)
      · rw [hgot, (receivedLink_block_same hsame).1, ← hblock]
        exact hsame
      · rw [hgot, (receivedLink_block_other hsame).1, ← hblock]
        rfl
    · obtain ⟨hb, hm⟩ := receivedLink_block_same (words := w) (hblock ▸ hsame)
      rw [hgot, hmissing, hb, hm]
      exact ⟨bump_eq_min hcount, rfl, fun q c => by simp, rfl⟩
    · obtain ⟨hb, hm⟩ := receivedLink_block_other (words := w) (hblock ▸ hother)
      rw [hgot, hmissing, hb, hm]
      refine ⟨rfl, rfl, fun q c => by simp [newBlock], ?_⟩
      by_cases hleaves : leavesUnjudged e s.slr = true
      · rw [if_pos hleaves, if_pos (leavesUnjudged_iff.mp hleaves)]
      · rw [if_neg hleaves, if_neg (mt leavesUnjudged_iff.mpr hleaves)]
  · intro s h w n hexp hrun hnominal hquiet full u
    have hof : nominalOf s = n := by simp [nominalOf, hnominal]
    obtain ⟨v, hfed, ht⟩ := exec_quiet hexp (.inr hrun) hquiet
    refine ⟨_, ht, hfed.oc, ?_, fun b => ?_⟩
    · have hlines := hfed.lines hrun
      rw [hof] at hlines
      refine hlines.trans ?_
      simp only [full, nominal_cases, decide_eq_true_eq]
    · intro delayed held fed
      have hwindow := hfed.windows hrun b
      rw [hof] at hwindow
      exact hwindow

/-! ## Resyncs and new starts (R23, R25) -/

/-- R23, R25: the state a frame after a break is delivered in: the measurement is broken off, and the receiver's items stand as `f` leaves
them, with a new block begun. -/
def broken (seq : Byte) (f : SampleLink → SampleLink) (s : State) : State := modLink (fun l => startBlock seq (f l)) (measurementBreak s)

/-- R46: with no voltage half seen, none is confirmed. -/
theorem quiet_of_unseen (hprevious : (s.ct.tracks.get b).previous = none) (hcandidate : (s.ct.tracks.get b).candidate = none) :
    Quiet s words b := by
  intro c hc
  simp [candidateAfter, hprevious, hcandidate] at hc

theorem broken_quiet (seq : Byte) (f : SampleLink → SampleLink) (s : State) (b : Branch) : Quiet (broken seq f s) words b := by
  refine quiet_of_unseen ?_ ?_ <;> simp [broken, measurementBreak, breakTracking]

/-- What a frame after a break leaves outside the tracker. -/
theorem deliverReceived_broken (seq : Byte) (f : SampleLink → SampleLink) (s : State) :
    ∃ v, FrameFed words (broken seq f s) v ∧
      deliverReceived seq words (broken seq f s) = { v with ct := (deliverReceived seq words (broken seq f s)).ct } := by
  have hquiet := broken_quiet (words := words) seq f s
  generalize broken seq f s = x at hquiet ⊢
  obtain ⟨v, hfed, ht⟩ := deliverReceived_fed (words := words) seq
    (closeBeforeDelivery_none _ x fun b => closesBefore_false (.inl (hquiet b)))
  refine ⟨v, hfed, ?_⟩
  by_cases hstarted : v.oc.device = .acquire ∨ v.oc.device = .run
  · rw [ht, forBranches_hushed (voltageIn x words) hstarted fun b => hfed.hushed (hquiet b)]
  · rw [not_or] at hstarted
    simp only [ht, forBranches, watchVoltage_asleep hstarted.1 hstarted.2]

/-- R23: a new start lets the link flow and is counted; a resync (R25) is no new start. -/
def restartLink (new : Bool) (l : SampleLink) : SampleLink :=
  if new then { l with link := .flowing, counters := { l.counters with newStarts := count32 l.counters.newStarts } } else l

/-- R23, R25: a frame far ahead and the first frame after a loss break the measurement off. -/
theorem exec_broken {h : LinkWord} {seq : Byte} (hheld : inReset s = false) (hheader : readHeader h = .data seq)
    (hbreaks : (∃ e, s.slr.expected = some e ∧ (s.slr.link = .flowing ∨ s.slr.link = .late) ∧ 4 ≤ (seq - e).toNat ∧
      (seq - e).toNat ≤ 127) ∨ s.slr.link = .lost) :
    exec (.dataFrame h words) s = .next (deliverReceived seq words (broken seq (restartLink (s.slr.link == .lost)) s)) ∧
      (s.slr.link = .flowing ∨ s.slr.link = .late ∨ s.slr.link = .lost) := by
  rw [(exec_linkFrame hheld).1, takeLinkFrame_data hheader]
  obtain ⟨e, hexpected, hlink, hfar, hnear⟩ | hlost := hbreaks
  · have hfound : s.slr.link = .flowing ∨ s.slr.link = .late ∨ s.slr.link = .lost := by tauto
    refine ⟨?_, hfound⟩
    have hnot : (s.slr.link == .lost) = false := by obtain h | h := hlink <;> simp [h]
    rw [takeData_flowing hlink hexpected, if_neg (by omega), if_pos hnear, hnot]
    rfl
  · refine ⟨?_, .inr (.inr hlost)⟩
    have hnew : (s.slr.link == .lost) = true := by simp [hlost]
    have htaken : takeData seq words s = newStart seq words s := by
      unfold takeData
      simp only [hlost]
    rw [htaken, newStart, if_pos hlost, hnew]
    rfl

/-- What a break leaves of the receiver's items before its frame. -/
theorem broken_slr (seq : Byte) (new : Bool) (s : State) : (broken seq (restartLink new) s).slr = { s.slr with
    link := if new then .flowing else s.slr.link, block := newBlock seq
    counters := { s.slr.counters with
      resyncs := count32 s.slr.counters.resyncs
      newStarts := if new then count32 s.slr.counters.newStarts else s.slr.counters.newStarts } } := by
  have hbroken : (measurementBreak s).slr =
      { s.slr with counters := { s.slr.counters with resyncs := count32 s.slr.counters.resyncs } } := by
    simp [measurementBreak, breakTracking, flushLines, modLinkCounters]
  rw [broken, modLink_slr, hbroken]
  cases new <;> rfl

theorem broken_windows (seq : Byte) (f : SampleLink → SampleLink) (s : State) (b : Branch) :
    (broken seq f s).bdu.branches.get b = { s.bdu.branches.get b with window := (s.bdu.branches.get b).window.map markResync } := by
  simp only [broken, measurementBreak, breakTracking, markWindows_eq]
  cases b <;> rfl

theorem broken_rest (seq : Byte) (f : SampleLink → SampleLink) (s : State) : (broken seq f s).oc = s.oc ∧
    (broken seq f s).bdu.lines = [] ∧
    (broken seq f s).sli.events.get .linkResync = ⟨true, bump 255 (s.sli.events.get .linkResync).count⟩ := by
  refine ⟨?_, ?_, ?_⟩
  · simp [broken]
  · simp [broken, measurementBreak, breakTracking, markWindows_eq, flushLines]
  · simp [broken, measurementBreak, raise_events_self, breakTracking, markWindows_eq, flushLines]

/-- R190: a kind of event that no branch of the device raises stands. -/
theorem PerEvent.ext_get {α : Type} {x y : PerEvent α} (h : ∀ k, x.get k = y.get k) : x = y := by
  cases x
  cases y
  simp only [PerEvent.mk.injEq]
  exact ⟨h .linkLate, h .linkLost, h .linkResync, h .blockCheckError, h .channelFailed, h .primarySwitched, h .quantityDiverged,
    h .acquireDone, h .acquireFailed, h .crossingRejected, h .crossingSynthesized, h .syncLost, h .branchFallback, h .demandSaturated,
    h .lateDecision, h .misfire, h .refusal, h .selfFired, h .strayAck, h .polarityMismatch, h .groupFailed, h .channelSilent,
    h .valveStatusChanged, h .plantLineChanged, h .presetApplied, h .presetCancelled, h .halted, h .captureFrozen, h .hostFrameError⟩

/-- Settles O31. -/
theorem resyncAndNewStart : Obligations.ResyncAndNewStart := by
  unfold Obligations.ResyncAndNewStart
  refine ⟨?_, ?_⟩
  · intro s h w seq hheld hheader hbreaks
    obtain ⟨hexec, hlink⟩ := exec_broken (words := w) hheld hheader hbreaks
    generalize hf : restartLink (s.slr.link == .lost) = f at hexec
    have hslr := broken_slr seq (s.slr.link == .lost) s
    rw [hf] at hslr
    have hwindows := broken_windows seq f s
    obtain ⟨hoc, hlines, hevent⟩ := broken_rest seq f s
    obtain ⟨v, hfed, ht⟩ := deliverReceived_broken (words := w) seq f s
    have hr := deliverReceived_received seq w (broken seq f s)
    generalize broken seq f s = x at *
    generalize deliverReceived seq w x = t at *
    have hblock : x.slr.block = newBlock seq := (congrArg SampleLink.block hslr :)
    obtain ⟨hgot, hmissing⟩ := receivedLink_block_same (words := w) (l := x.slr) (e := seq) (by rw [hblock]; rfl)
    have hcounters := hr.counters
    rw [hmissing] at hcounters
    have hkept := hr.kept
    rw [hgot] at hkept
    have hlast (q : Quantity) : (t.slr.quantities.get q).lastUsed = usedValue x.slr q (w.get q) := by
      rw [hr.quantity, selectedQuantity_lastUsed]
    have hbdu : t.bdu = v.bdu := (congrArg State.bdu ht :)
    have hevents : t.sli.events = v.sli.events := (congrArg (·.sli.events) ht :)
    have hdevice : t.oc = s.oc := (congrArg State.oc ht :).trans (hfed.oc.trans hoc)
    have hresync : t.sli.events.get .linkResync = ⟨true, bump 255 (s.sli.events.get .linkResync).count⟩ := by
      rw [hevents, hfed.others _ (by decide), hevent]
    refine ⟨t, hexec, ?_, ?_, ?_, ?_, ?_, ?_, ?_, ?_, ?_, ?_, ?_, ?_, fun hstill => ?_, fun hrun => ⟨?_, ?_, fun b y hy => ?_⟩⟩
    · rw [hkept, hslr]
    · rw [hkept]
    · rw [hkept, hslr]
      obtain hl | hl | hl := hlink <;> simp [hl]
    · rw [hkept]
    · rw [hkept, hblock]
      rfl
    · rw [hkept, hblock]
      rfl
    · rw [hkept, hblock]
      rfl
    · rw [hcounters, hslr]
    · rw [hcounters, hslr]
    · rw [hcounters, hslr]
      simp
    · rw [hresync]
    · rw [hresync]
    · rw [hbdu, hfed.unfed (by rwa [hoc]), hlines]
    · rw [hdevice, hrun]
    · have hindex : t.slr.frameIndex = x.slr.frameIndex + 1 := (congrArg SampleLink.frameIndex hkept :)
      rw [hbdu, hfed.lines (by rwa [hoc]), hlines, hlast, hlast, hlast, hindex]
      simp [voltageIn, Branch.voltage]
    · refine ⟨fedWindow x w (nominalOf x) b (markResync y), ?_, rfl, rfl⟩
      rw [hbdu, hfed.windows (by rwa [hoc]) b, hwindows, hy]
      rfl
  · intro s h w seq hheld hheader hsilent ha hrun hruns
    have hstart : exec (.dataFrame h w) s = .next (deliverReceived seq w (modLink (fun l => startBlock seq { l with
        link := .flowing, counters := { l.counters with newStarts := count32 l.counters.newStarts } }) s)) := by
      rw [(exec_linkFrame hheld).1, takeLinkFrame_data hheader, takeData]
      simp only [hsilent]
      rw [newStart, if_neg (by simp [hsilent])]
    generalize hx : modLink (fun l => startBlock seq { l with
      link := .flowing, counters := { l.counters with newStarts := count32 l.counters.newStarts } }) s = x at hstart
    have hslr : x.slr = startBlock seq { s.slr with
      link := .flowing, counters := { s.slr.counters with newStarts := count32 s.slr.counters.newStarts } } := by rw [← hx]; rfl
    have hoc : x.oc = s.oc := by rw [← hx]; rfl
    have hsli : x.sli = s.sli := by rw [← hx]; rfl
    have hrest : x = { s with slr := x.slr } := by rw [← hx]; rfl
    have hr := deliverReceived_received seq w x
    obtain ⟨hasleep, hothers⟩ := deliverReceived_asleep (s := x) (by rwa [hoc]) (by rwa [hoc]) seq w
    generalize deliverReceived seq w x = t at *
    have hnone : Quantity.all.filter (setsDiverged w x.slr) = [] := by
      refine List.filter_eq_nil_iff.mpr fun q _ => ?_
      have hq : (x.slr.quantities.get q).mismatchRun < 63 := by
        rw [hslr]
        exact hruns q
      rw [setsDiverged_iff (by omega) (by omega)]
      simp [Nat.not_le.mpr hq]
    have hevents : t.sli.events = s.sli.events := PerEvent.ext_get fun k => by
      by_cases hk : k = .quantityDiverged
      · rw [hk, hr.raised, hnone, hsli]
        rfl
      · rw [hothers k (by simpa using hk), hsli]
    have hblock : x.slr.block = newBlock seq := (congrArg SampleLink.block hslr :)
    obtain ⟨hgot, -⟩ := receivedLink_block_same (words := w) (l := x.slr) (e := seq) (by rw [hblock]; rfl)
    have hcounters := hr.counters
    have hkept := hr.kept
    rw [hgot] at hkept
    refine ⟨t, hstart, ?_, ?_, ?_, ?_, ?_, ?_, ?_, ?_⟩
    · rw [hasleep, hevents, hrest, ← hsli]
    · rw [hkept, hslr]
      rfl
    · rw [hkept, hslr]
      rfl
    · rw [hkept]
    · rw [hcounters, hslr]
      rfl
    · rw [hcounters, hslr]
      rfl
    · rw [hkept, hblock]
      rfl
    · rw [hkept, hblock]
      rfl

end

end Sys2Proof.Machine

/-! Acquisition: candidates, crossings, lock and its failures (R44 to R53). -/

namespace Sys2Proof.Machine

open Safety

section
variable {s t u x : State} {words : PerQuantity (PerLink LinkWord)} {b : Branch}

/-! ## A failed acquisition (R5, R52) -/

theorem enterHalted_raises (c : HaltCause) (b : Option Branch) (g : Option Group) (f : Option FailureCause)
    (h : s.oc.device = .acquire ∨ s.oc.device = .run) :
    (enterHalted c b g f s).sli.events.get .halted = ⟨true, bump 255 (s.sli.events.get .halted).count⟩ := by
  rw [enterHalted, if_pos h]
  dsimp only
  rw [cancelLatch_events_ne _ (k := .halted) (by decide), raise_events_self _ _ (by decide)]
  simp

/-- R5, R8: what a failed acquisition leaves. -/
structure AcquisitionFailed (c : HaltCause) (s t : State) : Prop where
  oc : t.oc = ⟨.halted, ⟨c, none, none, none, some s.slr.frameIndex⟩, false, true, s.oc.lockFrequency⟩
  progress : t.ct.progress = .empty
  nominal : t.ct.nominal = none
  latch : t.pli.latch = none
  idle : ∀ b, BranchIdle t b
  failed : t.sli.events.get .acquireFailed = ⟨true, bump 255 (s.sli.events.get .acquireFailed).count⟩
  halted : t.sli.events.get .halted = ⟨true, bump 255 (s.sli.events.get .halted).count⟩
  others : OtherEventsKept [.acquireFailed, .halted, .presetCancelled, .captureFrozen] s t

theorem failAcquisition_fails (c : HaltCause) (h : s.oc.device = .acquire) : AcquisitionFailed c s (failAcquisition c s) := by
  have hstarted : (raise .acquireFailed s).oc.device = .acquire ∨ (raise .acquireFailed s).oc.device = .run := .inl (by simpa using h)
  have hct := enterHalted_tracks c none none none _ hstarted
  refine ⟨?_, ?_, ?_, enterHalted_latch _ _ _ _ hstarted, enterHalted_idle _ _ _ _ hstarted, ?_, ?_, fun k hk => ?_⟩
  · rw [failAcquisition, enterHalted_oc _ _ _ _ _ hstarted]
    simp [h, trips]
  · rw [failAcquisition, hct]
  · rw [failAcquisition, hct]
  · rw [failAcquisition, enterHalted_events _ _ _ _ _ _ (by decide) (by decide) (by decide), raise_events_self _ _ (by decide)]
  · rw [failAcquisition, enterHalted_raises _ _ _ _ hstarted, raise_events_ne _ _ _ (by decide) (by decide)]
  · simp only [List.mem_cons, List.not_mem_nil, not_or, or_false] at hk
    obtain ⟨hfailed, hhalted, hcancelled, hfrozen⟩ := hk
    rw [failAcquisition, enterHalted_events _ _ _ _ _ _ hhalted hcancelled hfrozen, raise_events_ne _ _ _ hfailed hfrozen]

/-! ## Lock (R4, R53) -/

/-- R4, R53: what lock leaves. -/
structure Locked (n : Nominal) (s t : State) : Prop where
  oc : t.oc = { s.oc with device := .run, lockFrequency := some n, fallbackActive := true }
  nominal : t.ct.nominal = some n
  progress : t.ct.progress = .empty
  lines : t.bdu.lines = []
  done : t.sli.events.get .acquireDone = ⟨true, bump 255 (s.sli.events.get .acquireDone).count⟩
  track : ∀ b, t.ct.tracks.get b = lockTrack n (s.ct.tracks.get b)
  branch : ∀ b, t.bdu.branches.get b = runDemand (!noCauses (s.causes.get b)) (s.bdu.branches.get b)

theorem lock_locks (n : Nominal) (s : State) : Locked n s (lock n s) where
  oc := by
    have hlevel : fallbackLevel (lock n s) = true := by
      have hab : (lock n s).bdu.branches.ab = runDemand (!noCauses (s.causes.get .ab)) s.bdu.branches.ab := lock_branch s n .ab
      have hnot : followsFurnace (lock n s).bdu.branches.ab.state = false := by
        rw [hab]
        simp only [runDemand]
        split <;> rfl
      simp [fallbackLevel, PerBranch.toList, hnot]
    have hrefreshed : (lock n s).oc.fallbackActive = fallbackLevel (lock n s) := rfl
    have hrest : (lock n s).oc = { s.oc with
        device := .run, lockFrequency := some n, fallbackActive := (lock n s).oc.fallbackActive } := by simp [lock, refreshLines]
    rw [hrest, hrefreshed, hlevel]
  nominal := lock_nominal ..
  progress := by simp [lock]
  lines := by simp [lock]
  done := by simp [lock, raise_events_self, abandonFiring, flushLines]
  track := lock_track s n
  branch := lock_branch s n

/-! ## The evaluation of lock (R48 to R51) -/

/-- Two numbers lie within a distance of each other, both ends included. -/
def nearTo (i j : Int) (by_ : Nat) : Bool := decide (i - j ≤ by_ ∧ j - i ≤ by_)

/-- R50: four intervals within 32 of a half-period, each of the last three within 16 of the one before it. -/
def inBand (l : List Int) (x : Int) : Bool :=
  l.length == 4 && l.all (fun i => nearTo i x 32) && ((l.zip l.tail).all fun ij => nearTo ij.1 ij.2 16)

theorem within_iff {k : Nat} {target x : Int} : within k target x = true ↔ x - target ≤ k ∧ target - x ≤ k := by
  simp only [within, decide_eq_true_eq]
  omega

theorem nearTo_iff {i j : Int} {k : Nat} : nearTo i j k = true ↔ i - j ≤ k ∧ j - i ≤ k := by simp [nearTo]

theorem within_eq (k : Nat) (target x : Int) : within k target x = nearTo x target k := by
  rw [Bool.eq_iff_iff, within_iff, nearTo_iff]

theorem nearTo_comm (i j : Int) (k : Nat) : nearTo i j k = nearTo j i k := by
  rw [Bool.eq_iff_iff, nearTo_iff, nearTo_iff, and_comm]

theorem inBand_exclusive {l : List Int} (h50 : inBand l 1536 = true) (h60 : inBand l 1280 = true) : False := by
  simp only [inBand, Bool.and_eq_true, beq_iff_eq, List.all_eq_true] at h50 h60
  match l, h50.1.1 with
  | i :: _, _ =>
    have hslow := nearTo_iff.mp (h50.1.2 i (.head _))
    have hfast := nearTo_iff.mp (h60.1.2 i (.head _))
    omega

theorem autoFinding_eq (p : Progress) : autoFinding p =
    if inBand p.intervals 1536 = true then some .hz50 else if inBand p.intervals 1280 = true then some .hz60 else none := by
  unfold autoFinding
  split
  · next i1 i2 i3 i4 h =>
    rw [h]
    simp only [within_eq, inBand, nearTo_comm i2 i1, nearTo_comm i3 i2, nearTo_comm i4 i3]
    by_cases hsteps : nearTo i1 i2 16 = true ∧ nearTo i2 i3 16 = true ∧ nearTo i3 i4 16 = true
    · simp [hsteps]
    · have hleft := hsteps
      rw [← and_assoc] at hleft
      simp [hsteps, hleft]
  · next hnot =>
    have hlength (x : Int) : inBand p.intervals x = false := by
      match h : p.intervals with
      | [] | [_] | [_, _] | [_, _, _] => simp [inBand]
      | [i1, i2, i3, i4] => exact absurd h (hnot i1 i2 i3 i4)
      | _ :: _ :: _ :: _ :: _ :: _ => simp [inBand]
    simp [hlength]

theorem fixedFinding_eq (n : Nominal) (p : Progress) : fixedFinding n p =
    if (p.intervals.getLast?.map fun i => nearTo i (halfPeriod n) 64).getD false = true then .lock n else .nothing := by
  unfold fixedFinding
  cases p.intervals.getLast? <;> simp [within_eq]

theorem bothNear_eq (vab : Position) (pm target : Int) (l : List Position) :
    bothNear vab pm target l = (l.length == 2 && l.all fun q => nearTo (phaseOffset vab pm q) target 48) := by
  unfold bothNear
  split
  · simp [within_eq]
  · next hnot =>
    match l with
    | [] | [_] => simp
    | [q1, q2] => exact absurd rfl (hnot q1 q2)
    | _ :: _ :: _ :: _ => simp

/-- R48: the newest four of the intervals and the one that has just ended. -/
theorem countCrossing_intervals (q : Position) (p : Progress) (h : p.intervals.length ≤ 4) :
    (countCrossing q p).intervals = (p.intervals ++ (p.previousVab.map fun v => distance v q).toList).drop
      ((p.intervals ++ (p.previousVab.map fun v => distance v q).toList).length - 4) := by
  unfold countCrossing
  cases p.previousVab with
  | none => simp [Nat.sub_eq_zero_of_le h]
  | some v =>
    match hl : p.intervals, h with
    | [], _ | [_], _ | [_, _], _ | [_, _, _], _ | [_, _, _, _], _ => rfl

/-! ## A crossing of VAB (R48 to R53) -/

/-- What a confirmed crossing of VAB comes to, `counted` being the state with the crossing counted. -/
theorem vabCrossing_eq (q : Position) (s : State) : vabCrossing q s =
    let counted : State := { s with ct := { s.ct with progress := countCrossing q s.ct.progress } }
    match lockFinding s.ct.settings.mode (countCrossing q s.ct.progress) with
    | .lock n => lock n counted
    | .phaseOrder => failAcquisition .phaseOrder counted
    | .nothing => if 24 ≤ s.ct.progress.crossings + 1 then failAcquisition .acquireFailed counted else counted := rfl

/-- R45: a candidate stands at a value that is not on its old side. -/
theorem drops_eq_false_iff {c : Candidate} {x : Int} :
    drops c x = false ↔ (c.direction = .rising → 0 ≤ x) ∧ (c.direction = .falling → x ≤ 0) := by
  cases hd : c.direction <;> simp [drops, hd]

/-- R48: the state in which lock is evaluated, the progress of `s` having counted a crossing at `q`. -/
def counted (q : Position) (s x : State) : State := { x with ct := { x.ct with progress := countCrossing q s.ct.progress } }

/-- What a lock that a frame brought leaves, the other voltages watched after it. -/
theorem Locked.watched {n : Nominal} (h : Locked n u x) (k : WatchedElsewhere b x t) :
    t.oc = { u.oc with device := .run, lockFrequency := some n, fallbackActive := true } ∧ t.ct.nominal = some n ∧
      t.ct.progress = .empty ∧ t.bdu.lines = [] ∧
      t.sli.events.get .acquireDone = ⟨true, bump 255 (u.sli.events.get .acquireDone).count⟩ ∧
      ∀ b, (t.ct.tracks.get b).period = some (if n = .hz50 then 1536 else 1280) ∧ (t.ct.tracks.get b).counter = none ∧
        (t.ct.tracks.get b).sync = .waiting ∧ (t.ct.tracks.get b).polarity = none ∧
        (t.bdu.branches.get b).state = (if u.causes.get b = .empty then .fallback else .blocked) ∧
        (t.bdu.branches.get b).decision = none := by
  refine ⟨?_, ?_, ?_, ?_, ?_, fun o => ?_⟩
  · rw [k.rest, ← h.oc]
  · rw [k.rest, ← h.nominal]
  · rw [k.rest, ← h.progress]
  · rw [k.rest, ← h.lines]
  · rw [k.rest, ← h.done]
  · obtain ⟨p, d, hp⟩ := k.others o
    have hbranch : t.bdu.branches.get o = runDemand (!noCauses (u.causes.get o)) (u.bdu.branches.get o) := by
      rw [k.rest, ← h.branch]
    have hperiod : halfPeriod n = if n = .hz50 then 1536 else 1280 := by cases n <;> rfl
    rw [hp, hbranch, h.track o]
    refine ⟨congrArg some hperiod, rfl, rfl, rfl, ?_, rfl⟩
    by_cases hset : u.causes.get o = .empty
    · rw [if_pos hset, (noCauses_iff _).mpr hset]
      rfl
    · rw [if_neg hset, (noCauses_false_iff _).mpr hset]
      rfl

/-- What a failed acquisition that a frame brought leaves. -/
theorem AcquisitionFailed.watched {c : HaltCause} (h : AcquisitionFailed c u x) (k : WatchedElsewhere b x t) :
    t.oc = ⟨.halted, ⟨c, none, none, none, some u.slr.frameIndex⟩, false, true, u.oc.lockFrequency⟩ ∧ t.ct.progress = .empty ∧
      t.sli.events.get .acquireFailed = ⟨true, bump 255 (u.sli.events.get .acquireFailed).count⟩ := by
  refine ⟨?_, ?_, ?_⟩
  · rw [k.rest, ← h.oc]
  · rw [k.rest, ← h.progress]
  · rw [k.rest, ← h.failed]

/-! ## What lock finds, by the band (R50) -/

theorem autoFinding_slow {p : Progress} (h50 : inBand p.intervals 1536 = true) : autoFinding p = some .hz50 := by
  rw [autoFinding_eq, if_pos h50]

theorem autoFinding_fast {p : Progress} (h60 : inBand p.intervals 1280 = true) : autoFinding p = some .hz60 := by
  rw [autoFinding_eq, if_neg fun h50 => inBand_exclusive h50 h60, if_pos h60]

theorem autoFinding_neither {p : Progress} (h50 : inBand p.intervals 1536 = false) (h60 : inBand p.intervals 1280 = false) :
    autoFinding p = none := by
  rw [autoFinding_eq, h50, h60]
  rfl

/-! ## The commands -/

/-- R52: the time limit. -/
theorem exec_acquireTimeout (hheld : inReset s = false) (hacquire : s.oc.device = .acquire) : ∃ t, exec .acquireTimeout s = .next t ∧
    t.oc = ⟨.halted, ⟨.acquireTimeout, none, none, none, some s.slr.frameIndex⟩, false, true, s.oc.lockFrequency⟩ ∧
    t.ct.progress = .empty ∧ t.ct.nominal = none ∧ t.pli.latch = none ∧ (∀ b, BranchIdle t b) ∧
    t.sli.events.get .acquireFailed = ⟨true, bump 255 (s.sli.events.get .acquireFailed).count⟩ ∧
    t.sli.events.get .halted = ⟨true, bump 255 (s.sli.events.get .halted).count⟩ ∧
    OtherEventsKept [.acquireFailed, .halted, .presetCancelled, .captureFrozen] s t ∧
    t.causes = s.causes ∧ t.slr = s.slr ∧ t.table = s.table ∧ t.vlc.map = s.vlc.map ∧ t.hr.ring = s.hr.ring := by
  have hexec : exec .acquireTimeout s = .next (acquisitionTimeout s) := congrArg Host.Outcome.next (running_free _ s hheld)
  have h := failAcquisition_fails .acquireTimeout (s := { s with ct := { s.ct with
    progress := { s.ct.progress with elapsed := Config.acquireLimit } } }) hacquire
  rw [acquisitionTimeout, if_pos hacquire] at hexec
  refine ⟨_, hexec, h.oc, h.progress, h.nominal, h.latch, h.idle, h.failed, h.halted, h.others, ?_⟩
  simp

/-- R44, R45: the candidate that stands after a frame that confirms none. -/
theorem watchedCandidate_eq {words : PerQuantity (PerLink LinkWord)} {v : State} (hfed : FrameFed words s v) (b : Branch) (y : Half) :
    watchedCandidate v b y = (candidateAfter s b y.toInt).filter fun c =>
      decide ((c.direction = .rising → 0 ≤ y.toInt) ∧ (c.direction = .falling → y.toInt ≤ 0)) := by
  have hstays (c : Candidate) : (!drops c y.toInt) =
      decide ((c.direction = .rising → 0 ≤ y.toInt) ∧ (c.direction = .falling → y.toInt ≤ 0)) := by
    rw [Bool.eq_iff_iff, Bool.not_eq_true', drops_eq_false_iff, decide_eq_true_eq]
  rw [watchedCandidate, hfed.ct, hfed.index, candidateAt_eq]
  exact congrArg (Option.filter · (candidateAfter s b y.toInt)) (funext hstays)

section
variable {h : LinkWord} {words : PerQuantity (PerLink LinkWord)} {c : Candidate} (hexp : Expected s h) (hacquire : s.oc.device = .acquire)
  (hconfirms : Confirms s words b c) (hquiet : ∀ o, o ≠ b → Quiet s words o)
include hexp hacquire hconfirms hquiet

/-- R45, R47: a crossing confirmed in ACQUIRE. -/
theorem exec_confirms_acquiring : ∃ x t, CrossingSeen words b s x ∧ exec (.dataFrame h words) s = .next t ∧
    WatchedElsewhere b (acquireCrossing b c.position x) t := by
  have hnone (o : Branch) : closesBefore (usedValues s.slr words) s o = false :=
    closesBefore_false (.inr (.inl (by simp [counterRuns, hacquire])))
  obtain ⟨x, t, hseen, ht, hwatched⟩ := exec_confirms hexp (closeBeforeDelivery_none _ s hnone) (.inl hacquire) hconfirms hquiet
  have hcrossed : confirmCrossing b c x = acquireCrossing b c.position x := by
    have hoc : x.oc = s.oc := hseen.fed.oc
    unfold confirmCrossing
    simp only [hoc, hacquire]
  exact ⟨x, t, hseen, ht, hcrossed ▸ hwatched⟩

/-- R47: a crossing of VBC or VCA joins the newest two of its voltage. -/
theorem exec_joins_newest (hb : b ≠ .ab) : ∃ t, exec (.dataFrame h words) s = .next t ∧ t.oc = s.oc ∧
    t.ct.progress = { s.ct.progress with
      vbc := if b = .bc then (c.position :: s.ct.progress.vbc).take 2 else s.ct.progress.vbc
      vca := if b = .ca then (c.position :: s.ct.progress.vca).take 2 else s.ct.progress.vca } ∧
    (t.ct.tracks.get b).candidate = none ∧ (t.ct.tracks.get b).previous = some (voltageIn s words b) := by
  obtain ⟨x, t, hseen, ht, hwatched⟩ := exec_confirms_acquiring hexp hacquire hconfirms hquiet
  have hprogress : x.ct.progress = s.ct.progress := (congrArg Tracker.progress hseen.ct :)
  have hjoined : (acquireCrossing b c.position x).oc = x.oc ∧ (acquireCrossing b c.position x).ct.tracks = x.ct.tracks ∧
      (acquireCrossing b c.position x).ct.progress = { x.ct.progress with
        vbc := if b = .bc then (c.position :: x.ct.progress.vbc).take 2 else x.ct.progress.vbc
        vca := if b = .ca then (c.position :: x.ct.progress.vca).take 2 else x.ct.progress.vca } := by
    cases b with
    | ab => exact absurd rfl hb
    | bc | ca => exact ⟨rfl, rfl, rfl⟩
  obtain ⟨hoc, htracks, hjoins⟩ := hjoined
  have hown : t.ct.tracks.get b = watchedTrack (voltageIn s words b) none (s.ct.tracks.get b) := by
    rw [hwatched.own, htracks, hseen.own]
  refine ⟨t, ht, ?_, ?_, by rw [hown]; rfl, by rw [hown]; rfl⟩
  · rw [show t.oc = (acquireCrossing b c.position x).oc from (congrArg State.oc hwatched.rest :), hoc, hseen.fed.oc]
  · rw [show t.ct.progress = (acquireCrossing b c.position x).ct.progress from (congrArg (·.ct.progress) hwatched.rest :), hjoins, hprogress]

end

/-- R48: the state in which lock is evaluated: the VAB crossing is counted. -/
structure VabCounted (c : Candidate) (s u : State) : Prop where
  oc : u.oc = s.oc
  causes : u.causes = s.causes
  index : u.slr.frameIndex = s.slr.frameIndex + 1
  progress : u.ct.progress = countCrossing c.position s.ct.progress
  event : ∀ k, k ≠ .quantityDiverged → u.sli.events.get k = s.sli.events.get k

/-- R48 to R53: what follows the evaluation of lock. -/
def actOnFinding (f : LockFinding) (crossings : Nat) (u : State) : State :=
  match f with
  | .lock n => lock n u
  | .phaseOrder => failAcquisition .phaseOrder u
  | .nothing => if 24 ≤ crossings then failAcquisition .acquireFailed u else u

theorem exec_evaluates_lock {h : LinkWord} {words : PerQuantity (PerLink LinkWord)} {c : Candidate} (hexp : Expected s h)
    (hacquire : s.oc.device = .acquire) (hconfirms : Confirms s words .ab c) (hquiet : ∀ o, o ≠ .ab → Quiet s words o) :
    ∃ u t, VabCounted c s u ∧ exec (.dataFrame h words) s = .next t ∧
      WatchedElsewhere .ab (actOnFinding (lockFinding s.ct.settings.mode (countCrossing c.position s.ct.progress))
        (s.ct.progress.crossings + 1) u) t := by
  obtain ⟨x, t, hseen, ht, hwatched⟩ := exec_confirms_acquiring hexp hacquire hconfirms hquiet
  have hprogress : x.ct.progress = s.ct.progress := (congrArg Tracker.progress hseen.ct :)
  have hsettings : x.ct.settings = s.ct.settings := (congrArg Tracker.settings hseen.ct :)
  have hvab : acquireCrossing .ab c.position x = vabCrossing c.position x := rfl
  rw [hvab, vabCrossing_eq, hprogress, hsettings] at hwatched
  exact ⟨counted c.position s x, t, ⟨hseen.fed.oc, (congrArg State.causes hseen.fed.rest :), hseen.fed.index, rfl,
    fun k hk => hseen.fed.others k (by simpa using hk)⟩, ht, hwatched⟩

/-- Settles O35. -/
theorem timeoutHaltsAcquisition : Obligations.TimeoutHaltsAcquisition := by
  unfold Obligations.TimeoutHaltsAcquisition
  refine ⟨fun s hheld => ⟨exec_acquireTimeout hheld, fun hnot => ?_⟩, fun s h w hexp hstarted hquiet => ?_,
    fun s h w b c hexp hacquire hb hconfirms hquiet => exec_joins_newest hexp hacquire hconfirms hquiet hb, ?_⟩
  · rw [show exec .acquireTimeout s = .next (acquisitionTimeout s) from congrArg Host.Outcome.next (running_free _ s hheld),
      acquisitionTimeout, if_neg hnot]
  · obtain ⟨v, hfed, ht⟩ := exec_quiet hexp hstarted hquiet
    refine ⟨_, ht, hfed.oc, rfl, fun b => ?_⟩
    intro y stays
    rw [PerBranch.get_mapKey, watchedCandidate_eq hfed]
    rfl
  · intro s h w c hexp hacquire hconfirms hquiet hlength p since newest intervals near band pm offset both inOrder reversed fixed
    obtain ⟨u, t, hu, ht, hwatched⟩ := exec_evaluates_lock hexp hacquire hconfirms hquiet
    have hkept := countCrossing_intervals c.position p hlength
    change (countCrossing c.position p).intervals = intervals at hkept
    have huacquire : u.oc.device = .acquire := by rw [hu.oc, hacquire]
    refine ⟨t, ht, ?_⟩
    intro locks halts goesOn
    have hlocks (n : Nominal) (hfound : lockFinding s.ct.settings.mode (countCrossing c.position p) = .lock n) : locks n := by
      rw [hfound] at hwatched
      have h := (lock_locks n u).watched hwatched
      rw [hu.oc, hu.causes, hu.event _ (by decide)] at h
      exact h
    have hfails (d : HaltCause) (h : WatchedElsewhere .ab (failAcquisition d u) t) : halts d := by
      have h := (failAcquisition_fails d huacquire).watched h
      rw [hu.oc, hu.index, hu.event _ (by decide)] at h
      exact h
    have hhalts (hfound : lockFinding s.ct.settings.mode (countCrossing c.position p) = .phaseOrder) : halts .phaseOrder := by
      rw [hfound] at hwatched
      exact hfails _ hwatched
    have hgoes (hfound : lockFinding s.ct.settings.mode (countCrossing c.position p) = .nothing) : goesOn := by
      rw [hfound, actOnFinding] at hwatched
      refine ⟨fun hlimit => ?_, fun hbelow => ?_⟩
      · rw [if_pos hlimit] at hwatched
        exact hfails _ hwatched
      · rw [if_neg (Nat.not_le.mpr hbelow)] at hwatched
        refine ⟨?_, ?_⟩
        · rw [hwatched.rest, hu.oc]
        · rw [hwatched.rest, hu.progress, ← hkept]
          rfl
    clear_value locks halts goesOn
    have hband (y : Int) : band y = inBand (countCrossing c.position p).intervals y := by
      rw [hkept]
      rfl
    have hfixed (n : Nominal) (y : Nat) (hy : halfPeriod n = y) :
        (fixed y = true → fixedFinding n (countCrossing c.position p) = .lock n) ∧
          (fixed y = false → fixedFinding n (countCrossing c.position p) = .nothing) := by
      rw [fixedFinding_eq, hkept, hy]
      exact ⟨fun h => if_pos h, fun h => if_neg (Bool.eq_false_iff.mp h)⟩
    have hslow (h50 : band 1536 = true) := autoFinding_slow (p := countCrossing c.position p) (by rw [← hband]; exact h50)
    have hfast (h60 : band 1280 = true) := autoFinding_fast (p := countCrossing c.position p) (by rw [← hband]; exact h60)
    have hneither (h50 : band 1536 = false) (h60 : band 1280 = false) :=
      autoFinding_neither (p := countCrossing c.position p) (by rw [← hband]; exact h50) (by rw [← hband]; exact h60)
    have hphase (n : Nominal) : phaseFinding n (countCrossing c.position p) =
        if inOrder = true then .lock n else if reversed = true then .phaseOrder else .nothing := by
      have hpm : (countCrossing c.position p).intervals.sum / 4 = pm := by rw [hkept]
      unfold phaseFinding
      simp only [show (countCrossing c.position p).previousVab = some c.position from rfl, hpm, bothNear_eq]
      rfl
    refine ⟨fun hmode => ?_, fun hmode => ?_, fun hmode => ?_, fun hmode => ?_⟩
    · rw [hmode] at hlocks hgoes
      have h := hfixed .hz50 1536 rfl
      exact ⟨fun hf => hlocks _ (h.1 hf), fun hf => hgoes (h.2 hf)⟩
    · rw [hmode] at hlocks hgoes
      have h := hfixed .hz60 1280 rfl
      exact ⟨fun hf => hlocks _ (h.1 hf), fun hf => hgoes (h.2 hf)⟩
    · rw [hmode] at hlocks hgoes
      refine ⟨fun h50 => hlocks _ ?_, fun h60 => hlocks _ ?_, fun h50 h60 => hgoes ?_⟩
      · simp only [lockFinding, hslow h50]
      · simp only [lockFinding, hfast h60]
      · simp only [lockFinding, hneither h50 h60]
    · rw [hmode] at hlocks hgoes hhalts
      refine ⟨fun hin => ⟨fun h50 => hlocks _ ?_, fun h60 => hlocks _ ?_⟩, fun hin hrev hsome => hhalts ?_, fun h50 h60 => hgoes ?_,
        fun hin hrev => hgoes ?_⟩
      · simp only [lockFinding, hslow h50, hphase, hin, if_true]
      · simp only [lockFinding, hfast h60, hphase, hin, if_true]
      · obtain h50 | h60 := hsome
        · simp only [lockFinding, hslow h50, hphase, hin, hrev, if_true, Bool.false_eq_true, if_false]
        · simp only [lockFinding, hfast h60, hphase, hin, hrev, if_true, Bool.false_eq_true, if_false]
      · simp only [lockFinding, hneither h50 h60]
      · simp only [lockFinding]
        split
        · simp only [hphase, hin, hrev, Bool.false_eq_true, if_false]
        · rfl

end

end Sys2Proof.Machine

/-! What events add to a closure, and the half-cycle that a closure settles (R112, R127, R171, R190). -/

namespace Sys2Proof.Machine

open Safety

section
variable {s t u v : State} {b : Branch}

/-! ## Events raised (R171, R190) -/

/-- Events of these kinds have been raised and may have triggered a capture, and nothing else differs. With no trigger enabled the recorder
stands. -/
structure Reports (kinds : List EventKind) (s t : State) : Prop where
  rest : t = { s with hr := t.hr, sli := { s.sli with events := t.sli.events } }
  ring : t.hr.ring = s.hr.ring
  nextSeq : t.hr.nextSeq = s.hr.nextSeq
  triggers : t.hr.triggers = s.hr.triggers
  quiet : s.hr.triggers = 0 → t.hr = s.hr ∧ OtherEventsKept kinds s t
  others : OtherEventsKept (.captureFrozen :: kinds) s t

theorem Reports.refl (kinds : List EventKind) (s : State) : Reports kinds s s := ⟨rfl, rfl, rfl, rfl, fun _ => ⟨rfl, fun _ _ => rfl⟩, fun _ _ => rfl⟩

theorem Reports.trans {kinds : List EventKind} (h : Reports kinds s u) (k : Reports kinds u t) : Reports kinds s t where
  rest := by rw [k.rest, h.rest]
  ring := k.ring.trans h.ring
  nextSeq := k.nextSeq.trans h.nextSeq
  triggers := k.triggers.trans h.triggers
  quiet hoff := by
    obtain ⟨hhr, hevents⟩ := h.quiet hoff
    obtain ⟨khr, kevents⟩ := k.quiet (h.triggers.trans hoff)
    exact ⟨khr.trans hhr, fun e he => (kevents e he).trans (hevents e he)⟩
  others e he := (k.others e he).trans (h.others e he)

theorem raise_unset (h : s.hr.triggers = 0) (k : EventKind) : raise k s = noteEvent k s := by
  unfold raise
  split
  · next c _ => exact offerTrigger_off c _ (by simp [noteEvent, h])
  · rfl

theorem raise_reports {kinds : List EventKind} {k : EventKind} (hk : k ∈ kinds) (s : State) : Reports kinds s (raise k s) where
  rest := raise_eq k s
  ring := by simp
  nextSeq := by simp
  triggers := by simp
  quiet hoff := by
    rw [raise_unset hoff]
    exact ⟨rfl, fun e he => noteEvent_events_ne _ _ _ (ne_of_mem_of_not_mem hk he).symm⟩
  others e he := by
    simp only [List.mem_cons, not_or] at he
    exact raise_events_ne _ _ _ (ne_of_mem_of_not_mem hk he.2).symm he.1

/-! ## The half-cycle settled (R112, R127) -/

/-- R127: a transaction open at the closure has an expired guard behind it. -/
def missed (x : Transaction) : Bool := decide (x.phase = .retryGap ∨ 1 < x.attempts)

/-- R112, R127: the outcome a closure settles for the half-cycle that ends. -/
def endOutcome (f : Firing) : Settled :=
  match f.transaction, f.outcome with
  | some x, _ => ⟨if missed x then .misfire else .overtaken, some x.attempts⟩
  | none, some o => o
  | none, none => ⟨.noOrder, none⟩

/-- R127: a group's record once its order has been overtaken by the closure. -/
def overtakenRecord (r : GroupState) : GroupState := { r with counters := { r.counters with overtaken := count16 r.counters.overtaken } }

/-- R126, R127: what the settling makes of a group's record. -/
def settledRecord (f : Firing) (g : Group) (r : GroupState) : GroupState :=
  match f.transaction with
  | some x => if x.group = g then (if missed x then missedRecord r else overtakenRecord r) else r
  | none => r

/-- A misfire settled at the closure would not reach the group's limit. -/
def MissesBelow (s : State) (b : Branch) : Prop :=
  ∀ x, (s.vlc.firing.get b).transaction = some x → (s.vlc.groups.get x.group).misfireRun + 1 < s.vlc.settings.misfireLimit

/-- R112: the half-cycle is settled, its event not yet raised. -/
structure HalfCycleSettled (b : Branch) (s v : State) : Prop where
  rest : v = { s with vlc := { s.vlc with groups := v.vlc.groups, firing := v.vlc.firing } }
  firing : v.vlc.firing = s.vlc.firing.set b ⟨none, some (endOutcome (s.vlc.firing.get b)), none⟩
  groups : ∀ g, v.vlc.groups.get g = settledRecord (s.vlc.firing.get b) g (s.vlc.groups.get g)

/-- R112, R127: with no group at its limit the settling fails none, and at most reports a misfire. -/
theorem settleHalfCycle_settled (h : MissesBelow s b) : ∃ v, HalfCycleSettled b s v ∧
    settleHalfCycle b s = if (s.vlc.firing.get b).transaction.any missed then raise .misfire v else v := by
  unfold settleHalfCycle
  dsimp only
  split
  · next x hopen =>
    have hbelow : ((modFiring b (fun f => { f with armed := none }) s).vlc.groups.get x.group).misfireRun + 1 <
        (modFiring b (fun f => { f with armed := none }) s).vlc.settings.misfireLimit := h x hopen
    by_cases hmissed : x.phase = .retryGap ∨ 1 < x.attempts
    · have hm : missed x = true := decide_eq_true hmissed
      refine ⟨modGroup x.group missedRecord (settle b .misfire (some x.attempts) (modFiring b (fun f => { f with armed := none }) s)),
        ⟨?_, ?_, fun g => ?_⟩, ?_⟩
      · simp [settle, modFiring, modGroup]
      · simp [settle, modFiring, PerBranch.set_set, endOutcome, hopen, hm]
      · by_cases hg : x.group = g
        · simp [settledRecord, hopen, hg, hm, settle]
        · simp [settledRecord, hopen, hg, settle, PerGroup.get_set_ne _ _ _ _ (Ne.symm hg)]
      · rw [if_pos hmissed, closeMisfire_below hbelow]
        simp [hopen, hm, closeFailed]
    · have hm : missed x = false := decide_eq_false hmissed
      refine ⟨closeOvertaken b x (modFiring b (fun f => { f with armed := none }) s), ⟨?_, ?_, fun g => ?_⟩, ?_⟩
      · simp [closeOvertaken, modFiring, modGroup, modGroupCounters]
      · simp [closeOvertaken, modFiring, PerBranch.set_set, endOutcome, hopen, hm, modGroupCounters]
      · by_cases hg : x.group = g
        · simp [settledRecord, hopen, hg, hm, closeOvertaken, overtakenRecord, modGroupCounters]
        · simp [settledRecord, hopen, hg, closeOvertaken, modGroupCounters, PerGroup.get_set_ne _ _ _ _ (Ne.symm hg)]
      · rw [if_neg hmissed]
        simp [hopen, hm]
  · next o hopen hout =>
    refine ⟨modFiring b (fun f => { f with armed := none }) s, ⟨rfl, ?_, fun g => ?_⟩, ?_⟩
    · simp [modFiring, endOutcome, hopen, hout]
    · simp [settledRecord, hopen]
    · simp [hopen]
  · next hopen hout =>
    refine ⟨settle b .noOrder none (modFiring b (fun f => { f with armed := none }) s), ⟨rfl, ?_, fun g => ?_⟩, ?_⟩
    · simp [modFiring, settle, endOutcome, hopen, hout, PerBranch.set_set]
    · simp [settledRecord, hopen, settle]
    · simp [hopen]

end

end Sys2Proof.Machine

/-! A closure whole: the window judged, the branch decided, the record stored, the next window open and the readiness passed on (R72, R90,
R118, R167 to R173). -/

namespace Sys2Proof.Machine

open Safety

section
variable {s t u v : State} {b : Branch}

/-! ## What a closure judges (R72 to R77) -/

/-- Two states agree in all that a closure of the branch judges and decides by. -/
structure JudgedAlike (b : Branch) (s t : State) : Prop where
  branch : t.bdu.branches.get b = s.bdu.branches.get b
  shares : t.bdu.shares = s.bdu.shares
  slr : t.slr = s.slr
  table : t.table = s.table
  inputs : t.pli.inputs = s.pli.inputs
  nominal : t.ct.nominal = s.ct.nominal

theorem JudgedAlike.judge (h : JudgedAlike b s t) (kind : ClosureKind) (w : Window) : judge t b kind w = judge s b kind w := by
  have hnominal : nominalOf t = nominalOf s := by rw [nominalOf, nominalOf, h.nominal]
  unfold Machine.judge
  rw [hnominal, h.slr, h.branch]

theorem JudgedAlike.endingWindow (h : JudgedAlike b s t) : endingWindow t b = endingWindow s b := by
  simp only [Machine.endingWindow, h.branch]

theorem JudgedAlike.closureDemand (h : JudgedAlike b s t) (kind : ClosureKind) : closureDemand t b kind = closureDemand s b kind := by
  simp only [Machine.closureDemand, h.endingWindow, h.judge, h.branch]

theorem JudgedAlike.rawTarget (h : JudgedAlike b s t) : rawTarget t b = rawTarget s b := by
  funext d
  simp only [Machine.rawTarget, filterSusceptance, h.inputs, h.shares, h.branch]

theorem JudgedAlike.closureMove (h : JudgedAlike b s t) (kind : ClosureKind) : closureMove t b kind = closureMove s b kind := by
  simp only [Machine.closureMove, h.closureDemand, h.rawTarget, h.endingWindow, h.judge, h.branch]

theorem JudgedAlike.closedDemand (h : JudgedAlike b s t) (kind : ClosureKind) : closedDemand t b kind = closedDemand s b kind := by
  simp only [Machine.closedDemand, h.closureMove, h.closureDemand, h.rawTarget, h.endingWindow, h.judge, h.branch, h.table]

theorem JudgedAlike.decidedDemand (h : JudgedAlike b s t) (kind : ClosureKind) : decidedDemand t b kind = decidedDemand s b kind := by
  simp only [Safety.decidedDemand, h.closedDemand]

theorem JudgedAlike.decidedRecord (h : JudgedAlike b s t) (kind : ClosureKind) (ended : Polarity) (o : Outcome) (n : Option Nat)
    (hseq : t.hr.nextSeq = s.hr.nextSeq) : decidedRecord t b kind ended o n = decidedRecord s b kind ended o n := by
  simp only [Safety.decidedRecord, h.closureMove, h.closureDemand, h.endingWindow, h.judge, h.branch, h.table, h.slr, h.inputs, hseq]

/-! ## The record (R90, R167 to R173) -/

/-- R169, R172, R173: the recorder after a closure record is received. -/
def storedHistory (r : ClosureRecord) (h : History) : History :=
  match h.capture with
  | .free => appendRecord r h
  | .triggered =>
    let h' := { appendRecord r h with remaining := h.remaining - 1 }
    if h.remaining ≤ 1 then { h' with capture := .frozen, suppressed := 0 } else h'
  | .frozen => { h with suppressed := count32 h.suppressed }

/-- R172: the record is the last of its capture. -/
def fillsCapture (h : History) : Bool := h.capture == .triggered && decide (h.remaining ≤ 1)

theorem storeRecord_eq (r : ClosureRecord) (s : State) : storeRecord r s = { s with
    hr := storedHistory r s.hr
    sli := if fillsCapture s.hr then { s.sli with
      events := s.sli.events.set .captureFrozen ⟨true, bump 255 (s.sli.events.get .captureFrozen).count⟩ } else s.sli } := by
  unfold storeRecord storedHistory fillsCapture
  split
  · next hc => simp [hc]
  · next hc =>
    dsimp only
    by_cases hlast : s.hr.remaining ≤ 1
    · have hzero : s.hr.remaining - 1 = 0 := by omega
      rw [if_pos hzero]
      simp [hc, hlast]
      rfl
    · have hzero : ¬ s.hr.remaining - 1 = 0 := by omega
      rw [if_neg hzero]
      simp [hc, hlast]
  · next hc => simp [hc]

/-- R167: the record of a decided closure, as it is stored. -/
theorem closureRecord_decided {n : Index} (kind : ClosureKind) (ended : Polarity) (hbranch : t.bdu.branches.get b = closedDemand s b kind)
    (hslr : t.slr = s.slr) (hinputs : t.pli.inputs = s.pli.inputs) (o : Settled) (ho : (t.vlc.firing.get b).outcome = some o) :
    { closureRecord b kind ended (s.bdu.branches.get b) t with seq := n } =
      { decidedRecord s b kind ended o.outcome o.attempts with seq := n } := by
  simp only [closureRecord, decidedRecord, hbranch, hslr, hinputs, ho]
  rfl

/-! ## The closure up to the hand-over (R72, R118) -/

/-- R118: a group's record once the branch's readiness has passed on to the half-cycle of a polarity. -/
def movedReadiness (b : Branch) (p : Polarity) (g : Group) (r : GroupState) : GroupState :=
  if g = dueGroup b p then { r with ready := r.credit, credit := false }
  else if g = dueGroup b (flipPolarity p) then clearReadiness r else r

theorem dueGroup_flip_ne (b : Branch) (p : Polarity) : dueGroup b (flipPolarity p) ≠ dueGroup b p := by cases b <;> cases p <;> decide

theorem moveReadiness_get (b : Branch) (p : Polarity) (g : Group) (s : State) :
    (moveReadiness b p s).vlc.groups.get g = movedReadiness b p g (s.vlc.groups.get g) := by
  have hne := dueGroup_flip_ne b p
  unfold moveReadiness movedReadiness
  by_cases hdue : g = dueGroup b p
  · subst hdue
    simp [PerGroup.get_set_ne _ _ _ _ hne.symm]
  · by_cases hother : g = dueGroup b (flipPolarity p)
    · subst hother
      simp [hne, PerGroup.get_set_ne _ _ _ _ hne]
    · simp [hdue, hother, PerGroup.get_set_ne _ _ _ _ hdue, PerGroup.get_set_ne _ _ _ _ hother]

/-- The kinds of event a decision may raise (R77, R81). -/
def decisionEvents : List EventKind := [.demandSaturated, .branchFallback]

/-- R72, R112, R118: a closure in RUN judged, decided and recorded, its delay not yet handed over. -/
structure ClosedUpTo (b : Branch) (kind : ClosureKind) (ended p : Polarity) (s w : State) : Prop where
  rest : w = { s with
    oc := { s.oc with fallbackActive := w.oc.fallbackActive }
    bdu := { s.bdu with branches := s.bdu.branches.set b (decidedDemand s b kind) }
    vlc := { s.vlc with groups := w.vlc.groups, firing := s.vlc.firing.set b ⟨none, some (endOutcome (s.vlc.firing.get b)), none⟩ }
    hr := w.hr, sli := { s.sli with events := w.sli.events } }
  groups : ∀ g, w.vlc.groups.get g = movedReadiness b p g (settledRecord (s.vlc.firing.get b) g (s.vlc.groups.get g))
  triggers : w.hr.triggers = s.hr.triggers
  stored : s.hr.triggers = 0 → w.hr = storedHistory (decidedRecord s b kind ended (endOutcome (s.vlc.firing.get b)).outcome
    (endOutcome (s.vlc.firing.get b)).attempts) s.hr
  events : OtherEventsKept (.captureFrozen :: .misfire :: decisionEvents) s w
  frozen : s.hr.triggers = 0 → w.sli.events.get .captureFrozen =
    if fillsCapture s.hr then ⟨true, bump 255 (s.sli.events.get .captureFrozen).count⟩ else s.sli.events.get .captureFrozen
  misfire : s.hr.triggers = 0 → w.sli.events.get .misfire =
    if (s.vlc.firing.get b).transaction.any missed then ⟨true, bump 255 (s.sli.events.get .misfire).count⟩
    else s.sli.events.get .misfire

/-- R89: the delay a closure decides. -/
def decidedDelay (s : State) (b : Branch) (kind : ClosureKind) : Nat :=
  if (closureMove s b kind).state = .blocked then 2048 else convert s.table (closureMove s b kind).susceptance

theorem decideClosure_reports (kind : ClosureKind) (s : State) :
    Reports decisionEvents (refreshLines (modDemand b (fun _ => closedDemand s b kind) s)) (decideClosure b kind s) := by
  have hdemand : EventKind.demandSaturated ∈ decisionEvents := by decide
  have hfallback : EventKind.branchFallback ∈ decisionEvents := by decide
  unfold decideClosure
  dsimp only
  split <;> split
  · exact (raise_reports hdemand _).trans (raise_reports hfallback _)
  · exact raise_reports hfallback _
  · exact raise_reports hdemand _
  · exact .refl _ _

theorem settleHalfCycle_reports (h : MissesBelow s b) : ∃ v, HalfCycleSettled b s v ∧ Reports [.misfire] v (settleHalfCycle b s) ∧
    (s.hr.triggers = 0 → (settleHalfCycle b s).sli.events.get .misfire =
      if (s.vlc.firing.get b).transaction.any missed then ⟨true, bump 255 (s.sli.events.get .misfire).count⟩
      else s.sli.events.get .misfire) := by
  obtain ⟨v, hv, hs⟩ := settleHalfCycle_settled h
  have hsli : v.sli = s.sli := (congrArg State.sli hv.rest :)
  refine ⟨v, hv, ?_, fun _ => ?_⟩
  · rw [hs]
    split
    · exact raise_reports (.head _) v
    · exact .refl _ v
  · rw [hs]
    split
    · rw [raise_events_self _ _ (by decide), hsli]
    · rw [hsli]

theorem storedHistory_congr {r q : ClosureRecord} {h : History} (e : { r with seq := h.nextSeq } = { q with seq := h.nextSeq }) :
    storedHistory r h = storedHistory q h := by
  simp only [storedHistory, appendRecord, e]

theorem storedHistory_triggers (r : ClosureRecord) (h : History) : (storedHistory r h).triggers = h.triggers := by
  unfold storedHistory
  split
  · rfl
  · dsimp only
    split <;> rfl
  · rfl

/-- R72, R112: what the settling and the decision of a closure leave before the record is stored. -/
structure DecidedUpTo (b : Branch) (kind : ClosureKind) (s d : State) : Prop where
  rest : d = { s with
    oc := { s.oc with fallbackActive := d.oc.fallbackActive }
    bdu := { s.bdu with branches := s.bdu.branches.set b (closedDemand s b kind) }
    vlc := { s.vlc with groups := d.vlc.groups, firing := s.vlc.firing.set b ⟨none, some (endOutcome (s.vlc.firing.get b)), none⟩ }
    hr := d.hr, sli := { s.sli with events := d.sli.events } }
  groups : ∀ g, d.vlc.groups.get g = settledRecord (s.vlc.firing.get b) g (s.vlc.groups.get g)
  triggers : d.hr.triggers = s.hr.triggers
  recorder : s.hr.triggers = 0 → d.hr = s.hr
  events : OtherEventsKept (.captureFrozen :: .misfire :: decisionEvents) s d
  frozen : s.hr.triggers = 0 → d.sli.events.get .captureFrozen = s.sli.events.get .captureFrozen
  misfire : s.hr.triggers = 0 → d.sli.events.get .misfire =
    if (s.vlc.firing.get b).transaction.any missed then ⟨true, bump 255 (s.sli.events.get .misfire).count⟩
    else s.sli.events.get .misfire

theorem decideClosure_upTo (h : MissesBelow s b) (kind : ClosureKind) :
    DecidedUpTo b kind s (decideClosure b kind (settleHalfCycle b s)) := by
  obtain ⟨v, hv, hsettled, hmisfire⟩ := settleHalfCycle_reports h
  generalize settleHalfCycle b s = x at hsettled hmisfire ⊢
  have hvhr : v.hr = s.hr := (congrArg State.hr hv.rest :)
  have hvevents : v.sli = s.sli := (congrArg State.sli hv.rest :)
  have hx := hsettled.rest
  rw [hv.rest] at hx
  have halike : JudgedAlike b s x := by
    rw [hx]
    exact ⟨rfl, rfl, rfl, rfl, rfl, rfl⟩
  have hdecided := decideClosure_reports (b := b) kind x
  rw [halike.closedDemand] at hdecided
  generalize decideClosure b kind x = d at hdecided ⊢
  have hxhr : (refreshLines (modDemand b (fun _ => closedDemand s b kind) x)).hr = x.hr := rfl
  have hxsli : (refreshLines (modDemand b (fun _ => closedDemand s b kind) x)).sli = x.sli := rfl
  have hxtriggers : x.hr.triggers = s.hr.triggers := by rw [hsettled.triggers, hvhr]
  have hdrest := hdecided.rest
  refine ⟨?_, fun g => ?_, ?_, fun hoff => ?_, fun k hk => ?_, fun hoff => ?_, fun hoff => ?_⟩
  · rw [hdrest, hx, ← hv.firing]
    rfl
  · rw [hdrest, ← hv.groups g]
    rw [hx]
    rfl
  · rw [hdecided.triggers, hxhr, hxtriggers]
  · rw [(hdecided.quiet (hxtriggers.trans hoff)).1, hxhr, (hsettled.quiet (by rwa [hvhr])).1, hvhr]
  · simp only [List.mem_cons, not_or] at hk
    obtain ⟨hf, hm, hd⟩ := hk
    rw [hdecided.others k (by simp [hf, hd]), hxsli, hsettled.others k (by simp [hf, hm]), hvevents]
  · rw [(hdecided.quiet (hxtriggers.trans hoff)).2 _ (by decide), hxsli, (hsettled.quiet (by rwa [hvhr])).2 _ (by decide), hvevents]
  · rw [(hdecided.quiet (hxtriggers.trans hoff)).2 _ (by decide), hxsli, hmisfire hoff]

theorem closeHalfCycle_upTo (hrun : s.oc.device = .run) (h : MissesBelow s b) (kind : ClosureKind) (ended p : Polarity) (start : Nat) :
    ∃ w, ClosedUpTo b kind ended p s w ∧
      closeHalfCycle b kind ended p start s = handOverDelay b kind p (decidedDelay s b kind) start w := by
  have hd := decideClosure_upTo h kind
  have hsame : (settleHalfCycle b s).oc.device = .run := by
    have hoc := (congrArg (·.oc.device) hd.rest :)
    simpa [hrun] using hoc
  generalize hdef : decideClosure b kind (settleHalfCycle b s) = d at hd
  have hrest := hd.rest
  have hbranch : d.bdu.branches.get b = closedDemand s b kind := by
    rw [hrest]
    simp
  have hfiring : d.vlc.firing = s.vlc.firing.set b ⟨none, some (endOutcome (s.vlc.firing.get b)), none⟩ :=
    (congrArg (·.vlc.firing) hrest :)
  have hrecord (n : Index) := closureRecord_decided (n := n) kind ended hbranch (congrArg State.slr hrest :)
    (congrArg (·.pli.inputs) hrest :) (endOutcome (s.vlc.firing.get b)) (by rw [hfiring]; simp)
  have hstored := storeRecord_eq (closureRecord b kind ended (s.bdu.branches.get b) d) d
  have hclosed : closeHalfCycle b kind ended p start s = handOverDelay b kind p (decidedDelay s b kind) start
      (moveReadiness b p (openWindow b false (storeRecord (closureRecord b kind ended (s.bdu.branches.get b) d) d))) := by
    rw [closeHalfCycle, if_pos hsame, hdef, finishClosure]
    have hdelay : ((openWindow b false (storeRecord (closureRecord b kind ended (s.bdu.branches.get b) d) d)).bdu.branches.get b).decision =
        some (decisionOf s.table (closureMove s b kind)) := by
      rw [hstored]
      simp [openWindow, hbranch, closedDemand]
    simp only [hdelay]
    rfl
  refine ⟨_, ⟨?_, fun g => ?_, ?_, fun hoff => ?_, fun k hk => ?_, fun hoff => ?_, fun hoff => ?_⟩, hclosed⟩
  · rw [hstored]
    generalize closureRecord b kind ended (s.bdu.branches.get b) d = r
    rw [hrest]
    simp only [moveReadiness, openWindow, modGroup, modDemand, PerBranch.set_set, PerBranch.get_set_self]
    split <;> rfl
  · rw [moveReadiness_get, ← hd.groups, hstored]
    rfl
  · rw [hstored]
    exact (storedHistory_triggers _ _).trans hd.triggers
  · rw [hstored]
    refine Eq.trans ?_ (storedHistory_congr (hrecord s.hr.nextSeq))
    rw [← hd.recorder hoff]
    rfl
  · simp only [List.mem_cons, not_or] at hk
    have hfrozen : k ≠ .captureFrozen := hk.1
    rw [← hd.events k (by simp [hk]), hstored]
    simp only [moveReadiness, openWindow, modGroup_sli, modDemand_sli]
    split
    · exact PerEvent.get_set_ne _ _ _ _ hfrozen
    · rfl
  · rw [← hd.frozen hoff, ← hd.recorder hoff, hstored]
    simp only [moveReadiness, openWindow, modGroup_sli, modDemand_sli]
    split
    · simp
    · rfl
  · rw [← hd.misfire hoff, hstored]
    simp only [moveReadiness, openWindow, modGroup_sli, modDemand_sli]
    split
    · exact PerEvent.get_set_ne _ _ _ _ (show EventKind.misfire ≠ .captureFrozen by decide)
    · rfl

end

end Sys2Proof.Machine

/-! The hand-over of a delay, and closures at the top of a counter (R61, R107, R109, R112). -/

namespace Sys2Proof.Machine

open Safety

section
variable {s t u v w : State} {b : Branch}

/-! ## The hand-over (R107, R109) -/

/-- R107: a branch's firing items once a delay has been handed over at a count. -/
def handedFiring (delay count : Nat) : Firing :=
  if delay = 2048 then ⟨none, some ⟨.noOrder, none⟩, none⟩
  else if delay ≤ count then ⟨none, some ⟨.lateDecision, none⟩, none⟩ else ⟨some delay, none, none⟩

/-- R107: the delay comes too late for the count. -/
def comesLate (delay count : Nat) : Bool := decide (delay ≠ 2048 ∧ delay ≤ count)

/-- R109: a group's record once a delay handed over came too late for it. -/
def lateRecord (r : GroupState) : GroupState := { r with counters := { r.counters with lateDecisions := count16 r.counters.lateDecisions } }

theorem handOver_eq (p : Polarity) (delay count : Nat) (s : State) : handOver b p delay count s =
    let v := modFiring b (fun _ => handedFiring delay count) s
    if comesLate delay count then noteEvent .lateDecision (modGroup (dueGroup b p) lateRecord v) else v := by
  unfold handOver handedFiring comesLate
  by_cases hnone : delay = 2048
  · rw [if_pos (show delay = Config.noOrder from hnone)]
    simp [hnone]
  · rw [if_neg (show ¬ delay = Config.noOrder from hnone), if_neg hnone]
    by_cases hlate : delay ≤ count
    · rw [if_pos hlate, if_pos hlate]
      simp only [hnone, hlate, ne_eq, not_false_eq_true, and_self, decide_true, if_true]
      exact raise_of_no_trigger _ _ rfl
    · rw [if_neg hlate, if_neg hlate]
      simp [hlate]

/-! ## A synthesised closure (R61) -/

/-- R61: a branch's tracking items when a closure is synthesised. -/
def synthTrack (w : Nat) (x : Track) : Track :=
  { x with
    counter := some ⟨w, 0⟩, polarity := some (flipPolarity (x.polarity.getD .pos)), lastAccepted := none
    synthesisedRun := x.synthesisedRun + 1, synthesised := count32 x.synthesised }

/-- R61, R72, R107, R112: what a closure synthesised in RUN leaves, `u` being the state in which it comes. -/
structure SynthClosed (b : Branch) (p : Polarity) (u t : State) : Prop where
  rest : t = { u with
    oc := { u.oc with fallbackActive := t.oc.fallbackActive }
    ct := { u.ct with tracks := u.ct.tracks.set b (synthTrack u.ct.settings.halfWidth (u.ct.tracks.get b)) }
    bdu := { u.bdu with branches := u.bdu.branches.set b (decidedDemand u b .synthesized) }
    vlc := { u.vlc with
      groups := t.vlc.groups
      firing := u.vlc.firing.set b (handedFiring (decidedDelay u b .synthesized) u.ct.settings.halfWidth) }
    hr := t.hr, sli := { u.sli with events := t.sli.events } }
  groups : ∀ g, t.vlc.groups.get g = movedReadiness b (flipPolarity p) g (settledRecord (u.vlc.firing.get b) g (u.vlc.groups.get g)) ∨
    comesLate (decidedDelay u b .synthesized) u.ct.settings.halfWidth = true ∧
      t.vlc.groups.get g = lateRecord (movedReadiness b (flipPolarity p) g (settledRecord (u.vlc.firing.get b) g (u.vlc.groups.get g)))
  triggers : t.hr.triggers = u.hr.triggers
  stored : u.hr.triggers = 0 → t.hr = storedHistory (decidedRecord u b .synthesized p (endOutcome (u.vlc.firing.get b)).outcome
    (endOutcome (u.vlc.firing.get b)).attempts) u.hr
  events : OtherEventsKept (.captureFrozen :: .misfire :: .crossingSynthesized :: .lateDecision :: decisionEvents) u t
  synthesized : t.sli.events.get .crossingSynthesized = ⟨true, bump 255 (u.sli.events.get .crossingSynthesized).count⟩
  frozen : u.hr.triggers = 0 → t.sli.events.get .captureFrozen =
    if fillsCapture u.hr then ⟨true, bump 255 (u.sli.events.get .captureFrozen).count⟩ else u.sli.events.get .captureFrozen
  misfire : u.hr.triggers = 0 → t.sli.events.get .misfire =
    if (u.vlc.firing.get b).transaction.any missed then ⟨true, bump 255 (u.sli.events.get .misfire).count⟩
    else u.sli.events.get .misfire

/-- The state whose half-cycle a synthesised closure ends. -/
theorem noteSynthesised_eq (x : Option AngleCounter) (s : State) : noteSynthesised b x s =
    noteEvent .crossingSynthesized (modTrack b (fun t => { t with
      counter := x, polarity := some (flipPolarity (t.polarity.getD .pos)), lastAccepted := none
      synthesisedRun := t.synthesisedRun + 1, synthesised := count32 t.synthesised }) s) :=
  raise_of_no_trigger _ _ rfl

theorem synthesise_closes {p : Polarity} (hrun : u.oc.device = .run) (hpolarity : (u.ct.tracks.get b).polarity.getD .pos = p)
    (h : MissesBelow u b) : SynthClosed b p u (synthesise b u) := by
  have hnoted := noteSynthesised_eq (b := b) (some ⟨u.ct.settings.halfWidth, 0⟩) u
  generalize hy : noteSynthesised b (some ⟨u.ct.settings.halfWidth, 0⟩) u = y at hnoted
  have halike : JudgedAlike b u y := by
    rw [hnoted]
    exact ⟨rfl, rfl, rfl, rfl, rfl, rfl⟩
  obtain ⟨w, hw, hclosed⟩ := closeHalfCycle_upTo (s := y) (b := b) (by rw [hnoted]; exact hrun) (by rw [hnoted]; exact h)
    .synthesized p (flipPolarity p) u.ct.settings.halfWidth
  have hdelay : decidedDelay y b .synthesized = decidedDelay u b .synthesized := by
    simp only [decidedDelay, halike.closureMove, halike.table]
  have hsynth : synthesise b u = handOver b (flipPolarity p) (decidedDelay u b .synthesized) u.ct.settings.halfWidth w := by
    rw [synthesise]
    rw [hpolarity, hy, hclosed, handOverDelay_apart _ _ _ _ _ _ rfl, hdelay]
  rw [handOver_eq] at hsynth
  have hbranch := halike.decidedDemand .synthesized
  have hrecord := halike.decidedRecord .synthesized p (endOutcome (u.vlc.firing.get b)).outcome (endOutcome (u.vlc.firing.get b)).attempts
    (by rw [hnoted]; rfl)
  have hevents : y.sli.events = u.sli.events.set .crossingSynthesized ⟨true, bump 255 (u.sli.events.get .crossingSynthesized).count⟩ := by
    rw [hnoted]
    rfl
  have hbefore {e : EventKind} (he : e ≠ .crossingSynthesized) : y.sli.events.get e = u.sli.events.get e := by
    rw [hevents, PerEvent.get_set_ne _ _ _ _ he]
  have hafter {e : EventKind} (he : e ≠ .lateDecision) : (synthesise b u).sli.events.get e = w.sli.events.get e := by
    rw [hsynth]
    dsimp only
    split
    · exact noteEvent_events_ne _ _ _ he
    · rfl
  have hhr : (synthesise b u).hr = w.hr := by
    rw [hsynth]
    dsimp only
    split <;> rfl
  have huhr : y.hr = u.hr := by
    rw [hnoted]
    rfl
  have huvlc : y.vlc = u.vlc := by
    rw [hnoted]
    rfl
  refine ⟨?_, fun g => ?_, ?_, fun hoff => ?_, fun e he => ?_, ?_, fun hoff => ?_, fun hoff => ?_⟩
  · have hrest := hw.rest
    rw [hbranch, hnoted] at hrest
    rw [hsynth]
    dsimp only
    generalize decidedDemand u b .synthesized = d at hrest
    generalize decidedDelay u b .synthesized = n
    rw [hrest]
    split <;> simp [modFiring, modGroup, noteEvent, modTrack, PerBranch.set_set, synthTrack]
  · have hg := hw.groups g
    rw [huvlc] at hg
    rw [← hg, hsynth]
    dsimp only
    split
    · next hlate =>
      by_cases hdue : g = dueGroup b (flipPolarity p)
      · subst hdue
        exact .inr ⟨hlate, by simp⟩
      · exact .inl (by simp [PerGroup.get_set_ne _ _ _ _ hdue])
    · exact .inl rfl
  · rw [hhr, hw.triggers, huhr]
  · have hs := hw.stored (by rw [huhr]; exact hoff)
    rw [huhr, huvlc] at hs
    rw [hhr, hs, hrecord]
  · simp only [List.mem_cons, not_or] at he
    obtain ⟨hfrozen, hmisfire, hsynthesized, hlate, hdecision⟩ := he
    rw [hafter hlate, hw.events e (by simp [hfrozen, hmisfire, hdecision]), hbefore hsynthesized]
  · rw [hafter (by decide), hw.events _ (by decide), hevents, PerEvent.get_set_self]
  · rw [hafter (by decide), hw.frozen (by rw [huhr]; exact hoff), huhr, hbefore (by decide)]
  · rw [hafter (by decide), hw.misfire (by rw [huhr]; exact hoff), huvlc, hbefore (by decide)]

end

end Sys2Proof.Machine

/-! The marks on the way to a counter's top with no group at its misfire limit, and the closure that follows (R61, R110, R124 to R127). -/

namespace Sys2Proof.Machine

open Safety

section
variable {s t u v w : State} {b : Branch}

/-! ## Marks passed (R110, R124, R125) -/

/-- What passing marks of a branch's counter may move: its counter, the valve link controller's items, the misfire's event and the
capture that event may trigger. -/
structure MarksPassed (b : Branch) (s u : State) : Prop where
  rest : u = { s with
    ct := { s.ct with tracks := s.ct.tracks.set b { s.ct.tracks.get b with counter := (u.ct.tracks.get b).counter } }
    vlc := { s.vlc with groups := u.vlc.groups, firing := u.vlc.firing, channels := u.vlc.channels }
    hr := u.hr, sli := { s.sli with events := u.sli.events } }
  counter : (u.ct.tracks.get b).counter.isSome = (s.ct.tracks.get b).counter.isSome
  nextSeq : u.hr.nextSeq = s.hr.nextSeq
  triggers : u.hr.triggers = s.hr.triggers
  quiet : s.hr.triggers = 0 → u.hr = s.hr

/-- A branch's own items, set again. -/
theorem tracks_reset (b : Branch) (s : State) : s.ct = { s.ct with tracks := s.ct.tracks.set b { s.ct.tracks.get b with
    counter := (s.ct.tracks.get b).counter } } :=
  congrArg (fun tracks => { s.ct with tracks := tracks }) (PerBranch.set_get s.ct.tracks b).symm

theorem MarksPassed.refl (b : Branch) (s : State) : MarksPassed b s s :=
  ⟨congrArg (fun ct => { s with ct := ct }) (tracks_reset b s), rfl, rfl, rfl, fun _ => rfl⟩

theorem MarksPassed.trans (h : MarksPassed b s t) (k : MarksPassed b t u) : MarksPassed b s u where
  rest := by
    have hrest := k.rest
    generalize u.hr = hu, u.sli.events = eu, (u.ct.tracks.get b).counter = cu, u.vlc.groups = gu, u.vlc.firing = fu,
      u.vlc.channels = lu at hrest ⊢
    rw [hrest, h.rest]
    simp [PerBranch.set_set]
  counter := k.counter.trans h.counter
  nextSeq := k.nextSeq.trans h.nextSeq
  triggers := k.triggers.trans h.triggers
  quiet hoff := (k.quiet (h.triggers.trans hoff)).trans (h.quiet hoff)

theorem reachCount_passes (n : Nat) (s : State) : MarksPassed b s (reachCount b n s) where
  rest := by simp [reachCount, modTrack]
  counter := by simp [reachCount]
  nextSeq := rfl
  triggers := rfl
  quiet _ := rfl

/-- A change in the valve link controller's groups, half-cycles and channels alone. -/
theorem vlc_passes (groups : PerGroup GroupState) (firing : PerBranch Firing) (channels : PerValve ChannelState) (s : State) :
    MarksPassed b s { s with vlc := { s.vlc with groups := groups, firing := firing, channels := channels } } :=
  ⟨congrArg (fun ct => { s with ct := ct, vlc := { s.vlc with groups := groups, firing := firing, channels := channels } })
    (tracks_reset b s), rfl, rfl, rfl, fun _ => rfl⟩

theorem Reports.passes {kinds : List EventKind} (h : Reports kinds s u) : MarksPassed b s u := by
  have hct : u.ct = s.ct := (congrArg State.ct h.rest :)
  have hvlc : u.vlc = s.vlc := (congrArg State.vlc h.rest :)
  refine ⟨?_, by rw [hct], h.nextSeq, h.triggers, fun hoff => (h.quiet hoff).1⟩
  rw [hct, hvlc]
  exact h.rest.trans (congrArg (fun ct => { s with ct := ct, hr := u.hr, sli := { s.sli with events := u.sli.events } })
    (tracks_reset b s))

/-- No group is one misfire short of its limit. -/
def AllBelow (s : State) : Prop := ∀ g, (s.vlc.groups.get g).misfireRun + 1 < s.vlc.settings.misfireLimit

/-- No mark is left on the counter's way. -/
def NoMarks (b : Branch) (s : State) : Prop := (s.vlc.firing.get b).armed = none ∧ (s.vlc.firing.get b).transaction = none

theorem AllBelow.missesBelow (h : AllBelow s) (b : Branch) : MissesBelow s b := fun x _ => h x.group

theorem NoMarks.missesBelow (h : NoMarks b s) : MissesBelow s b := fun x hx => by simp [h.2] at hx

theorem NoMarks.passMarks (h : NoMarks b s) (limit fuel : Nat) : passMarks limit b fuel s = s := by
  cases fuel <;> simp [Machine.passMarks, nextMark, h.1, h.2]

theorem modGroupCounters_allBelow (h : AllBelow s) (g : Group) (f : GroupCounters → GroupCounters) : AllBelow (modGroupCounters g f s) :=
    fun x => by
  by_cases hx : x = g
  · simpa [modGroupCounters, hx] using h g
  · simpa [modGroupCounters, PerGroup.get_set_ne _ _ _ _ hx] using h x

/-- What a mark reached may leave: its branch is still below every limit, or has no further mark. -/
def StaysBelow (b : Branch) (s u : State) : Prop := MarksPassed b s u ∧ (AllBelow u ∨ NoMarks b u)

theorem StaysBelow.refl (h : AllBelow s) : StaysBelow b s s := ⟨.refl b s, .inl h⟩

theorem reachDelay_stays (h : AllBelow s) : StaysBelow b s (reachDelay b s) := by
  unfold reachDelay
  split
  · exact .refl h
  · next d _ =>
    split
    · dsimp only
      have hgroup := modGroupCounters_allBelow h (dueGroup b ((s.ct.tracks.get b).polarity.getD .pos))
      split
      · exact ⟨(reachCount_passes d s).trans (vlc_passes _ _ _ _), .inl (hgroup fun k => { k with orders := count16 k.orders })⟩
      · exact ⟨(reachCount_passes d s).trans (vlc_passes _ _ _ _), .inl (hgroup fun k => { k with notReady := count16 k.notReady })⟩
    · exact .refl h

theorem closeMisfire_stays {x : Transaction} (hbelow : (s.vlc.groups.get x.group).misfireRun + 1 < s.vlc.settings.misfireLimit)
    (hidle : (s.vlc.firing.get b).armed = none) : StaysBelow b s (closeMisfire b x s) := by
  rw [closeMisfire_below hbelow, closeFailed]
  refine ⟨(vlc_passes _ _ _ s).trans (raise_reports (kinds := [.misfire]) (.head _) _).passes, .inr ⟨?_, ?_⟩⟩
  · simp [settle, hidle]
  · simp [settle]

theorem reachGuardEnd_stays (h : AllBelow s) (hidle : (s.vlc.firing.get b).armed = none) : StaysBelow b s (reachGuardEnd b s) := by
  unfold reachGuardEnd
  split
  · next x _ =>
    split
    · dsimp only
      have hreached := reachCount_passes (b := b) x.guardEnd s
      split
      · exact ⟨hreached.trans (vlc_passes _ _ _ _), .inl h⟩
      · have hmiss := closeMisfire_stays (s := reachCount b x.guardEnd s) (b := b) (x := x) (h x.group) hidle
        exact ⟨hreached.trans hmiss.1, hmiss.2⟩
    · exact .refl h
  · exact .refl h

theorem reachRetry_stays (h : AllBelow s) (hidle : (s.vlc.firing.get b).armed = none) : StaysBelow b s (reachRetry b s) := by
  unfold reachRetry
  split
  · next x _ =>
    dsimp only
    split
    · have hreached := reachCount_passes (b := b) (x.guardEnd + Config.retryGap) s
      split
      · exact ⟨hreached.trans (vlc_passes _ _ _ _),
          .inl (modGroupCounters_allBelow h x.group fun k => { k with retries := count16 k.retries })⟩
      · have hmiss := closeMisfire_stays (s := reachCount b (x.guardEnd + Config.retryGap) s) (b := b) (x := x) (h x.group) hidle
        exact ⟨hreached.trans hmiss.1, hmiss.2⟩
    · exact .refl h
  · exact .refl h

theorem nextMark_stays {mark : Nat} {act : Branch → State → State} (h : AllBelow s) (hmark : nextMark s b = some (mark, act)) :
    StaysBelow b s (act b s) := by
  unfold nextMark at hmark
  split at hmark
  · injection hmark with hpair
    injection hpair with _ hact
    exact hact ▸ reachDelay_stays h
  · next harmed _ =>
    split at hmark <;> injection hmark with hpair <;> injection hpair with _ hact
    · exact hact ▸ reachGuardEnd_stays h harmed
    · exact hact ▸ reachRetry_stays h harmed
  · cases hmark

theorem passMarks_stays (limit fuel : Nat) (h : AllBelow s) : StaysBelow b s (passMarks limit b fuel s) := by
  induction fuel generalizing s with
  | zero => exact .refl h
  | succ fuel ih =>
    unfold passMarks
    split
    · next mark act hmark =>
      split
      · obtain ⟨hpassed, hbelow | hnone⟩ := nextMark_stays h hmark
        · obtain ⟨hlater, hend⟩ := ih hbelow
          exact ⟨hpassed.trans hlater, hend⟩
        · rw [hnone.passMarks]
          exact ⟨hpassed, .inr hnone⟩
      · exact .refl h
    · exact .refl h

/-! ## The closure at the top (R61, R62) -/

/-- R110: the state in which a counter brought to its top synthesises its closure. -/
def atTop (b : Branch) (s : State) : State := if countOf s b < topCount s then passMarks (topCount s) b 8 s else s

theorem atTop_noMarks (h : NoMarks b s) : atTop b s = s := by
  unfold atTop
  split
  · exact h.passMarks _ _
  · rfl

theorem closeAtTop_synthesises (hruns : counterRuns s b = true) (hstill : counterRuns (atTop b s) b = true) :
    closeAtTop b s = synthesise b (atTop b s) := by
  rw [closeAtTop, if_pos hruns]
  exact if_pos hstill

/-- R61, R62: below the limit the closure is all that the top brings. -/
theorem reachTop_below (hruns : counterRuns s b = true) (hstill : counterRuns (atTop b s) b = true)
    (hbelow : ((synthesise b (atTop b s)).ct.tracks.get b).synthesisedRun < (synthesise b (atTop b s)).ct.settings.limit) :
    reachTop b s = synthesise b (atTop b s) := by
  rw [reachTop, if_pos (by simp [hruns]), closeAtTop_synthesises hruns hstill]
  exact if_neg (Nat.not_le.mpr hbelow)

theorem SynthClosed.tracks {p : Polarity} (h : SynthClosed b p u t) :
    t.ct.tracks = u.ct.tracks.set b (synthTrack u.ct.settings.halfWidth (u.ct.tracks.get b)) := (congrArg (·.ct.tracks) h.rest :)

theorem SynthClosed.settings {p : Polarity} (h : SynthClosed b p u t) : t.ct.settings = u.ct.settings := (congrArg (·.ct.settings) h.rest :)

/-- R61: CROSSING_SYNTHESIZED below the limit, `u` being the state in which the closure comes. -/
theorem exec_synthesises {p : Polarity} (hheld : inReset s = false) (hruns : counterRuns s b = true) (hu : atTop b s = u)
    (hstill : counterRuns u b = true) (hpolarity : (u.ct.tracks.get b).polarity.getD .pos = p) (hmisses : MissesBelow u b)
    (hbelow : (u.ct.tracks.get b).synthesisedRun + 1 < u.ct.settings.limit) :
    ∃ t, exec (.crossingSynthesized b) s = .next t ∧ SynthClosed b p u t := by
  have hclosed := synthesise_closes (counterRuns_run hstill) hpolarity hmisses
  have hrun : ((synthesise b u).ct.tracks.get b).synthesisedRun < (synthesise b u).ct.settings.limit := by
    rw [hclosed.tracks, hclosed.settings, PerBranch.get_set_self]
    exact hbelow
  subst hu
  refine ⟨_, ?_, hclosed⟩
  rw [show exec (.crossingSynthesized b) s = .next (reachTop b s) from congrArg Host.Outcome.next (running_free _ s hheld),
    reachTop_below hruns hstill hrun]

/-- R61: the same with no mark still to come. -/
theorem exec_synthesises_unmarked {a : AngleCounter} {p : Polarity} (hheld : inReset s = false) (hrun : s.oc.device = .run)
    (hcounter : (s.ct.tracks.get b).counter = some a) (hpolarity : (s.ct.tracks.get b).polarity = some p) (hnone : NoMarks b s)
    (hbelow : (s.ct.tracks.get b).synthesisedRun + 1 < s.ct.settings.limit) :
    ∃ t, exec (.crossingSynthesized b) s = .next t ∧ SynthClosed b p s t := by
  have hruns : counterRuns s b = true := (counterRuns_iff b).mpr ⟨hrun, by simp [hcounter]⟩
  exact exec_synthesises hheld hruns (atTop_noMarks hnone) hruns (by rw [hpolarity]; rfl) hnone.missesBelow hbelow

end

end Sys2Proof.Machine

/-! A synthesised closure: what it stores, settles, decides and hands over (R61, R72, R107 to R112, R118, R127). -/

namespace Sys2Proof.Machine

open Safety

section
variable {s t u v w : State} {b : Branch} {p : Polarity}

/-! ## The record (R169) -/

theorem storedHistory_free {r : ClosureRecord} {h : History} (hfree : h.capture = .free) : storedHistory r h = appendRecord r h := by
  simp [storedHistory, hfree]

theorem appendRecord_last (r : ClosureRecord) (h : History) : (appendRecord r h).ring.getLast? = some { r with seq := h.nextSeq } := by
  simp [appendRecord]

/-- The record of the closure, with the outcome the half-cycle ends with. -/
def synthRecord (b : Branch) (p : Polarity) (u : State) : ClosureRecord :=
  decidedRecord u b .synthesized p (endOutcome (u.vlc.firing.get b)).outcome (endOutcome (u.vlc.firing.get b)).attempts

theorem SynthClosed.appended (h : SynthClosed b p u t) (hoff : u.hr.triggers = 0) (hfree : u.hr.capture = .free) :
    t.hr = appendRecord (synthRecord b p u) u.hr := (h.stored hoff).trans (storedHistory_free hfree)

theorem SynthClosed.last (h : SynthClosed b p u t) (hoff : u.hr.triggers = 0) (hfree : u.hr.capture = .free) :
    t.hr.ring.getLast? = some (synthRecord b p u) := by
  rw [h.appended hoff hfree, appendRecord_last]
  rfl

theorem SynthClosed.branches (h : SynthClosed b p u t) : t.bdu.branches = u.bdu.branches.set b (decidedDemand u b .synthesized) :=
  (congrArg (·.bdu.branches) h.rest :)

theorem SynthClosed.firing (h : SynthClosed b p u t) :
    t.vlc.firing.get b = handedFiring (decidedDelay u b .synthesized) u.ct.settings.halfWidth := by
  rw [show t.vlc.firing = u.vlc.firing.set b _ from (congrArg (·.vlc.firing) h.rest :), PerBranch.get_set_self]

theorem SynthClosed.device (h : SynthClosed b p u t) : t.oc.device = u.oc.device := (congrArg (·.oc.device) h.rest :)

theorem decidedDemand_decision (s : State) (b : Branch) (kind : ClosureKind) :
    (decidedDemand s b kind).decision = some ⟨(closureMove s b kind).susceptance, decidedDelay s b kind⟩ := rfl

/-! ## The half-cycle that begins (R107) -/

theorem handedFiring_transaction (delay count : Nat) : (handedFiring delay count).transaction = none := by
  unfold handedFiring
  split <;> [rfl; split <;> rfl]

theorem handedFiring_early {delay count : Nat} (h : count < delay) : handedFiring delay count =
    if delay = 2048 then ⟨none, some ⟨.noOrder, none⟩, none⟩ else ⟨some delay, none, none⟩ := by
  simp [handedFiring, Nat.not_le.mpr h]

/-- R105, R106: with the table complete, no susceptance is given a delay below 1024. -/
theorem convert_ge (htable : TableComplete s) (n : Nat) : 1024 ≤ convert s.table n := by
  cases hs : s.table with
  | none => simp [convert, Config.noOrder]
  | some l =>
    obtain ⟨-, hfault⟩ := htable l hs
    obtain rfl | hn := Nat.eq_zero_or_pos n
    · simp
    · rw [convert_eq_entry_sub_step hn]
      have hfall := delayStep_le_fall (D := entry l (n / 64) - entry l (n / 64 + 1)) (r := n - 64 * (n / 64)) (by omega)
      have hhere := (entry_in_range hfault (n / 64)).1
      have hnext := (entry_in_range hfault (n / 64 + 1)).1
      omega

theorem decidedDelay_late (htable : TableComplete s) (kind : ClosureKind) : 1024 ≤ decidedDelay s b kind := by
  unfold decidedDelay
  split
  · decide
  · exact convert_ge htable _

/-- R118: the readiness of the group due in the half-cycle that begins, where the branch has no transaction to settle. -/
theorem SynthClosed.due (h : SynthClosed b p u t) (hnone : (u.vlc.firing.get b).transaction = none)
    (htimely : comesLate (decidedDelay u b .synthesized) u.ct.settings.halfWidth = false) (g : Group) :
    t.vlc.groups.get g = movedReadiness b (flipPolarity p) g (u.vlc.groups.get g) := by
  obtain hg | ⟨hlate, -⟩ := h.groups g
  · simpa [settledRecord, hnone] using hg
  · simp [htimely] at hlate

theorem comesLate_of_early {delay count : Nat} (h : count < delay) : comesLate delay count = false := by
  simp [comesLate, h]

theorem movedReadiness_due (b : Branch) (p : Polarity) (r : GroupState) :
    movedReadiness b p (dueGroup b p) r = { r with ready := r.credit, credit := false } := if_pos rfl

theorem movedReadiness_other (b : Branch) (p : Polarity) (r : GroupState) :
    movedReadiness b p (dueGroup b (flipPolarity p)) r = { r with ready := false, credit := false } := by
  rw [movedReadiness, if_neg (dueGroup_flip_ne b p), if_pos rfl]
  rfl

theorem flipPolarity_flip (p : Polarity) : flipPolarity (flipPolarity p) = p := by cases p <;> rfl

/-- A group's misfires, refusals and the like stand when its readiness passes on. -/
theorem movedReadiness_keeps (b : Branch) (p : Polarity) (g : Group) (r : GroupState) :
    (movedReadiness b p g r).counters = r.counters ∧ (movedReadiness b p g r).misfireRun = r.misfireRun ∧
      (movedReadiness b p g r).failure = r.failure := by
  unfold movedReadiness
  split
  · exact ⟨rfl, rfl, rfl⟩
  · split <;> exact ⟨rfl, rfl, rfl⟩

/-- R109 moves a group's count of late decisions alone. -/
theorem SynthClosed.group_keeps (h : SynthClosed b p u t) (g : Group) :
    (t.vlc.groups.get g).failure = (settledRecord (u.vlc.firing.get b) g (u.vlc.groups.get g)).failure ∧
    (t.vlc.groups.get g).misfireRun = (settledRecord (u.vlc.firing.get b) g (u.vlc.groups.get g)).misfireRun ∧
    (t.vlc.groups.get g).counters = { (settledRecord (u.vlc.firing.get b) g (u.vlc.groups.get g)).counters with
      lateDecisions := (t.vlc.groups.get g).counters.lateDecisions } := by
  obtain ⟨hcounters, hrun, hfailure⟩ := movedReadiness_keeps b (flipPolarity p) g (settledRecord (u.vlc.firing.get b) g (u.vlc.groups.get g))
  obtain hg | ⟨-, hg⟩ := h.groups g
  · exact ⟨by rw [hg, hfailure], by rw [hg, hrun], by rw [hg, hcounters]⟩
  · refine ⟨by rw [hg]; exact hfailure, by rw [hg]; exact hrun, ?_⟩
    rw [hg]
    simp only [lateRecord, hcounters]

/-! ## The obligation -/

/-- R110: no mark of an open transaction lies below the top. -/
theorem atTop_late {x : Transaction} (harmed : (s.vlc.firing.get b).armed = none) (hopen : (s.vlc.firing.get b).transaction = some x)
    (hlate : 2048 + s.ct.settings.halfWidth ≤ x.guardEnd + (if x.phase = .retryGap then 8 else 0)) : atTop b s = s := by
  have htop : topCount s ≤ x.guardEnd + (if x.phase = .retryGap then 8 else 0) := hlate
  unfold atTop
  split
  · unfold passMarks
    simp only [nextMark, harmed, hopen]
    cases hphase : x.phase
    · rw [hphase] at htop
      exact if_neg (Nat.not_lt.mpr htop)
    · rw [hphase] at htop
      exact if_neg (Nat.not_lt.mpr htop)
  · rfl

/-- R110: the one mark is an armed delay that finds the due group unready. -/
theorem atTop_unready {a : AngleCounter} {d : Nat} (hrun : s.oc.device = .run) (hcounter : (s.ct.tracks.get b).counter = some a)
    (hpolarity : (s.ct.tracks.get b).polarity = some p) (hbelow : a.count < 2048 + s.ct.settings.halfWidth)
    (hd : d < 2048 + s.ct.settings.halfWidth) (harmed : (s.vlc.firing.get b).armed = some d)
    (hopen : (s.vlc.firing.get b).transaction = none) (hready : (s.vlc.groups.get (dueGroup b p)).ready = false) :
    atTop b s = modGroupCounters (dueGroup b p) (fun c => { c with notReady := count16 c.notReady })
      (modFiring b (fun f => { f with outcome := some ⟨.notReady, none⟩ })
        (modFiring b (fun f => { f with armed := none }) (reachCount b d s))) := by
  have hreached := reachDelay_armed hrun hcounter hpolarity harmed
  rw [hready] at hreached
  have htop : a.count < topCount s := hbelow
  have hcount : countOf s b < topCount s := by simpa [countOf, hcounter] using htop
  have hfirst : passMarks (topCount s) b 8 s = passMarks (topCount s) b 7 (reachDelay b s) := by
    rw [passMarks, nextMark, harmed]
    exact if_pos hd
  rw [atTop, if_pos hcount, hfirst, hreached]
  refine NoMarks.passMarks ⟨?_, ?_⟩ _ _
  · simp [modGroupCounters]
  · simp [modGroupCounters, reachCount, hopen]

end

end Sys2Proof.Machine

/-! The synthesised closure of a started branch (R61), whole. -/

namespace Sys2Proof.Machine

open Safety

section
variable {s t u : State} {b : Branch} {p : Polarity}

theorem endOutcome_idle {f : Firing} (h : f.transaction = none) :
    (endOutcome f).outcome = (f.outcome.map (·.outcome)).getD .noOrder := by
  obtain ⟨armed, outcome, transaction⟩ := f
  subst h
  cases outcome <;> rfl

theorem endOutcome_open {f : Firing} {x : Transaction} (h : f.transaction = some x) :
    endOutcome f = ⟨if missed x then .misfire else .overtaken, some x.attempts⟩ := by
  rw [endOutcome, h]

theorem missed_eq_false_iff {x : Transaction} : missed x = false ↔ x.phase = .waiting ∧ x.attempts ≤ 1 := by
  cases hphase : x.phase <;> simp [missed, hphase]

/-- R61: with the ring free, the record closes it and takes the next number. -/
theorem SynthClosed.numbered (h : SynthClosed b p u t) (hoff : u.hr.triggers = 0) (hfree : u.hr.capture = .free) :
    t.hr.nextSeq = u.hr.nextSeq + 1 := by
  rw [h.appended hoff hfree]
  rfl

/-- R61: CROSSING_SYNTHESIZED with marks passed below every limit. -/
theorem exec_synthesises_passing {a : AngleCounter} (hheld : inReset s = false) (hrun : s.oc.device = .run)
    (hcounter : (s.ct.tracks.get b).counter = some a) (hpolarity : (s.ct.tracks.get b).polarity = some p)
    (hbelow : (s.ct.tracks.get b).synthesisedRun + 1 < s.ct.settings.limit) (hgroups : AllBelow s) :
    ∃ u t, exec (.crossingSynthesized b) s = .next t ∧ SynthClosed b p u t ∧ MarksPassed b s u := by
  have hruns : counterRuns s b = true := (counterRuns_iff b).mpr ⟨hrun, by simp [hcounter]⟩
  have hstays : StaysBelow b s (atTop b s) := by
    unfold atTop
    split
    · exact passMarks_stays _ _ hgroups
    · exact .refl hgroups
  obtain ⟨hpassed, hend⟩ := hstays
  have hmisses : MissesBelow (atTop b s) b := hend.elim (fun h => h.missesBelow b) fun h => h.missesBelow
  generalize hu : atTop b s = u at hpassed hmisses
  have htrack : u.ct.tracks.get b = { s.ct.tracks.get b with counter := (u.ct.tracks.get b).counter } := by
    rw [show u.ct.tracks = s.ct.tracks.set b { s.ct.tracks.get b with counter := (u.ct.tracks.get b).counter } from
      (congrArg (·.ct.tracks) hpassed.rest :)]
    simp
  have hdevice : u.oc = s.oc := (congrArg State.oc hpassed.rest :)
  have hsettings : u.ct.settings = s.ct.settings := (congrArg (·.ct.settings) hpassed.rest :)
  have hstill : counterRuns u b = true := (counterRuns_iff b).mpr ⟨by rw [hdevice]; exact hrun, by simp [hpassed.counter, hcounter]⟩
  obtain ⟨t, hexec, hclosed⟩ := exec_synthesises (p := p) hheld hruns hu hstill (by rw [htrack, hpolarity]; rfl) hmisses
    (by rw [htrack, hsettings]; exact hbelow)
  exact ⟨u, t, hexec, hclosed, hpassed⟩

theorem MarksPassed.judgedAlike (h : MarksPassed b s u) : JudgedAlike b s u :=
  ⟨(congrArg (·.bdu.branches.get b) h.rest :), (congrArg (·.bdu.shares) h.rest :), (congrArg State.slr h.rest :),
    (congrArg State.table h.rest :), (congrArg (·.pli.inputs) h.rest :), (congrArg (·.ct.nominal) h.rest :)⟩

/-- Settles O36. -/
theorem crossingIsSynthesized : Obligations.CrossingIsSynthesized := by
  unfold Obligations.CrossingIsSynthesized
  refine ⟨fun s b a p hheld hrun hcounter hpolarity harmed hopen hfree hoff hwrap hlimit => ?_,
    fun s b a p x hheld hrun hcounter hpolarity harmed hlimit hoff hfree hwrap hopen hlate hmisses => ?_,
    fun s b a p hheld hrun hcounter hpolarity harmed hlimit hoff hopen htable hwidth => ?_,
    fun s b a p d hheld hrun hcounter hpolarity hcount hd harmed hopen hready hlimit hoff hfree hwrap => ?_,
    fun s b a p hheld hrun hcounter hpolarity hlimit hgroups => ?_⟩
  · obtain ⟨t, hexec, hclosed⟩ := exec_synthesises_unmarked hheld hrun hcounter hpolarity ⟨harmed, hopen⟩ hlimit
    refine ⟨t, synthRecord b p s, hexec, hclosed.device.trans hrun, ?_, fun c hc => ⟨?_, ?_⟩, by rw [hclosed.synthesized],
      hclosed.last hoff hfree, rfl, hclosed.numbered hoff hfree, rfl, rfl, rfl, rfl, endOutcome_idle hopen, ?_, ?_, ?_,
      (congrArg State.slr hclosed.rest :), (congrArg State.pli hclosed.rest :), (congrArg State.causes hclosed.rest :),
      (congrArg State.table hclosed.rest :)⟩
    · rw [hclosed.tracks, PerBranch.get_set_self, synthTrack, hpolarity]
      rfl
    · rw [hclosed.tracks, PerBranch.get_set_ne _ _ _ _ hc]
    · rw [hclosed.branches, PerBranch.get_set_ne _ _ _ _ hc]
    all_goals rw [hclosed.branches, PerBranch.get_set_self]; rfl
  · intro overtaken old
    have hruns : counterRuns s b = true := (counterRuns_iff b).mpr ⟨hrun, by simp [hcounter]⟩
    have hbelow : MissesBelow s b := fun y hy => by
      rw [hopen] at hy
      cases hy
      exact hmisses
    obtain ⟨t, hexec, hclosed⟩ := exec_synthesises (p := p) hheld hruns (atTop_late harmed hopen hlate) hruns (by rw [hpolarity]; rfl) hbelow hlimit
    obtain ⟨hfailure, hruncount, hcounters⟩ := hclosed.group_keeps x.group
    have hsettled : settledRecord (s.vlc.firing.get b) x.group old = if missed x then missedRecord old else overtakenRecord old := by
      rw [settledRecord, hopen]
      exact if_pos rfl
    rw [show settledRecord (s.vlc.firing.get b) x.group (s.vlc.groups.get x.group) = _ from hsettled] at hfailure hruncount hcounters
    have hmisfire := hclosed.misfire hoff
    rw [hopen, Option.any_some] at hmisfire
    refine ⟨t, hexec, hclosed.device.trans hrun, ⟨_, hclosed.last hoff hfree, ?_, ?_, rfl⟩, fun hwaits => ?_, fun hmiss => ?_, ?_, ?_⟩
    · rw [show (synthRecord b p s).outcome = (endOutcome (s.vlc.firing.get b)).outcome from rfl, endOutcome_open hopen]
      by_cases hwaits : overtaken
      · rw [if_pos hwaits, missed_eq_false_iff.mpr hwaits]
        rfl
      · rw [if_neg hwaits, eq_true_of_ne_false (mt missed_eq_false_iff.mp hwaits)]
        rfl
    · rw [show (synthRecord b p s).attempts = (endOutcome (s.vlc.firing.get b)).attempts from rfl, endOutcome_open hopen]
    · have hm : missed x = false := missed_eq_false_iff.mpr hwaits
      rw [hm] at hruncount hcounters hmisfire
      exact ⟨by rw [hcounters]; rfl, hruncount, hmisfire⟩
    · have hm : missed x = true := eq_true_of_ne_false (mt missed_eq_false_iff.mp hmiss)
      rw [hm] at hruncount hcounters hmisfire
      exact ⟨by rw [hcounters]; rfl, hruncount, hmisfire⟩
    · rw [hfailure]
      split <;> rfl
    · rw [hclosed.firing, handedFiring_transaction]
  · intro due
    obtain ⟨t, hexec, hclosed⟩ := exec_synthesises_unmarked hheld hrun hcounter hpolarity ⟨harmed, hopen⟩ hlimit
    have hearly : s.ct.settings.halfWidth < decidedDelay s b .synthesized := by
      have hge := decidedDelay_late (b := b) htable .synthesized
      omega
    have hready := hclosed.due hopen (comesLate_of_early hearly)
    refine ⟨t, ⟨(closureMove s b .synthesized).susceptance, decidedDelay s b .synthesized⟩, hexec, ?_, ?_, ?_, ?_,
      (congrArg (·.vlc.channels) hclosed.rest :)⟩
    · rw [hclosed.branches, PerBranch.get_set_self, decidedDemand_decision]
    · rw [hready, movedReadiness_due]
    · have hother := movedReadiness_other b (flipPolarity p)
      rw [flipPolarity_flip] at hother
      rw [hready, hother]
    · rw [hclosed.firing, handedFiring_early hearly]
  · have hruns : counterRuns s b = true := (counterRuns_iff b).mpr ⟨hrun, by simp [hcounter]⟩
    have hu := atTop_unready hrun hcounter hpolarity hcount hd harmed hopen hready
    generalize hv : modGroupCounters (dueGroup b p) (fun c => { c with notReady := count16 c.notReady })
      (modFiring b (fun f => { f with outcome := some ⟨.notReady, none⟩ })
        (modFiring b (fun f => { f with armed := none }) (reachCount b d s))) = u at hu
    have htrack : u.ct.tracks.get b = { s.ct.tracks.get b with counter := (u.ct.tracks.get b).counter } := by
      rw [← hv]
      simp [modGroupCounters, reachCount]
    have hfiring : u.vlc.firing.get b = ⟨none, some ⟨.notReady, none⟩, none⟩ := by
      rw [← hv]
      simp [modGroupCounters, reachCount, hopen]
    have hstill : counterRuns u b = true := (counterRuns_iff b).mpr (by rw [← hv]; simp [modGroupCounters, reachCount, hrun, hcounter])
    have hhr : u.hr = s.hr := by rw [← hv]; rfl
    have hoffu : u.hr.triggers = 0 := by rw [hhr]; exact hoff
    have hfreeu : u.hr.capture = .free := by rw [hhr]; exact hfree
    obtain ⟨t, hexec, hclosed⟩ := exec_synthesises (p := p) hheld hruns hu hstill (by rw [htrack, hpolarity]; rfl)
      (fun y hy => by simp [hfiring] at hy) (by rw [htrack, ← hv]; exact hlimit)
    obtain ⟨-, -, hcounters⟩ := hclosed.group_keeps (dueGroup b p)
    refine ⟨t, _, hexec, hclosed.device.trans (by rw [← hv]; exact hrun), hclosed.last hoffu hfreeu, ?_, ?_, ?_, ?_⟩
    · rw [show (synthRecord b p u).outcome = (endOutcome (u.vlc.firing.get b)).outcome from rfl, hfiring]
      rfl
    · rw [show (synthRecord b p u).attempts = (endOutcome (u.vlc.firing.get b)).attempts from rfl, hfiring]
      rfl
    · rw [show t.vlc.channels = u.vlc.channels from (congrArg (·.vlc.channels) hclosed.rest :), ← hv]
      rfl
    · rw [hcounters, hfiring, ← hv]
      simp [settledRecord, modGroupCounters, reachCount]
  · obtain ⟨u, t, hexec, hclosed, hpassed⟩ := exec_synthesises_passing hheld hrun hcounter hpolarity hlimit hgroups
    refine ⟨t, hexec, ?_, ?_, fun hfree hoff => ?_⟩
    · rw [hclosed.device, show u.oc = s.oc from (congrArg State.oc hpassed.rest :), hrun]
    · rw [hclosed.branches, PerBranch.get_set_self, hpassed.judgedAlike.decidedDemand]
    · have hhr := hpassed.quiet hoff
      refine ⟨synthRecord b p u, hclosed.last (by rw [hhr]; exact hoff) (by rw [hhr]; exact hfree), ?_⟩
      exact hpassed.judgedAlike.decidedRecord .synthesized p _ _ hpassed.nextSeq

end

end Sys2Proof.Machine

/-! The capture requests, and the record of a synthesised closure in a capture (R169, R172 to R176). -/

namespace Sys2Proof.Machine

open Safety

section
variable {s t u : State} {b : Branch} {p : Polarity}

/-! ## The requests (R174 to R176) -/

/-- R174: the trigger bits beyond the eight that name causes are clear. -/
theorem highByte_clear_iff (x : Half) : x.extractLsb' 8 8 = 0#8 ↔ x.toNat ≤ 255 := by
  have hx := x.isLt
  rw [← BitVec.toNat_inj, BitVec.extractLsb'_toNat, Nat.shiftRight_eq_div_pow]
  simp only [BitVec.toNat_ofNat]
  omega

theorem exec_setCapture (h : Receptive s) (hc : s.oc.device ≠ .unset ∨ configured s = false) (tr p : Half) :
    exec (.setCapture tr p) s = .next
      (if s.hr.capture ≠ .free then answered .setCapture .refusedState (captureReport s) s
       else if tr.toNat ≤ 255 ∧ p.toNat ≤ 511 then
        let u : State := { s with hr := { s.hr with triggers := tr.setWidth 8, post := p.toNat } }
        answered .setCapture .ok (captureReport u) u
       else answered .setCapture .refusedRange (captureReport s) s) := by
  by_cases hfree : s.hr.capture = .free
  · have hfreeA : (acceptFrame s).hr.capture = .free := hfree
    rw [if_neg (not_not.mpr hfree)]
    by_cases hrange : tr.toNat ≤ 255 ∧ p.toNat ≤ 511
    · have hfits : tr.extractLsb' 8 8 = 0#8 ∧ p.toNat ≤ 511 := ⟨(highByte_clear_iff tr).mpr hrange.1, hrange.2⟩
      rw [if_pos hrange]
      exact exec_answers h (body := doSetCapture tr p) rfl (by rw [doSetCapture, if_pos hfreeA, if_pos hfits]; rfl) (.inr (.inr hc))
    · have hbeyond : ¬ (tr.extractLsb' 8 8 = 0#8 ∧ p.toNat ≤ 511) := fun e => hrange ⟨(highByte_clear_iff tr).mp e.1, e.2⟩
      rw [if_neg hrange]
      exact exec_turns_away h (body := doSetCapture tr p) rfl (by rw [doSetCapture, if_pos hfreeA, if_neg hbeyond]; rfl) nofun
  · have hbusy : ¬ (acceptFrame s).hr.capture = .free := hfree
    rw [if_pos hfree]
    exact exec_turns_away h (body := doSetCapture tr p) rfl (by rw [doSetCapture, if_neg hbusy]; rfl) nofun

/-- R175: TRIGGER_CAPTURE takes its trigger whether or not any is enabled. -/
theorem exec_triggerCapture (h : Receptive s) (hc : s.oc.device ≠ .unset ∨ configured s = false)
    (hdevice : u.oc = s.oc) (hconfigured : configured u = configured s) (htaken : takeTrigger .request s = u) :
    exec .triggerCapture s = .next (answered .triggerCapture .ok (captureReport u) u) := by
  refine exec_answers h (body := doTriggerCapture) rfl ?_ (.inr (.inr (by rw [hdevice, hconfigured]; exact hc)))
  rw [doTriggerCapture, takeTrigger_acceptFrame, htaken]
  rfl

theorem takeTrigger_frozen (c : TriggerCause) (hfree : s.hr.capture = .free) (hpost : s.hr.post = 0) : takeTrigger c s = { s with
    hr := { s.hr with
      capture := .frozen, remaining := 0, ignored := 0, suppressed := 0, trigger := some ⟨c, newestSeq s.hr, s.slr.frameIndex⟩ }
    sli := { s.sli with events := s.sli.events.set .captureFrozen ⟨true, bump 255 (s.sli.events.get .captureFrozen).count⟩ } } := by
  simp only [takeTrigger, hfree, hpost, if_true]
  rfl

theorem exec_releaseCapture (h : Receptive s) (hc : s.oc.device ≠ .unset ∨ configured s = false) :
    exec .releaseCapture s = .next (match s.hr.capture with
      | .free => answered .releaseCapture .ok (captureReport s) s
      | .triggered => answered .releaseCapture .refusedState (captureReport s) s
      | .frozen =>
        let u : State := { s with hr := { s.hr with capture := .free, remaining := 0 } }
        answered .releaseCapture .ok (captureReport u) u) := by
  split
  · next hcapture =>
    have hA : (acceptFrame s).hr.capture = .free := hcapture
    exact exec_answers h (body := doReleaseCapture) rfl (by simp only [doReleaseCapture, hA]; rfl) (.inr (.inr hc))
  · next hcapture =>
    have hA : (acceptFrame s).hr.capture = .triggered := hcapture
    exact exec_turns_away h (body := doReleaseCapture) rfl (by simp only [doReleaseCapture, hA]; rfl) nofun
  · next hcapture =>
    have hA : (acceptFrame s).hr.capture = .frozen := hcapture
    exact exec_answers h (body := doReleaseCapture) rfl (by simp only [doReleaseCapture, hA]; rfl) (.inr (.inr hc))

/-! ## A record in a capture (R169, R172, R173) -/

theorem ringFor_unwrapped {h : History} (hwrap : wrapsNow h = false) :
    ringFor h = if h.ring.length < 512 then h.ring else h.ring.tail := by
  rw [ringFor, hwrap]
  rfl

theorem storedHistory_triggered {r : ClosureRecord} {h : History} (hcapture : h.capture = .triggered) : storedHistory r h =
    if h.remaining ≤ 1 then { appendRecord r h with remaining := h.remaining - 1, capture := .frozen, suppressed := 0 }
    else { appendRecord r h with remaining := h.remaining - 1 } := by
  simp [storedHistory, hcapture]

/-- R169: in a triggered capture the record is stored as in FREE. -/
theorem storedHistory_triggered_appends {r : ClosureRecord} {h : History} (hcapture : h.capture = .triggered) :
    (storedHistory r h).ring = (appendRecord r h).ring ∧ (storedHistory r h).nextSeq = h.nextSeq + 1 ∧
      (storedHistory r h).trigger = h.trigger := by
  rw [storedHistory_triggered hcapture]
  split <;> exact ⟨rfl, rfl, rfl⟩

/-- Settles O20. -/
theorem captureRequests : Obligations.CaptureRequests := by
  unfold Obligations.CaptureRequests
  refine ⟨fun s h hc => ⟨exec_setCapture h hc, fun hfree hpost => ?_, fun hfree hpost => ?_, fun hbusy => ?_, exec_releaseCapture h hc⟩,
    fun s b a p hheld hrun hcounter hpolarity harmed hlimit hoff hopen => ?_⟩
  · exact exec_triggerCapture h hc rfl rfl (takeTrigger_free .request s hfree hpost)
  · exact exec_triggerCapture h hc rfl rfl (takeTrigger_frozen .request hfree hpost)
  · exact exec_triggerCapture h hc rfl rfl (takeTrigger_busy .request s hbusy)
  · obtain ⟨t, hexec, hclosed⟩ := exec_synthesises_unmarked hheld hrun hcounter hpolarity ⟨harmed, hopen⟩ hlimit
    have hstored := hclosed.stored hoff
    have hfrozen := hclosed.frozen hoff
    refine ⟨t, hexec, fun hcapture hwrap => ?_, fun hcapture => ?_⟩
    · obtain ⟨hring, hnext, htrigger⟩ := storedHistory_triggered_appends (r := synthRecord b p s) hcapture
      have hchosen := storedHistory_triggered (r := synthRecord b p s) hcapture
      rw [← show t.hr = storedHistory (synthRecord b p s) s.hr from hstored] at hring hnext htrigger hchosen
      refine ⟨hnext, htrigger, ⟨synthRecord b p s, ?_, rfl, rfl⟩, fun hmore => ?_, fun hlast => ?_⟩
      · rw [hring, ← ringFor_unwrapped hwrap]
        rfl
      · rw [if_neg (Nat.not_le.mpr hmore)] at hchosen
        rw [hchosen]
        exact ⟨hcapture, rfl⟩
      · rw [if_pos hlast] at hchosen
        rw [hfrozen, fillsCapture, hcapture, hchosen]
        refine ⟨rfl, Nat.sub_eq_zero_of_le hlast, rfl, ?_⟩
        simp [hlast]
    · rw [hstored]
      simp [storedHistory, hcapture]

end

end Sys2Proof.Machine

/-! Sync loss: a branch's limit of synthesised closures, alone and together with another's (R6, R8, R62). -/

namespace Sys2Proof.Machine

open Safety

section
variable {s t u : State} {b c o d : Branch}

/-! ## The loss of sync (R6, R62) -/

/-- R6, R8, R62: a loss of sync halts the device from RUN. -/
structure SyncLost (b : Branch) (s t : State) : Prop where
  oc : t.oc = ⟨.halted, ⟨.syncLost, some b, none, none, some s.slr.frameIndex⟩, true, true, s.oc.lockFrequency⟩
  causes : t.causes = s.causes.set b { s.causes.get b with sync := true }
  ct : t.ct = ⟨s.ct.settings, none, .empty,
    (s.ct.tracks.set b { s.ct.tracks.get b with sync := .outOfSync }).mapKey fun _ => haltTrack⟩
  idle : ∀ k, BranchIdle t k
  latch : t.pli.latch = none
  nextSeq : t.hr.nextSeq = s.hr.nextSeq
  lost : t.sli.events.get .syncLost = ⟨true, bump 255 (s.sli.events.get .syncLost).count⟩
  halted : t.sli.events.get .halted = ⟨true, bump 255 (s.sli.events.get .halted).count⟩
  others : OtherEventsKept [.syncLost, .halted, .presetCancelled, .captureFrozen] s t

/-- R62: OUT_OF_SYNC, SYNC_LOST raised and SYNC added, before R6 may halt the device. -/
def noteLoss (b : Branch) (s : State) : State :=
  addCause b .sync (raise .syncLost (modTrack b (fun t => { t with sync := .outOfSync }) s))

theorem loseSync_eq (b : Branch) (s : State) : loseSync b s =
    if (noteLoss b s).oc.device = .run then enterHalted .syncLost (some b) none none (noteLoss b s) else noteLoss b s := rfl

theorem addCause_sli (b : Branch) (c : BlockCause) (s : State) : (addCause b c s).sli = s.sli := by simp

theorem loseSync_halts (hrun : s.oc.device = .run) : SyncLost b s (loseSync b s) := by
  have hnoted : (noteLoss b s).oc.device = .run := by simpa [noteLoss] using hrun
  have hevents {k : EventKind} (hk : k ≠ .syncLost) (hf : k ≠ .captureFrozen) :
      (noteLoss b s).sli.events.get k = s.sli.events.get k := by
    rw [noteLoss, addCause_sli, raise_events_ne _ _ _ hk hf]
    rfl
  rw [loseSync_eq, if_pos hnoted]
  refine ⟨?_, ?_, ?_, enterHalted_idle _ _ _ _ (.inr hnoted), enterHalted_latch _ _ _ _ (.inr hnoted), ?_, ?_, ?_, fun k hk => ?_⟩
  · rw [enterHalted_oc _ _ _ _ _ (.inr hnoted), hnoted]
    simp [noteLoss, trips]
  · simp [noteLoss, addCause_causes, addToSet]
  · rw [enterHalted_tracks _ _ _ _ _ (.inr hnoted)]
    simp [noteLoss, modTrack]
  · simp [noteLoss]
  · rw [enterHalted_events _ _ _ _ _ _ (by decide) (by decide) (by decide), noteLoss, addCause_sli,
      raise_events_self _ _ (by decide)]
    rfl
  · rw [enterHalted_raises _ _ _ _ (.inr hnoted), hevents (by decide) (by decide)]
  · simp only [List.mem_cons, List.not_mem_nil, not_or, or_false] at hk
    obtain ⟨hlost, hhalted, hcancelled, hfrozen⟩ := hk
    rw [enterHalted_events _ _ _ _ _ _ hhalted hcancelled hfrozen, hevents hlost hfrozen]

/-- R62: a loss of sync that finds the device out of RUN. -/
structure SyncAlsoLost (b : Branch) (s t : State) : Prop where
  rest : t = { s with
    ct := { s.ct with tracks := s.ct.tracks.set b { s.ct.tracks.get b with sync := .outOfSync } }
    causes := s.causes.set b { s.causes.get b with sync := true }
    hr := t.hr, sli := { s.sli with events := t.sli.events } }
  ring : t.hr.ring = s.hr.ring
  nextSeq : t.hr.nextSeq = s.hr.nextSeq
  lost : t.sli.events.get .syncLost = ⟨true, bump 255 (s.sli.events.get .syncLost).count⟩
  others : OtherEventsKept [.captureFrozen, .syncLost] s t

theorem loseSync_adds (hleft : s.oc.device ≠ .run) : SyncAlsoLost b s (loseSync b s) := by
  have hnoted : ¬ (noteLoss b s).oc.device = .run := by simpa [noteLoss] using hleft
  have hraised := raise_reports (kinds := [.syncLost]) (.head _) (modTrack b (fun t => { t with sync := .outOfSync }) s)
  have hadds : noteLoss b s = _ := addCause_stands b .sync _ (.inl (by simpa using hleft))
  rw [loseSync_eq, if_neg hnoted, hadds]
  refine ⟨?_, hraised.ring, hraised.nextSeq, raise_events_self _ _ (by decide), hraised.others⟩
  have hrest := hraised.rest
  generalize raise .syncLost (modTrack b (fun t => { t with sync := .outOfSync }) s) = v at hrest ⊢
  rw [hrest]
  rfl

/-! ## The closure that reaches the limit (R61, R62) -/

/-- R61, R62: at the limit the closure comes first, then the loss. -/
theorem reachTop_loses (hruns : counterRuns s b = true) (hstill : counterRuns (atTop b s) b = true)
    (hlimit : (synthesise b (atTop b s)).ct.settings.limit ≤ ((synthesise b (atTop b s)).ct.tracks.get b).synthesisedRun) :
    reachTop b s = loseTogether b (synthesise b (atTop b s)) := by
  rw [reachTop, if_pos (by simp [hruns]), closeAtTop_synthesises hruns hstill]
  exact if_pos hlimit

theorem SynthClosed.track_self {p : Polarity} (h : SynthClosed b p u t) :
    t.ct.tracks.get b = synthTrack u.ct.settings.halfWidth (u.ct.tracks.get b) := by
  rw [h.tracks, PerBranch.get_set_self]

theorem SynthClosed.track_ne {p : Polarity} (h : SynthClosed b p u t) (hc : c ≠ b) : t.ct.tracks.get c = u.ct.tracks.get c := by
  rw [h.tracks, PerBranch.get_set_ne _ _ _ _ hc]

theorem SynthClosed.firing_ne {p : Polarity} (h : SynthClosed b p u t) (hc : c ≠ b) : t.vlc.firing.get c = u.vlc.firing.get c := by
  rw [show t.vlc.firing = u.vlc.firing.set b _ from (congrArg (·.vlc.firing) h.rest :), PerBranch.get_set_ne _ _ _ _ hc]

/-- R6: another branch loses sync with `b` where its own counter stands at the top and its count at the limit. -/
theorem SynthClosed.losesWith {p : Polarity} (h : SynthClosed b p u t) (hrun : u.oc.device = .run) (hc : c ≠ b) :
    losesWith t b c = true ↔ ∃ y, (u.ct.tracks.get c).counter = some y ∧ 2048 + u.ct.settings.halfWidth ≤ y.count ∧
      u.ct.settings.limit ≤ (u.ct.tracks.get c).synthesisedRun + 1 := by
  have htop : topCount t = 2048 + u.ct.settings.halfWidth := by
    rw [topCount, h.settings]
    rfl
  rw [losesWith_iff, counterRuns_iff, htop, countOf, h.track_ne hc, h.settings, h.device]
  cases hcounter : (u.ct.tracks.get c).counter <;> simp [hc, hrun]

theorem losesWith_self (s : State) (b : Branch) : losesWith s b b = false := by simp [losesWith]

/-- The loss of one branch alone. -/
theorem SynthClosed.loses_alone {p : Polarity} (h : SynthClosed b p u t) (hrun : u.oc.device = .run)
    (hlimit : u.ct.settings.limit ≤ (u.ct.tracks.get b).synthesisedRun + 1)
    (hothers : ∀ c, c ≠ b → ∀ y, (u.ct.tracks.get c).counter = some y →
       y.count < 2048 + u.ct.settings.halfWidth ∨ (u.ct.tracks.get c).synthesisedRun + 1 < u.ct.settings.limit) :
    loseTogether b t = loseSync b t := by
  have halone (c : Branch) : Machine.losesWith t b c = false := by
    by_cases hc : c = b
    · exact hc ▸ losesWith_self t b
    · refine eq_false_of_ne_true fun hw => ?_
      obtain ⟨y, hy, htop, hcount⟩ := (h.losesWith hrun hc).mp hw
      have := hothers c hc y hy
      omega
  rw [loseTogether_alone b t halone, loseAtLimit, h.settings, h.track_self]
  exact if_pos hlimit

end

end Sys2Proof.Machine

/-! Two branches at their limit together, and the loss that finds the device HALTED (R6, R8, R62). -/

namespace Sys2Proof.Machine

open Safety

section
variable {s t u v w : State} {b c o d : Branch}

/-! ## Two together (R6, R62) -/

theorem Branch.all_filter_one {f : Branch → Bool} (h : ∀ d, f d = true ↔ d = c) : Branch.all.filter f = [c] := by
  have hf : f = fun d => decide (d = c) := by
    funext d
    rw [Bool.eq_iff_iff, h d, decide_eq_true_iff]
  rw [hf]
  cases c <;> rfl

theorem loseTogether_one (h : ∀ d, losesWith t b d = true ↔ d = c) :
    loseTogether b t = loseAtLimit c (loseAtLimit b (closeAtTop c (takePicks 1 t))) := by
  rw [loseTogether, Branch.all_filter_one h]
  rfl

theorem Branch.eq_of_third (hbc : b ≠ c) (hob : o ≠ b) (hoc : o ≠ c) (hd : d ≠ o) : d = b ∨ d = c := by
  cases b <;> cases c <;> cases o <;> cases d <;> simp at *

theorem loseAtLimit_reached (h : s.ct.settings.limit ≤ (s.ct.tracks.get b).synthesisedRun) : loseAtLimit b s = loseSync b s := if_pos h

/-- R6, R62: what two losses in one moment leave: the closure of `b` from `s` to `t`, that of `c` to `u`, the halt to `v`. -/
structure LostTogether (b c : Branch) (p q : Polarity) (s t u v w : State) : Prop where
  first : SynthClosed b p s t
  second : SynthClosed c q (takePicks 1 t) u
  halts : SyncLost b u v
  adds : SyncAlsoLost c v w

theorem reachTop_two {a x : AngleCounter} (hrun : s.oc.device = .run) (hbc : b ≠ c) (hob : o ≠ b) (hoc : o ≠ c)
    (hcounter : (s.ct.tracks.get b).counter = some a) (hx : (s.ct.tracks.get c).counter = some x)
    (htop : 2048 + s.ct.settings.halfWidth ≤ x.count)
    (hthird : ∀ y, (s.ct.tracks.get o).counter = some y → y.count < 2048 + s.ct.settings.halfWidth)
    (hb : NoMarks b s) (hc : NoMarks c s) (hlb : s.ct.settings.limit ≤ (s.ct.tracks.get b).synthesisedRun + 1)
    (hlc : s.ct.settings.limit ≤ (s.ct.tracks.get c).synthesisedRun + 1) :
    ∃ p q t u v, LostTogether b c p q s t u v (reachTop b s) := by
  have hruns : counterRuns s b = true := (counterRuns_iff b).mpr ⟨hrun, by simp [hcounter]⟩
  have hfirst := synthesise_closes (b := b) hrun rfl hb.missesBelow
  have hloses := reachTop_loses hruns (by rw [atTop_noMarks hb]; exact hruns)
    (by rw [atTop_noMarks hb, hfirst.settings, hfirst.track_self]; exact hlb)
  rw [atTop_noMarks hb] at hloses
  generalize synthesise b s = t at hfirst hloses
  have honly (d : Branch) : losesWith t b d = true ↔ d = c := by
    by_cases hd : d = b
    · simp [hd, losesWith_self, hbc]
    · rw [hfirst.losesWith hrun hd]
      refine ⟨fun ⟨y, hy, hytop, _⟩ => ?_, fun e => e ▸ ⟨x, hx, htop, hlc⟩⟩
      by_contra hdc
      have hdo : d = o := by
        by_contra hdo
        exact (Branch.eq_of_third hbc hob hoc hdo).elim hd hdc
      subst hdo
      exact absurd (hthird y hy) (Nat.not_lt.mpr hytop)
  have hrunt : t.oc.device = .run := hfirst.device.trans hrun
  have htrackc : t.ct.tracks.get c = s.ct.tracks.get c := hfirst.track_ne hbc.symm
  have hmarks : NoMarks c (takePicks 1 t) := by
    have hfiring : (takePicks 1 t).vlc.firing.get c = s.vlc.firing.get c := hfirst.firing_ne hbc.symm
    exact ⟨by rw [hfiring]; exact hc.1, by rw [hfiring]; exact hc.2⟩
  have hrunsc : counterRuns (takePicks 1 t) c = true := (counterRuns_iff c).mpr ⟨hrunt, by simp [takePicks, htrackc, hx]⟩
  have hsecond := synthesise_closes (u := takePicks 1 t) (b := c) hrunt rfl hmarks.missesBelow
  have hcloses := closeAtTop_synthesises hrunsc (by rw [atTop_noMarks hmarks]; exact hrunsc)
  rw [atTop_noMarks hmarks] at hcloses
  rw [loseTogether_one honly, hcloses] at hloses
  generalize synthesise c (takePicks 1 t) = u at hsecond hloses
  have hrunu : u.oc.device = .run := hsecond.device.trans hrunt
  have hsettings : u.ct.settings = s.ct.settings := hsecond.settings.trans hfirst.settings
  have hlimitb : u.ct.settings.limit ≤ (u.ct.tracks.get b).synthesisedRun := by
    rw [hsettings, hsecond.track_ne hbc, show (takePicks 1 t).ct.tracks.get b = _ from hfirst.track_self]
    exact hlb
  rw [loseAtLimit_reached hlimitb] at hloses
  have hhalts := loseSync_halts (b := b) hrunu
  generalize loseSync b u = v at hhalts hloses
  have hlimitc : v.ct.settings.limit ≤ (v.ct.tracks.get c).synthesisedRun := by
    rw [hhalts.ct]
    simp only [PerBranch.get_mapKey, PerBranch.get_set_ne _ _ _ _ hbc.symm, hsecond.track_self, haltTrack, synthTrack, hsettings]
    rw [show (takePicks 1 t).ct.tracks.get c = _ from htrackc]
    exact hlc
  rw [loseAtLimit_reached hlimitc] at hloses
  refine ⟨_, _, t, u, v, hfirst, hsecond, hhalts, ?_⟩
  rw [hloses]
  exact loseSync_adds (by rw [hhalts.oc]; simp)

/-! ## A loss that finds the device HALTED (R62) -/

theorem losesWith_stopped (hleft : s.oc.device ≠ .run) (c : Branch) : losesWith s b c = false := by
  simp [losesWith, counterRuns, hleft]

theorem reachTop_halted {p : Polarity} (hhalted : s.oc.device = .halted)
    (hcause : s.oc.halt.cause = .syncLost ∨ s.oc.halt.cause = .valveFailed) (hpolarity : (s.ct.tracks.get b).polarity = some p)
    (hsync : (s.ct.tracks.get b).sync ≠ .outOfSync) (hlimit : s.ct.settings.limit ≤ (s.ct.tracks.get b).synthesisedRun + 1) :
    reachTop b s = loseSync b (noteSynthesised b none s) := by
  have hstopped : counterRuns s b = false := by simp [counterRuns, hhalted]
  have hmeets : meetsHalt s b = true := by
    simp [meetsHalt, hhalted, hcause, hpolarity, hsync, hlimit]
  have hnoted := noteSynthesised_eq (b := b) none s
  have hlimit' : (noteSynthesised b none s).ct.settings.limit ≤ ((noteSynthesised b none s).ct.tracks.get b).synthesisedRun := by
    rw [hnoted]
    simpa using hlimit
  have hleft : (noteSynthesised b none s).oc.device ≠ .run := by
    rw [hnoted]
    simp [hhalted]
  have hcloses : closeAtTop b s = noteSynthesised b none s := by
    simp [closeAtTop, hstopped, hmeets]
  rw [reachTop, if_pos (by simp [hmeets])]
  simp only [hcloses, if_pos hlimit']
  rw [loseTogether_alone b _ (losesWith_stopped hleft), loseAtLimit_reached hlimit']

theorem SynthClosed.slr {p : Polarity} (h : SynthClosed b p s t) : t.slr = s.slr := (congrArg State.slr h.rest :)

theorem SynthClosed.causes {p : Polarity} (h : SynthClosed b p s t) : t.causes = s.causes := (congrArg State.causes h.rest :)

theorem SynthClosed.lockFrequency {p : Polarity} (h : SynthClosed b p s t) : t.oc.lockFrequency = s.oc.lockFrequency :=
  (congrArg (·.oc.lockFrequency) h.rest :)

/-- A closure whose record is appended leaves the recorder free. -/
theorem SynthClosed.stays_free {p : Polarity} (h : SynthClosed b p s t) (hoff : s.hr.triggers = 0) (hfree : s.hr.capture = .free) :
    t.hr.triggers = 0 ∧ t.hr.capture = .free := by
  rw [h.appended hoff hfree]
  exact ⟨hoff, hfree⟩

theorem exec_crossingSynthesized (hheld : inReset s = false) : exec (.crossingSynthesized b) s = .next (reachTop b s) :=
  congrArg Host.Outcome.next (running_free _ s hheld)

/-- R6, R8, R62: the loss of one branch's sync alone. -/
theorem exec_loses_alone {a : AngleCounter} (hheld : inReset s = false) (hrun : s.oc.device = .run)
    (hcounter : (s.ct.tracks.get b).counter = some a) (hmarks : NoMarks b s) (hfree : s.hr.capture = .free) (hoff : s.hr.triggers = 0)
    (hlimit : s.ct.settings.limit ≤ (s.ct.tracks.get b).synthesisedRun + 1)
    (hothers : ∀ c, c ≠ b → ∀ y, (s.ct.tracks.get c).counter = some y →
       y.count < 2048 + s.ct.settings.halfWidth ∨ (s.ct.tracks.get c).synthesisedRun + 1 < s.ct.settings.limit) :
    ∃ t, exec (.crossingSynthesized b) s = .next t ∧ t.oc.device = .halted ∧ t.oc.tripRequest = true ∧
      t.oc.fallbackActive = true ∧ t.oc.halt = ⟨.syncLost, some b, none, none, some s.slr.frameIndex⟩ ∧
      (t.ct.tracks.get b).sync = .outOfSync ∧ (t.causes.get b).sync = true ∧
      (∀ c, c ≠ b → t.causes.get c = s.causes.get c ∧ (t.ct.tracks.get c).counter = none) ∧ (∀ c, BranchIdle t c) ∧
      (t.sli.events.get .syncLost).count = bump 255 (s.sli.events.get .syncLost).count ∧
      (t.sli.events.get .halted).count = bump 255 (s.sli.events.get .halted).count ∧
      (t.ct.tracks.get b).synthesisedRun = (s.ct.tracks.get b).synthesisedRun + 1 ∧
      t.hr.nextSeq = s.hr.nextSeq + 1 ∧ t.pli.latch = none := by
  have hexec := exec_crossingSynthesized (b := b) hheld
  have hruns : counterRuns s b = true := (counterRuns_iff b).mpr ⟨hrun, by simp [hcounter]⟩
  have hclosed := synthesise_closes (b := b) hrun rfl hmarks.missesBelow
  have hloses := reachTop_loses hruns (by rw [atTop_noMarks hmarks]; exact hruns)
    (by rw [atTop_noMarks hmarks, hclosed.settings, hclosed.track_self]; exact hlimit)
  rw [atTop_noMarks hmarks, hclosed.loses_alone hrun hlimit hothers] at hloses
  rw [hloses] at hexec
  have hhalts := loseSync_halts (b := b) (hclosed.device.trans hrun)
  generalize synthesise b s = u at hclosed hexec hhalts
  have htrack : (loseSync b u).ct.tracks.get b = haltTrack { u.ct.tracks.get b with sync := .outOfSync } := by
    rw [hhalts.ct]
    simp
  refine ⟨_, hexec, by rw [hhalts.oc], by rw [hhalts.oc], by rw [hhalts.oc], by rw [hhalts.oc, hclosed.slr], by rw [htrack]; rfl, ?_,
    fun c hc => ⟨?_, (hhalts.idle c).1⟩, hhalts.idle, ?_, ?_, ?_, ?_, hhalts.latch⟩
  · rw [hhalts.causes, PerBranch.get_set_self]
  · rw [hhalts.causes, PerBranch.get_set_ne _ _ _ _ hc, hclosed.causes]
  · rw [hhalts.lost, hclosed.events _ (by decide)]
  · rw [hhalts.halted, hclosed.events _ (by decide)]
  · rw [htrack, hclosed.track_self]
    rfl
  · rw [hhalts.nextSeq, hclosed.numbered hoff hfree]

namespace LostTogether

variable {p q : Polarity} (h : LostTogether b c p q s t u v w)
include h

theorem causes (hbc : b ≠ c) : w.causes = (s.causes.set b { s.causes.get b with sync := true }).set c { s.causes.get c with sync := true } := by
  rw [show w.causes = v.causes.set c { v.causes.get c with sync := true } from (congrArg State.causes h.adds.rest :), h.halts.causes,
    h.second.causes, show (takePicks 1 t).causes = s.causes from h.first.causes, PerBranch.get_set_ne _ _ _ _ hbc.symm]

theorem tracks : w.ct.tracks = v.ct.tracks.set c { v.ct.tracks.get c with sync := .outOfSync } := (congrArg (·.ct.tracks) h.adds.rest :)

/-- R62: the branch whose report halts the device. -/
theorem track_first (hbc : b ≠ c) : (w.ct.tracks.get b).sync = .outOfSync ∧
    (w.ct.tracks.get b).synthesisedRun = (s.ct.tracks.get b).synthesisedRun + 1 := by
  have hrun : (u.ct.tracks.get b).synthesisedRun = (s.ct.tracks.get b).synthesisedRun + 1 := by
    rw [h.second.track_ne hbc, show (takePicks 1 t).ct.tracks.get b = _ from h.first.track_self]
    rfl
  rw [h.tracks, PerBranch.get_set_ne _ _ _ _ hbc, h.halts.ct]
  simp [haltTrack, hrun]

/-- R62: the branch that finds the device HALTED. -/
theorem track_second (hbc : b ≠ c) : (w.ct.tracks.get c).sync = .outOfSync ∧
    (w.ct.tracks.get c).synthesisedRun = (s.ct.tracks.get c).synthesisedRun + 1 := by
  rw [h.tracks, PerBranch.get_set_self, h.halts.ct]
  simp only [PerBranch.get_mapKey, PerBranch.get_set_ne _ _ _ _ hbc.symm, h.second.track_self, haltTrack, synthTrack, true_and]
  rw [show (takePicks 1 t).ct.tracks.get c = s.ct.tracks.get c from h.first.track_ne hbc.symm]

theorem track_third (hob : o ≠ b) (hoc : o ≠ c) : (w.ct.tracks.get o).synthesisedRun = (s.ct.tracks.get o).synthesisedRun := by
  rw [h.tracks, PerBranch.get_set_ne _ _ _ _ hoc, h.halts.ct]
  simp only [PerBranch.get_mapKey, PerBranch.get_set_ne _ _ _ _ hob, haltTrack, h.second.track_ne hoc]
  rw [show (takePicks 1 t).ct.tracks.get o = s.ct.tracks.get o from h.first.track_ne hob]

/-- The closures raise neither of the events of the loss. -/
theorem event_before {k : EventKind}
    (hk : k ∉ ([.captureFrozen, .misfire, .crossingSynthesized, .lateDecision, .demandSaturated, .branchFallback] : List EventKind)) :
    u.sli.events.get k = s.sli.events.get k := (h.second.events k hk).trans (h.first.events k hk)

theorem oc : w.oc = ⟨.halted, ⟨.syncLost, some b, none, none, some s.slr.frameIndex⟩, true, true, s.oc.lockFrequency⟩ := by
  rw [show w.oc = v.oc from (congrArg State.oc h.adds.rest :), h.halts.oc, h.second.slr, h.second.lockFrequency,
    show (takePicks 1 t).slr = s.slr from h.first.slr, show (takePicks 1 t).oc.lockFrequency = s.oc.lockFrequency from h.first.lockFrequency]

theorem nextSeq (hoff : s.hr.triggers = 0) (hfree : s.hr.capture = .free) : w.hr.nextSeq = s.hr.nextSeq + 2 := by
  obtain ⟨hofft, hfreet⟩ := h.first.stays_free hoff hfree
  rw [h.adds.nextSeq, h.halts.nextSeq, h.second.numbered hofft hfreet,
    show (takePicks 1 t).hr.nextSeq = _ from h.first.numbered hoff hfree]
  bv_omega

theorem idle (d : Branch) : BranchIdle w d := by
  have hcounters : (w.ct.tracks.get d).counter = (v.ct.tracks.get d).counter := by
    rw [h.tracks]
    by_cases hd : d = c
    · subst hd
      simp
    · rw [PerBranch.get_set_ne _ _ _ _ hd]
  rw [BranchIdle, hcounters, show w.bdu = v.bdu from (congrArg State.bdu h.adds.rest :),
    show w.vlc = v.vlc from (congrArg State.vlc h.adds.rest :)]
  exact h.halts.idle d

end LostTogether

/-- R6, R62: a loss of sync that finds the device HALTED. -/
theorem exec_loses_halted {p : Polarity} (hheld : inReset s = false) (hhalted : s.oc.device = .halted)
    (hcause : s.oc.halt.cause = .syncLost ∨ s.oc.halt.cause = .valveFailed) (hpolarity : (s.ct.tracks.get b).polarity = some p)
    (hsync : (s.ct.tracks.get b).sync ≠ .outOfSync) (hlimit : s.ct.settings.limit ≤ (s.ct.tracks.get b).synthesisedRun + 1) :
    ∃ t, exec (.crossingSynthesized b) s = .next t ∧ t.oc = s.oc ∧
      t.causes = s.causes.set b { s.causes.get b with sync := true } ∧ (t.ct.tracks.get b).sync = .outOfSync ∧
      (t.ct.tracks.get b).synthesisedRun = (s.ct.tracks.get b).synthesisedRun + 1 ∧
      (t.sli.events.get .syncLost).count = bump 255 (s.sli.events.get .syncLost).count ∧
      t.sli.events.get .halted = s.sli.events.get .halted ∧ t.hr.ring = s.hr.ring ∧ t.bdu = s.bdu ∧ t.vlc = s.vlc ∧
      ∀ o, o ≠ b → t.ct.tracks.get o = s.ct.tracks.get o := by
  have hexec := exec_crossingSynthesized (b := b) hheld
  rw [reachTop_halted hhalted hcause hpolarity hsync hlimit] at hexec
  have hnoted := noteSynthesised_eq (b := b) none s
  generalize noteSynthesised b none s = u at hexec hnoted
  have hadds := loseSync_adds (s := u) (b := b) (by rw [hnoted]; simp [hhalted])
  generalize loseSync b u = t at hexec hadds
  have htracks : t.ct.tracks = u.ct.tracks.set b { u.ct.tracks.get b with sync := .outOfSync } := (congrArg (·.ct.tracks) hadds.rest :)
  refine ⟨t, hexec, ?_, ?_, ?_, ?_, ?_, ?_, ?_, ?_, ?_, fun o ho => ?_⟩
  · rw [show t.oc = u.oc from (congrArg State.oc hadds.rest :), hnoted]
    simp
  · rw [show t.causes = u.causes.set b { u.causes.get b with sync := true } from (congrArg State.causes hadds.rest :), hnoted]
    simp
  · rw [htracks, PerBranch.get_set_self]
  · rw [htracks, PerBranch.get_set_self, hnoted]
    simp
  · rw [hadds.lost, hnoted, noteEvent_events_ne _ _ _ (by decide)]
    rfl
  · rw [hadds.others _ (by decide), hnoted, noteEvent_events_ne _ _ _ (by decide)]
    rfl
  · rw [hadds.ring, hnoted]
    rfl
  · rw [show t.bdu = u.bdu from (congrArg State.bdu hadds.rest :), hnoted]
    rfl
  · rw [show t.vlc = u.vlc from (congrArg State.vlc hadds.rest :), hnoted]
    rfl
  · rw [htracks, PerBranch.get_set_ne _ _ _ _ ho, hnoted]
    simp [PerBranch.get_set_ne _ _ _ _ ho]

/-- Settles O37. -/
theorem syncLossHalts : Obligations.SyncLossHalts := by
  unfold Obligations.SyncLossHalts
  refine ⟨fun s b a hheld hrun hcounter harmed hopen hfree hoff hlimit hothers =>
      exec_loses_alone hheld hrun hcounter ⟨harmed, hopen⟩ hfree hoff hlimit hothers,
    fun s b c o a x hheld hrun hbc hob hoc hcounter hx htop hthird hlost hfree hoff => ?_,
    fun s b p hheld hhalted hcause hpolarity hsync hlimit => exec_loses_halted hheld hhalted hcause hpolarity hsync hlimit⟩
  obtain ⟨hab, htb, hlb⟩ := hlost b hob.symm
  obtain ⟨hac, htc, hlc⟩ := hlost c hoc.symm
  obtain ⟨p, q, t, u, v, h⟩ := reachTop_two hrun hbc hob hoc hcounter hx htop hthird ⟨hab, htb⟩ ⟨hac, htc⟩ hlb hlc
  refine ⟨_, exec_crossingSynthesized hheld, h.oc, fun d hd => ?_, ?_, h.track_third hob hoc, ?_, ?_, ?_, h.nextSeq hoff hfree, h.idle⟩
  · rw [h.causes hbc]
    obtain rfl | rfl := Branch.eq_of_third hbc hob hoc hd
    · exact ⟨(h.track_first hbc).1, by rw [PerBranch.get_set_ne _ _ _ _ hbc, PerBranch.get_set_self], (h.track_first hbc).2⟩
    · exact ⟨(h.track_second hbc).1, by rw [PerBranch.get_set_self], (h.track_second hbc).2⟩
  · rw [h.causes hbc, PerBranch.get_set_ne _ _ _ _ hoc, PerBranch.get_set_ne _ _ _ _ hob]
  · rw [h.adds.lost, h.halts.lost, h.event_before (by decide)]
  · rw [h.adds.others _ (by decide), h.halts.others _ (by decide), h.second.synthesized,
      show (takePicks 1 t).sli.events.get .crossingSynthesized = _ from h.first.synthesized]
  · rw [h.adds.others _ (by decide), h.halts.halted, h.event_before (by decide)]

end

end Sys2Proof.Machine

/-! Crossings in RUN: the period filter, the start crossing and the rejected crossing (R55, R56, R58). -/

namespace Sys2Proof.Machine

open Safety

section
variable {s t u x : State} {b : Branch} {c : Candidate} {h : LinkWord} {words : PerQuantity (PerLink LinkWord)}

/-! ## The period filter (R58) -/

theorem updatePeriod_cast {n : Nat} (hn : 128 ≤ n) (p : Nat) (i : Int) : (updatePeriod n p i : Int) =
    max ((n : Int) - 128) (min ((n : Int) + 128) (p + (i - p + 4) / 8)) := by
  rw [updatePeriod, clampInt_eq _ _ _ (by omega)]
  omega

/-- R58: the period stays in its band, and moves an eighth of the way, rounded half up, where the band allows. -/
theorem updatePeriod_moves (n p : Nat) (i : Int) (hn : 128 ≤ n) :
    n - 128 ≤ updatePeriod n p i ∧ updatePeriod n p i ≤ n + 128 ∧
     (∀ x : Int, (n : Int) - 128 ≤ x → x ≤ n + 128 → 8 * (x - p) ≤ i - p + 4 → i - p + 4 < 8 * (x - p) + 8 →
       (updatePeriod n p i : Int) = x) := by
  have hcast := updatePeriod_cast hn p i
  refine ⟨by omega, by omega, fun x hlow hhigh hfloor hceil => ?_⟩
  have hquotient : (i - p + 4) / 8 = x - p := by omega
  rw [hcast, hquotient]
  omega

/-! ## The state a crossing finds (R44, R45) -/

namespace CrossingSeen

variable (k : CrossingSeen words b s x)
include k

theorem oc : x.oc = s.oc := (congrArg State.oc k.fed.rest :)

theorem vlc : x.vlc = s.vlc := (congrArg State.vlc k.fed.rest :)

theorem hr : x.hr = s.hr := (congrArg State.hr k.fed.rest :)

theorem pli : x.pli = s.pli := (congrArg State.pli k.fed.rest :)

theorem table : x.table = s.table := (congrArg State.table k.fed.rest :)

theorem settings : x.ct.settings = s.ct.settings := (congrArg Tracker.settings k.ct :)

theorem nominal : x.ct.nominal = s.ct.nominal := (congrArg Tracker.nominal k.ct :)

theorem nominalOf : Machine.nominalOf x = Machine.nominalOf s := by rw [Machine.nominalOf, k.nominal, Machine.nominalOf]

theorem index : x.slr.frameIndex = s.slr.frameIndex + 1 := k.fed.index

theorem event {e : EventKind} (he : e ≠ .quantityDiverged) : x.sli.events.get e = s.sli.events.get e := k.fed.others e (by simpa using he)

end CrossingSeen

/-- R44, R45: the crossing of a voltage whose counter is stopped, or below 2048 + W. -/
theorem exec_confirms_running (hexp : Expected s h) (hrun : s.oc.device = .run) (hconfirms : Confirms s words b c)
    (hquiet : ∀ o, o ≠ b → Quiet s words o) (hopen : counterRuns s b = false ∨ countOf s b < topCount s) :
    ∃ x t, CrossingSeen words b s x ∧ exec (.dataFrame h words) s = .next t ∧ WatchedElsewhere b (runCrossing b c x) t := by
  have hclosed : closeBeforeDelivery (usedValues s.slr words) s = s := by
    refine closeBeforeDelivery_none _ s fun o => closesBefore_false ?_
    by_cases ho : o = b
    · exact ho ▸ .inr hopen
    · exact .inl (hquiet o ho)
  obtain ⟨x, t, hseen, hexec, hafter⟩ := exec_confirms hexp hclosed (.inr hrun) hconfirms hquiet
  rw [confirmCrossing, hseen.oc, hrun] at hafter
  exact ⟨x, t, hseen, hexec, hafter⟩

theorem crossingPolarity_eq (d : CrossingDirection) : crossingPolarity d = if d = .rising then .pos else .neg := by cases d <;> rfl

/-- R55, R57: the count that a crossing confirmed by a frame gives its branch's counter. -/
def confirmedStart (s : State) (c : Candidate) (p : Nat) : Nat :=
  min 2047 (s.ct.settings.latency + (16 * ((s.slr.frameIndex + 1 - c.position.frame).toNat : Int) - c.position.fraction).toNat * 2048 / p)

theorem CrossingSeen.start (k : CrossingSeen words b s x) (c : Candidate) (p : Nat) : startCount x p c.position = confirmedStart s c p := by
  simp only [startCount, sinceCrossing, distance, k.settings, k.index, confirmedStart]
  congr 5
  omega

theorem CrossingSeen.period (k : CrossingSeen words b s x) {p : Nat} (hp : (s.ct.tracks.get b).period = some p) : periodOf x b = p := by
  rw [periodOf, k.own]
  simp [watchedTrack, hp]

theorem clearBranchReadiness_get (b : Branch) (d : Direction) (s : State) :
    ((clearBranchReadiness b s).vlc.groups.get (b.group d)).ready = false ∧ ((clearBranchReadiness b s).vlc.groups.get (b.group d)).credit = false := by
  have hne : b.group .forward ≠ b.group .reverse := by cases b <;> decide
  cases d
  · simp [clearBranchReadiness, PerGroup.get_set_ne _ _ _ _ hne, clearReadiness]
  · simp [clearBranchReadiness, clearReadiness]

theorem rejectCrossing_eq (b : Branch) (s : State) : rejectCrossing b s =
    noteEvent .crossingRejected (modTrack b (fun t => { t with rejected := count32 t.rejected }) s) := raise_of_no_trigger _ _ rfl

end

end Sys2Proof.Machine

/-! An accepted closure, whole: the counter re-phased, the period moved, the window judged and the delay handed over (R57 to R60, R107, R108). -/

namespace Sys2Proof.Machine

open Safety

section
variable {s t u v w x : State} {b : Branch} {c : Candidate} {ended : Polarity}

/-! ## The hand-over at an accepted closure (R107, R108) -/

/-- A branch's counter set to a count. -/
def setCount (b : Branch) (n : Nat) (s : State) : State := modTrack b (fun t => { t with counter := some ⟨n, 0⟩ }) s

theorem setCount_same {n : Nat} (h : (s.ct.tracks.get b).counter = some ⟨n, 0⟩) : setCount b n s = s := by
  have htrack : { s.ct.tracks.get b with counter := some ⟨n, 0⟩ } = s.ct.tracks.get b := by rw [← h]
  rw [setCount, modTrack, htrack, PerBranch.set_get]

/-- R108: the delay is handed over at the start count, or at the delay itself where it lies one above. -/
theorem handOverDelay_cases (kind : ClosureKind) (p : Polarity) (delay : Nat) {start : Nat}
    (h : (s.ct.tracks.get b).counter = some ⟨start, 0⟩) : ∃ n count,
      (count = start ∨ delay = start + 1 ∧ delay < 2048 ∧ count = delay) ∧
        handOverDelay b kind p delay start s = handOver b p delay count (setCount b count (takePicks n s)) := by
  unfold handOverDelay
  by_cases hmeets : advanceMeets kind start delay
  · rw [if_pos hmeets]
    obtain ⟨⟨-, hnext⟩, hbelow⟩ : (kind = .accepted ∧ delay = start + 1) ∧ delay < 2048 := by
      simp only [advanceMeets, Bool.and_eq_true, beq_iff_eq, decide_eq_true_eq] at hmeets
      exact hmeets
    split
    · exact ⟨1, start, .inl rfl, by rw [setCount_same (s := takePicks 1 s) h]⟩
    · refine ⟨1, delay, .inr ⟨hnext, hbelow, rfl⟩, ?_⟩
      have hless : start < delay := by omega
      rw [reachCount, setCount, modTrack, modTrack, show (takePicks 1 s).ct.tracks.get b = s.ct.tracks.get b from rfl, h]
      simp [hless]
  · rw [if_neg hmeets]
    exact ⟨0, start, .inl rfl, by rw [setCount_same (s := takePicks 0 s) h]; rfl⟩

/-! ## The closure (R57 to R60) -/

/-- R58: the period an accepted crossing leaves. -/
def measuredPeriod (s : State) (b : Branch) (c : Candidate) : Nat :=
  match (s.ct.tracks.get b).lastAccepted with
  | some last => updatePeriod (halfPeriod (nominalOf s)) (periodOf s b) (distance last c.position)
  | none => periodOf s b

/-- R57: a branch's tracking items once a crossing has been accepted, its counter at a count. -/
def acceptedTrack (c : Candidate) (period count : Nat) (k : Track) : Track :=
  { k with
    counter := some ⟨count, 0⟩, period := some period, polarity := some (crossingPolarity c.direction), synthesisedRun := 0
    accepted := count32 k.accepted, lastAccepted := some c.position }

/-- R57 to R60, R72, R107, R108: what an accepted crossing leaves, `x` being the state in which it is confirmed. -/
structure AcceptClosed (b : Branch) (c : Candidate) (ended : Polarity) (count : Nat) (x t : State) : Prop where
  rest : t = { x with
    clock := t.clock
    oc := { x.oc with fallbackActive := t.oc.fallbackActive }
    ct := { x.ct with tracks := x.ct.tracks.set b (acceptedTrack c (measuredPeriod x b c) count (x.ct.tracks.get b)) }
    bdu := { x.bdu with branches := x.bdu.branches.set b (decidedDemand x b .accepted) }
    vlc := { x.vlc with groups := t.vlc.groups, firing := x.vlc.firing.set b (handedFiring (decidedDelay x b .accepted) count) }
    hr := t.hr, sli := { x.sli with events := t.sli.events } }
  counted : count = startCount x (periodOf x b) c.position ∨
    decidedDelay x b .accepted = startCount x (periodOf x b) c.position + 1 ∧ decidedDelay x b .accepted < 2048 ∧
      count = decidedDelay x b .accepted
  groups : ∀ g, t.vlc.groups.get g =
    if comesLate (decidedDelay x b .accepted) count = true ∧ g = dueGroup b (crossingPolarity c.direction) then
      lateRecord (movedReadiness b (crossingPolarity c.direction) g (settledRecord (x.vlc.firing.get b) g (x.vlc.groups.get g)))
    else movedReadiness b (crossingPolarity c.direction) g (settledRecord (x.vlc.firing.get b) g (x.vlc.groups.get g))
  stored : x.hr.triggers = 0 → t.hr = storedHistory (decidedRecord x b .accepted ended (endOutcome (x.vlc.firing.get b)).outcome
    (endOutcome (x.vlc.firing.get b)).attempts) x.hr
  late : t.sli.events.get .lateDecision = if comesLate (decidedDelay x b .accepted) count then
    ⟨true, bump 255 (x.sli.events.get .lateDecision).count⟩ else x.sli.events.get .lateDecision

theorem modTrack_judgedAlike (f : Track → Track) (s : State) : JudgedAlike b s (modTrack b f s) := ⟨rfl, rfl, rfl, rfl, rfl, rfl⟩

theorem JudgedAlike.decidedDelay (h : JudgedAlike b s t) (kind : ClosureKind) : decidedDelay t b kind = decidedDelay s b kind := by
  simp only [Machine.decidedDelay, h.closureMove, h.table]

theorem acceptCrossing_eq (hended : (x.ct.tracks.get b).polarity.getD .pos = ended) : acceptCrossing b c x =
    closeHalfCycle b .accepted ended (crossingPolarity c.direction) (startCount x (periodOf x b) c.position)
      (modTrack b (acceptedTrack c (measuredPeriod x b c) (startCount x (periodOf x b) c.position)) x) := by
  rw [acceptCrossing, ← hended]
  rfl

theorem acceptCrossing_closes (hrun : x.oc.device = .run) (hended : (x.ct.tracks.get b).polarity.getD .pos = ended)
    (hmisses : MissesBelow x b) : ∃ count, AcceptClosed b c ended count x (acceptCrossing b c x) := by
  generalize hstart : startCount x (periodOf x b) c.position = start
  generalize hperiod : measuredPeriod x b c = period
  have haccept := acceptCrossing_eq (c := c) hended
  rw [hstart, hperiod] at haccept
  have hjudged := modTrack_judgedAlike (b := b) (acceptedTrack c period start) x
  generalize hy : modTrack b (acceptedTrack c period start) x = y at haccept hjudged
  have hyvlc : y.vlc = x.vlc := by rw [← hy]; rfl
  have hyhr : y.hr = x.hr := by rw [← hy]; rfl
  have hysli : y.sli = x.sli := by rw [← hy]; rfl
  obtain ⟨w, hw, hclosed⟩ := closeHalfCycle_upTo (s := y) (b := b) (by rw [← hy]; exact hrun)
    (by unfold MissesBelow; rw [hyvlc]; exact hmisses) .accepted ended (crossingPolarity c.direction) start
  rw [hclosed, hjudged.decidedDelay] at haccept
  have hcounter : (w.ct.tracks.get b).counter = some ⟨start, 0⟩ := by
    rw [show w.ct = y.ct from (congrArg State.ct hw.rest :), ← hy]
    simp [acceptedTrack]
  obtain ⟨n, count, hcount, hhand⟩ := handOverDelay_cases .accepted (crossingPolarity c.direction) (decidedDelay x b .accepted) hcounter
  rw [hhand, handOver_eq] at haccept
  have hrecord := hjudged.decidedRecord .accepted ended (endOutcome (x.vlc.firing.get b)).outcome (endOutcome (x.vlc.firing.get b)).attempts
    (by rw [hyhr])
  have hhr : (acceptCrossing b c x).hr = w.hr := by
    rw [haccept]
    dsimp only
    split <;> rfl
  refine ⟨count, ?_, by rw [hstart]; exact hcount, fun g => ?_, fun hoff => ?_, ?_⟩
  · have hrest := hw.rest
    rw [hjudged.decidedDemand, ← hy] at hrest
    rw [haccept, hperiod]
    dsimp only
    generalize decidedDemand x b .accepted = d at hrest
    generalize decidedDelay x b .accepted = delay
    rw [hrest]
    split <;> simp [modFiring, modGroup, noteEvent, modTrack, setCount, takePicks, PerBranch.set_set, acceptedTrack]
  · have hg := hw.groups g
    rw [hyvlc] at hg
    rw [← hg, haccept]
    dsimp only
    by_cases hlate : comesLate (decidedDelay x b .accepted) count
    · rw [if_pos hlate]
      by_cases hdue : g = dueGroup b (crossingPolarity c.direction)
      · rw [if_pos ⟨hlate, hdue⟩, hdue]
        simp [setCount]
      · rw [if_neg fun h => hdue h.2]
        simp [PerGroup.get_set_ne _ _ _ _ hdue, setCount]
    · rw [if_neg hlate, if_neg fun h => hlate h.1]
      rfl
  · have hs := hw.stored (by rw [hyhr]; exact hoff)
    rw [hyhr, hyvlc] at hs
    rw [hhr, hs, hrecord]
  · have hw' := hw.events .lateDecision (by decide)
    rw [hysli] at hw'
    rw [← hw', haccept]
    dsimp only
    split
    · simp [setCount]
    · rfl

end

end Sys2Proof.Machine

/-! The crossings in RUN (R55 to R60, R69, R107 to R109). -/

namespace Sys2Proof.Machine

open Safety

section
variable {s t u v x z : State} {b : Branch} {c : Candidate} {h : LinkWord} {words : PerQuantity (PerLink LinkWord)} {a : AngleCounter}
  {ended : Polarity}

/-! ## An accepted crossing -/

/-- R57, R69: a crossing inside the acceptance window. -/
theorem exec_accepts (hexp : Expected s h) (hrun : s.oc.device = .run) (hconfirms : Confirms s words b c)
    (hquiet : ∀ o, o ≠ b → Quiet s words o) (hcounter : (s.ct.tracks.get b).counter = some a)
    (hfrom : 2048 ≤ a.count + s.ct.settings.halfWidth) (hbelow : a.count < 2048 + s.ct.settings.halfWidth)
    (hended : (s.ct.tracks.get b).polarity = some ended) (hmisses : MissesBelow s b) :
    ∃ x v t count, CrossingSeen words b s x ∧ exec (.dataFrame h words) s = .next t ∧ AcceptClosed b c ended count x v ∧
      WatchedElsewhere b v t := by
  have hcount : countOf s b < topCount s := by
    have htop : a.count < topCount s := hbelow
    simpa [countOf, hcounter] using htop
  obtain ⟨x, t, hseen, hexec, hafter⟩ := exec_confirms_running hexp hrun hconfirms hquiet (.inr hcount)
  have hcounterx : (x.ct.tracks.get b).counter = some a := by rw [hseen.own]; exact hcounter
  have hin : acceptFrom x ≤ a.count := by
    have hlow : 2048 - s.ct.settings.halfWidth ≤ a.count := by omega
    rw [acceptFrom, hseen.settings]
    exact hlow
  have hout : a.count < topCount x := by
    rw [topCount, hseen.settings]
    exact hbelow
  rw [runCrossing_inside b c x a hcounterx hin hout] at hafter
  obtain ⟨count, hclosed⟩ := acceptCrossing_closes (x := x) (b := b) (c := c) (ended := ended) (by rw [hseen.oc]; exact hrun)
    (by rw [hseen.own]; simp [watchedTrack, hended]) (by rw [MissesBelow, hseen.vlc]; exact hmisses)
  exact ⟨x, _, t, count, hseen, hexec, hclosed, hafter⟩

namespace AcceptClosed

variable {count : Nat} (k : AcceptClosed b c ended count x t)
include k

theorem device : t.oc.device = x.oc.device := (congrArg (·.oc.device) k.rest :)

theorem slr : t.slr = x.slr := (congrArg State.slr k.rest :)

theorem track : t.ct.tracks.get b = acceptedTrack c (measuredPeriod x b c) count (x.ct.tracks.get b) := by
  rw [show t.ct.tracks = x.ct.tracks.set b _ from (congrArg (·.ct.tracks) k.rest :), PerBranch.get_set_self]

theorem branch : t.bdu.branches.get b = decidedDemand x b .accepted := by
  rw [show t.bdu.branches = x.bdu.branches.set b _ from (congrArg (·.bdu.branches) k.rest :), PerBranch.get_set_self]

theorem firing : t.vlc.firing.get b = handedFiring (decidedDelay x b .accepted) count := by
  rw [show t.vlc.firing = x.vlc.firing.set b _ from (congrArg (·.vlc.firing) k.rest :), PerBranch.get_set_self]

theorem appended (hoff : x.hr.triggers = 0) (hfree : x.hr.capture = .free) : t.hr =
    appendRecord (decidedRecord x b .accepted ended (endOutcome (x.vlc.firing.get b)).outcome (endOutcome (x.vlc.firing.get b)).attempts) x.hr :=
  (k.stored hoff).trans (storedHistory_free hfree)

theorem last (hoff : x.hr.triggers = 0) (hfree : x.hr.capture = .free) : t.hr.ring.getLast? =
    some (decidedRecord x b .accepted ended (endOutcome (x.vlc.firing.get b)).outcome (endOutcome (x.vlc.firing.get b)).attempts) := by
  rw [k.appended hoff hfree, appendRecord_last]
  rfl

/-- R109 moves a group's count of late decisions alone. -/
theorem group_keeps (g : Group) :
    (t.vlc.groups.get g).failure = (settledRecord (x.vlc.firing.get b) g (x.vlc.groups.get g)).failure ∧
    (t.vlc.groups.get g).misfireRun = (settledRecord (x.vlc.firing.get b) g (x.vlc.groups.get g)).misfireRun ∧
    (t.vlc.groups.get g).counters = { (settledRecord (x.vlc.firing.get b) g (x.vlc.groups.get g)).counters with
      lateDecisions := (t.vlc.groups.get g).counters.lateDecisions } := by
  obtain ⟨hcounters, hrun, hfailure⟩ :=
    movedReadiness_keeps b (crossingPolarity c.direction) g (settledRecord (x.vlc.firing.get b) g (x.vlc.groups.get g))
  rw [k.groups g]
  split
  · exact ⟨hfailure, hrun, by simp only [lateRecord, hcounters]⟩
  · exact ⟨hfailure, hrun, by rw [hcounters]⟩

/-- R118: the readiness passes to the group due in the half-cycle that begins. -/
theorem readiness (hnone : (x.vlc.firing.get b).transaction = none) :
    (t.vlc.groups.get (dueGroup b (crossingPolarity c.direction))).ready = (x.vlc.groups.get (dueGroup b (crossingPolarity c.direction))).credit ∧
    (t.vlc.groups.get (dueGroup b (crossingPolarity c.direction))).credit = false ∧
    (t.vlc.groups.get (dueGroup b (flipPolarity (crossingPolarity c.direction)))).ready = false ∧
    (t.vlc.groups.get (dueGroup b (flipPolarity (crossingPolarity c.direction)))).credit = false := by
  have hsettled (g : Group) : settledRecord (x.vlc.firing.get b) g (x.vlc.groups.get g) = x.vlc.groups.get g := by
    rw [settledRecord, hnone]
  have hother : ¬ (comesLate (decidedDelay x b .accepted) count = true ∧
      dueGroup b (flipPolarity (crossingPolarity c.direction)) = dueGroup b (crossingPolarity c.direction)) :=
    fun e => dueGroup_flip_ne b _ e.2
  rw [k.groups (dueGroup b (flipPolarity _)), if_neg hother, k.groups, hsettled, hsettled, movedReadiness_due, movedReadiness_other]
  split <;> exact ⟨rfl, rfl, rfl, rfl⟩

/-- R109: a delay that comes too late is counted for the group due and raised. -/
theorem comes_late (hnone : (x.vlc.firing.get b).transaction = none) (hlate : comesLate (decidedDelay x b .accepted) count = true) :
    (t.vlc.groups.get (dueGroup b (crossingPolarity c.direction))).counters.lateDecisions =
      count16 (x.vlc.groups.get (dueGroup b (crossingPolarity c.direction))).counters.lateDecisions ∧
    t.sli.events.get .lateDecision = ⟨true, bump 255 (x.sli.events.get .lateDecision).count⟩ := by
  refine ⟨?_, by rw [k.late, if_pos hlate]⟩
  rw [k.groups, if_pos ⟨hlate, rfl⟩, settledRecord, hnone, movedReadiness_due]
  rfl

end AcceptClosed

/-- R58, in the words of the rule. -/
theorem CrossingSeen.measured (k : CrossingSeen words b s x) {p : Nat} (hp : (s.ct.tracks.get b).period = some p) (c : Candidate) :
    measuredPeriod x b c = match (s.ct.tracks.get b).lastAccepted with
      | some l => updatePeriod (if s.ct.nominal = some .hz60 then 1280 else 1536) p
          (16 * ((c.position.frame - l.frame).toNat : Int) + (c.position.fraction - l.fraction))
      | none => p := by
  have hhalf : halfPeriod (Machine.nominalOf s) = if s.ct.nominal = some .hz60 then 1280 else 1536 := by
    obtain hnone | ⟨n, hn⟩ := Option.eq_none_or_eq_some s.ct.nominal
    · simp [Machine.nominalOf, hnone, halfPeriod]
    · cases n <;> simp [Machine.nominalOf, hn, halfPeriod]
  rw [measuredPeriod, k.nominalOf, k.period hp, hhalf, k.own]
  rfl

/-- What a confirmed crossing judges is what the frame leaves of the branch and of the receiver. -/
theorem CrossingSeen.judgedAlike {n : Nominal} (k : CrossingSeen words b s x) (hrun : s.oc.device = .run) (hn : s.ct.nominal = some n) :
    JudgedAlike b (judgedIn s words n b x.slr) x := by
  have hnominal : Machine.nominalOf s = n := by rw [Machine.nominalOf, hn]; rfl
  refine ⟨?_, k.fed.shares, rfl, k.table, by rw [k.pli]; rfl, k.nominal⟩
  have hwindow := k.fed.windows hrun b
  rw [hnominal] at hwindow
  simp only [judgedIn, PerBranch.get_set_self]
  exact hwindow

/-! ## A crossing whose closure comes first (R59, R69) -/

theorem voltageIn_congr (hslr : t.slr = s.slr) : voltageIn t words b = voltageIn s words b := by rw [voltageIn, hslr, voltageIn]

theorem candidateAfter_congr (hslr : t.slr = s.slr) (hprevious : (t.ct.tracks.get b).previous = (s.ct.tracks.get b).previous)
    (hcandidate : (t.ct.tracks.get b).candidate = (s.ct.tracks.get b).candidate) (y : Int) :
    candidateAfter t b y = candidateAfter s b y := by
  simp only [candidateAfter, hslr, hprevious, hcandidate]

theorem reaches_congr (hsettings : t.ct.settings = s.ct.settings) {y : Int} : Reaches t c y ↔ Reaches s c y := by
  rw [Reaches, hsettings, Reaches]

theorem confirms_of_stands (hc : Confirms s words b c) (hslr : t.slr = s.slr) (hsettings : t.ct.settings = s.ct.settings)
    (hprevious : (t.ct.tracks.get b).previous = (s.ct.tracks.get b).previous)
    (hcandidate : (t.ct.tracks.get b).candidate = (s.ct.tracks.get b).candidate) : Confirms t words b c := by
  rw [Confirms, voltageIn_congr hslr, candidateAfter_congr hslr hprevious hcandidate, reaches_congr hsettings]
  exact hc

theorem quiet_of_stands {o : Branch} (hq : Quiet s words o) (hslr : t.slr = s.slr) (hsettings : t.ct.settings = s.ct.settings)
    (htrack : t.ct.tracks.get o = s.ct.tracks.get o) : Quiet t words o := by
  intro k
  rw [voltageIn_congr hslr, candidateAfter_congr hslr (by rw [htrack]) (by rw [htrack]), reaches_congr hsettings]
  exact hq k

theorem closesBefore_of_confirms (hcounter : (s.ct.tracks.get b).counter = some a) (hrun : s.oc.device = .run)
    (htop : 2048 + s.ct.settings.halfWidth ≤ a.count) (hconfirms : Confirms s words b c) :
    closesBefore (usedValues s.slr words) s b = true := by
  have hat : topCount s ≤ countOf s b := by
    have : topCount s ≤ a.count := htop
    simpa [countOf, hcounter] using this
  have hruns : counterRuns s b = true := (counterRuns_iff b).mpr ⟨hrun, by simp [hcounter]⟩
  have hwill : willConfirm s b ((usedValues s.slr words).get b.voltage) = true := (willConfirm_iff rfl).mpr ⟨c, hconfirms⟩
  simp [closesBefore, hruns, hat, hwill]

/-- R56, R59, R69: a crossing that finds the counter at 2048 + W closes the half-cycle first, and is then rejected. -/
theorem exec_closes_first (hexp : Expected s h) (hrun : s.oc.device = .run) (hconfirms : Confirms s words b c)
    (hquiet : ∀ o, o ≠ b → Quiet s words o) (hcounter : (s.ct.tracks.get b).counter = some a)
    (htop : 2048 + s.ct.settings.halfWidth ≤ a.count) (hwidth : s.ct.settings.halfWidth ≤ 512)
    (hended : (s.ct.tracks.get b).polarity = some ended) (hmisses : MissesBelow s b)
    (hlimit : (s.ct.tracks.get b).synthesisedRun + 1 < s.ct.settings.limit) :
    ∃ z x t, SynthClosed b ended (takePicks 1 s) z ∧ CrossingSeen words b z x ∧ exec (.dataFrame h words) s = .next t ∧
      WatchedElsewhere b (rejectCrossing b x) t := by
  have honly (o : Branch) : closesBefore (usedValues s.slr words) s o = true ↔ o = b := by
    refine ⟨fun ho => ?_, fun e => e ▸ closesBefore_of_confirms hcounter hrun htop hconfirms⟩
    by_contra hob
    simp [closesBefore_false (.inl (hquiet o hob))] at ho
  have hbefore := closeBeforeDelivery_one (usedValues s.slr words) s b honly
  have hruns : counterRuns (takePicks 1 s) b = true := (counterRuns_iff b).mpr ⟨hrun, by simp [takePicks, hcounter]⟩
  have hat : atTop b (takePicks 1 s) = takePicks 1 s := by
    have hcount : countOf (takePicks 1 s) b = a.count := by simp [countOf, takePicks, hcounter]
    have hreached : topCount (takePicks 1 s) ≤ countOf (takePicks 1 s) b := hcount ▸ htop
    exact if_neg (Nat.not_lt.mpr hreached)
  have hclosed := synthesise_closes (u := takePicks 1 s) (b := b) (p := ended) hrun (by simp [takePicks, hended]) hmisses
  have hreached := reachTop_below hruns (by rw [hat]; exact hruns) (by
    rw [hat, hclosed.settings, hclosed.track_self]
    exact hlimit)
  rw [hreached, hat] at hbefore
  generalize synthesise b (takePicks 1 s) = z at hclosed hbefore
  have hslr : z.slr = s.slr := hclosed.slr
  have hsettings : z.ct.settings = s.ct.settings := hclosed.settings
  have hrunz : z.oc.device = .run := hclosed.device.trans hrun
  obtain ⟨x, t, hseen, hexec, hafter⟩ := exec_confirms hexp hbefore (.inr hrunz)
    (confirms_of_stands hconfirms hslr hsettings (by rw [hclosed.track_self]; rfl) (by rw [hclosed.track_self]; rfl))
    fun o ho => quiet_of_stands (hquiet o ho) hslr hsettings (hclosed.track_ne ho)
  have hcounterx : (x.ct.tracks.get b).counter = some ⟨s.ct.settings.halfWidth, 0⟩ := by
    rw [hseen.own, hclosed.track_self]
    rfl
  have hlow : s.ct.settings.halfWidth < acceptFrom x := by
    have hfrom : s.ct.settings.halfWidth < 2048 - s.ct.settings.halfWidth := by omega
    rw [acceptFrom, hseen.settings, hsettings]
    exact hfrom
  rw [confirmCrossing, hseen.oc, hrunz] at hafter
  exact ⟨z, x, t, hclosed, hseen, hexec, by rw [← runCrossing_below b c x _ hcounterx hlow]; exact hafter⟩

end

end Sys2Proof.Machine

/-! The period filter and the crossings in RUN, settled (R55 to R60, R69, R72, R107 to R109, R118, R127). -/

namespace Sys2Proof.Machine

open Safety

section
variable {s t u v x z : State} {b : Branch} {c : Candidate} {h : LinkWord} {words : PerQuantity (PerLink LinkWord)} {a : AngleCounter}
  {ended : Polarity}

/-! ## The crossings that are no closure (R55, R56) -/

/-- R55: the start crossing. -/
theorem exec_starts {p : Nat} (hexp : Expected s h) (hrun : s.oc.device = .run) (hconfirms : Confirms s words b c)
    (hquiet : ∀ o, o ≠ b → Quiet s words o) (hp : (s.ct.tracks.get b).period = some p) (hcounter : (s.ct.tracks.get b).counter = none) :
    ∃ t, exec (.dataFrame h words) s = .next t ∧ t.oc = s.oc ∧ t.hr.ring = s.hr.ring ∧ t.vlc.firing = s.vlc.firing ∧
      t.ct.tracks.get b = { watchedTrack (voltageIn s words b) none (s.ct.tracks.get b) with
        counter := some ⟨confirmedStart s c p, 0⟩, polarity := some (crossingPolarity c.direction)
        lastAccepted := some c.position, sync := .inSync } ∧
      (t.bdu.branches.get b).window = some ⟨0, 0, 0, 0, none, false, true⟩ ∧
      (∀ d, (t.vlc.groups.get (b.group d)).ready = false ∧ (t.vlc.groups.get (b.group d)).credit = false) := by
  obtain ⟨x, t, hseen, hexec, hafter⟩ :=
    exec_confirms_running hexp hrun hconfirms hquiet (.inl (by simp [counterRuns, hcounter]))
  rw [runCrossing_stopped b c x (by rw [hseen.own]; exact hcounter)] at hafter
  have hstart : (startCrossing b c x).ct.tracks.get b = { watchedTrack (voltageIn s words b) none (s.ct.tracks.get b) with
      counter := some ⟨confirmedStart s c p, 0⟩, polarity := some (crossingPolarity c.direction)
      lastAccepted := some c.position, sync := .inSync } := by
    simp [startCrossing, clearBranchReadiness, openWindow, hseen.own, hseen.period hp, hseen.start]
  refine ⟨t, hexec, ?_, ?_, ?_, hafter.own.trans hstart, ?_, fun d => ?_⟩
  · rw [show t.oc = (startCrossing b c x).oc from (congrArg State.oc hafter.rest :)]
    exact hseen.oc
  · rw [show t.hr = (startCrossing b c x).hr from (congrArg State.hr hafter.rest :)]
    exact (congrArg History.ring hseen.hr :)
  · rw [show t.vlc = (startCrossing b c x).vlc from (congrArg State.vlc hafter.rest :)]
    exact (congrArg (·.firing) hseen.vlc :)
  · rw [show t.bdu = (startCrossing b c x).bdu from (congrArg State.bdu hafter.rest :)]
    simp [startCrossing, clearBranchReadiness, openWindow, newWindow]
  · rw [show t.vlc = (startCrossing b c x).vlc from (congrArg State.vlc hafter.rest :)]
    exact clearBranchReadiness_get b d _

/-- R56: what a rejection leaves. -/
structure CrossingRejected (b : Branch) (x t : State) : Prop where
  oc : t.oc = x.oc
  vlc : t.vlc = x.vlc
  hr : t.hr = x.hr
  slr : t.slr = x.slr
  bdu : t.bdu = x.bdu
  track : t.ct.tracks.get b = { x.ct.tracks.get b with rejected := count32 (x.ct.tracks.get b).rejected }
  event : t.sli.events.get .crossingRejected = ⟨true, bump 255 (x.sli.events.get .crossingRejected).count⟩
  others : OtherEventsKept [.crossingRejected] x t

theorem rejectCrossing_rejects (hafter : WatchedElsewhere b (rejectCrossing b x) t) : CrossingRejected b x t := by
  have hrest := hafter.rest
  have hown := hafter.own
  rw [rejectCrossing_eq] at hrest hown
  refine ⟨(congrArg State.oc hrest :), (congrArg State.vlc hrest :), (congrArg State.hr hrest :), (congrArg State.slr hrest :),
    (congrArg State.bdu hrest :), by rw [hown]; simp, ?_, fun e he => ?_⟩
  · rw [show t.sli = (noteEvent .crossingRejected _).sli from (congrArg State.sli hrest :)]
    simp
  · rw [show t.sli = (noteEvent .crossingRejected _).sli from (congrArg State.sli hrest :),
      noteEvent_events_ne _ _ _ (by simpa using he)]
    rfl

theorem exec_rejects (hexp : Expected s h) (hrun : s.oc.device = .run) (hconfirms : Confirms s words b c)
    (hquiet : ∀ o, o ≠ b → Quiet s words o) (hcounter : (s.ct.tracks.get b).counter = some a)
    (hbelow : a.count + s.ct.settings.halfWidth < 2048) :
    ∃ x t, CrossingSeen words b s x ∧ exec (.dataFrame h words) s = .next t ∧ CrossingRejected b x t := by
  have hcount : countOf s b < topCount s := by
    have htop : a.count < 2048 + s.ct.settings.halfWidth := by omega
    rw [countOf, hcounter]
    exact htop
  obtain ⟨x, t, hseen, hexec, hafter⟩ := exec_confirms_running hexp hrun hconfirms hquiet (.inr hcount)
  have hlow : a.count < acceptFrom x := by
    have hfrom : a.count < 2048 - s.ct.settings.halfWidth := by omega
    rw [acceptFrom, hseen.settings]
    exact hfrom
  rw [runCrossing_below b c x a (by rw [hseen.own]; exact hcounter) hlow] at hafter
  exact ⟨x, t, hseen, hexec, rejectCrossing_rejects hafter⟩

/-! ## The delay handed over (R107 to R109) -/

theorem comesLate_eq_true {delay count : Nat} (hd : delay < 2048) (hle : delay ≤ count) : comesLate delay count = true := by
  simp only [comesLate, decide_eq_true_eq]
  omega

theorem handedFiring_late {delay count : Nat} (hd : delay < 2048) (hle : delay ≤ count) :
    handedFiring delay count = ⟨none, some ⟨.lateDecision, none⟩, none⟩ := by
  rw [handedFiring, if_neg (by omega), if_pos hle]

theorem handedFiring_armed {delay count : Nat} (hd : delay < 2048) (hlt : count < delay) : handedFiring delay count = ⟨some delay, none, none⟩ := by
  rw [handedFiring_early hlt, if_neg (by omega)]

theorem handedFiring_noOrder (count : Nat) : handedFiring 2048 count = ⟨none, some ⟨.noOrder, none⟩, none⟩ := if_pos rfl

/-- R107 to R109: the half-cycle an accepted closure begins, by the delay decided and the start count. Where the delay lies one above the
start count, R108 leaves the order of hand-over and advance open. -/
theorem AcceptClosed.hands_over {v : State} {count start : Nat} (k : AcceptClosed b c ended count x v)
    (hstart : startCount x (periodOf x b) c.position = start) (hopen : (x.vlc.firing.get b).transaction = none) :
    let delay := decidedDelay x b .accepted
    let due := dueGroup b (crossingPolarity c.direction)
    let armed := v.vlc.firing.get b = ⟨some delay, none, none⟩ ∧ (v.ct.tracks.get b).counter = some ⟨start, 0⟩ ∧
      v.sli.events.get .lateDecision = x.sli.events.get .lateDecision
    let late (at_ : Nat) := v.vlc.firing.get b = ⟨none, some ⟨.lateDecision, none⟩, none⟩ ∧ (v.ct.tracks.get b).counter = some ⟨at_, 0⟩ ∧
      (v.vlc.groups.get due).counters.lateDecisions = count16 (x.vlc.groups.get due).counters.lateDecisions ∧
      v.sli.events.get .lateDecision = ⟨true, bump 255 (x.sli.events.get .lateDecision).count⟩
    (delay = 2048 → v.vlc.firing.get b = ⟨none, some ⟨.noOrder, none⟩, none⟩ ∧ (v.ct.tracks.get b).counter = some ⟨start, 0⟩) ∧
    (delay < 2048 → delay ≤ start → late start) ∧ (delay < 2048 → start + 1 < delay → armed) ∧
    (delay < 2048 → delay = start + 1 → armed ∨ late delay) := by
  intro delay due armed late
  have hcounted := k.counted
  have hfired := k.firing
  have hlate := k.late
  have hat : (v.ct.tracks.get b).counter = some ⟨count, 0⟩ := by
    rw [k.track]
    rfl
  rw [hstart] at hcounted
  have comes (at_ : Nat) (hd : delay < 2048) (hle : delay ≤ at_) (hcount : count = at_) : late at_ := by
    subst hcount
    obtain ⟨hcounters, hevent⟩ := k.comes_late hopen (comesLate_eq_true hd hle)
    exact ⟨hfired.trans (handedFiring_late hd hle), hat, hcounters, hevent⟩
  have arms (hd : delay < 2048) (hlt : start < delay) (hcount : count = start) : armed := by
    rw [hcount] at hfired hat hlate
    rw [comesLate_of_early hlt] at hlate
    exact ⟨hfired.trans (handedFiring_armed hd hlt), hat, hlate⟩
  have stands (hnot : ¬ delay = start + 1 ∨ ¬ delay < 2048) : count = start := hcounted.resolve_right fun e => by omega
  refine ⟨fun hnone => ?_, fun hd hle => comes start hd hle (stands (.inl (by omega))),
    fun hd hlt => arms hd (by omega) (stands (.inl (by omega))), fun hd hnext => ?_⟩
  · rw [stands (.inr (by omega))] at hfired hat
    rw [show decidedDelay x b .accepted = 2048 from hnone] at hfired
    exact ⟨hfired.trans (handedFiring_noOrder start), hat⟩
  · obtain hcount | ⟨-, -, hcount⟩ := hcounted
    · exact .inl (arms hd (by omega) hcount)
    · exact .inr (comes _ hd le_rfl hcount)

section
variable {n : Nominal} (hexp : Expected s h) (hrun : s.oc.device = .run) (hconfirms : Confirms s words b c)
  (hquiet : ∀ o, o ≠ b → Quiet s words o) (hcounter : (s.ct.tracks.get b).counter = some a)
  (hended : (s.ct.tracks.get b).polarity = some ended)
include hexp hrun hconfirms hquiet hcounter hended

/-! ## Accepted in the acceptance window (R57 to R60) -/

section
variable (hfrom : 2048 ≤ a.count + s.ct.settings.halfWidth) (hbelow : a.count < 2048 + s.ct.settings.halfWidth)
include hfrom hbelow

/-- R58, R107 to R109, R118, R167: with no order open, the closure re-phases the counter, moves the period, passes the readiness on, stores
its record and hands its delay over. -/
theorem exec_accepts_handing {p : Nat} (hp : (s.ct.tracks.get b).period = some p) (hopen : (s.vlc.firing.get b).transaction = none)
    (hfree : s.hr.capture = .free) (hoff : s.hr.triggers = 0) :
    let begins : Polarity := if c.direction = .rising then .pos else .neg
    let start : Nat := confirmedStart s c p
    let seen : Track := { s.ct.tracks.get b with previous := some (voltageIn s words b), candidate := none }
    let due := dueGroup b begins
    let other := dueGroup b (flipPolarity begins)
    ∃ t, exec (.dataFrame h words) s = .next t ∧ t.oc.device = .run ∧
      (let k := t.ct.tracks.get b
       k = { seen with
         counter := k.counter, period := k.period, polarity := some begins, lastAccepted := some c.position
         synthesisedRun := 0, accepted := count32 seen.accepted } ∧
       (seen.lastAccepted = none → k.period = some p) ∧
       (∀ l, seen.lastAccepted = some l → k.period = some (updatePeriod (if s.ct.nominal = some .hz60 then 1280 else 1536) p
         (16 * ((c.position.frame - l.frame).toNat : Int) + (c.position.fraction - l.fraction))))) ∧
      (t.vlc.groups.get due).ready = (s.vlc.groups.get due).credit ∧ (t.vlc.groups.get due).credit = false ∧
      (t.vlc.groups.get other).ready = false ∧ (t.vlc.groups.get other).credit = false ∧
      (t.bdu.branches.get b).window = some ⟨0, 0, 0, 0, none, false, false⟩ ∧ t.hr.nextSeq = s.hr.nextSeq + 1 ∧
      ∃ r, t.hr.ring.getLast? = some r ∧ r.seq = s.hr.nextSeq ∧ r.branch = b ∧ r.kind = .accepted ∧ r.ended = ended ∧
        r.frameIndex = s.slr.frameIndex + 1 ∧ r.outcome = ((s.vlc.firing.get b).outcome.map (·.outcome)).getD .noOrder ∧
        (t.bdu.branches.get b).decision = some ⟨r.susceptance, r.delay⟩ ∧ r.state = (t.bdu.branches.get b).state ∧
        (let armed := t.vlc.firing.get b = ⟨some r.delay, none, none⟩ ∧ (t.ct.tracks.get b).counter = some ⟨start, 0⟩ ∧
           t.sli.events.get .lateDecision = s.sli.events.get .lateDecision
         let late (at_ : Nat) := t.vlc.firing.get b = ⟨none, some ⟨.lateDecision, none⟩, none⟩ ∧
           (t.ct.tracks.get b).counter = some ⟨at_, 0⟩ ∧
           (t.vlc.groups.get due).counters.lateDecisions = count16 (s.vlc.groups.get due).counters.lateDecisions ∧
           t.sli.events.get .lateDecision = ⟨true, bump 255 (s.sli.events.get .lateDecision).count⟩
         (r.delay = 2048 → t.vlc.firing.get b = ⟨none, some ⟨.noOrder, none⟩, none⟩ ∧
           (t.ct.tracks.get b).counter = some ⟨start, 0⟩) ∧
         (r.delay < 2048 → r.delay ≤ start → late start) ∧
         (r.delay < 2048 → start + 1 < r.delay → armed) ∧
         (r.delay < 2048 → r.delay = start + 1 → armed ∨ late r.delay)) := by
  intro begins start seen due other
  have hbegins : begins = crossingPolarity c.direction := (crossingPolarity_eq _).symm
  have hmarks : MissesBelow s b := fun y hy => by simp [hopen] at hy
  obtain ⟨x, v, t, count, hseen, hexec, hclosed, hafter⟩ :=
    exec_accepts hexp hrun hconfirms hquiet hcounter hfrom hbelow hended hmarks
  have hfiring : x.vlc.firing.get b = s.vlc.firing.get b := by rw [hseen.vlc]
  have hopenx : (x.vlc.firing.get b).transaction = none := by rw [hfiring]; exact hopen
  have hoffx : x.hr.triggers = 0 := by rw [hseen.hr]; exact hoff
  have hfreex : x.hr.capture = .free := by rw [hseen.hr]; exact hfree
  have htrack : t.ct.tracks.get b = _ := hafter.own.trans hclosed.track
  have hvlc : t.vlc = v.vlc := (congrArg State.vlc hafter.rest :)
  have hsli : t.sli = v.sli := (congrArg State.sli hafter.rest :)
  have hhr : t.hr = v.hr := (congrArg State.hr hafter.rest :)
  have hbdu : t.bdu = v.bdu := (congrArg State.bdu hafter.rest :)
  have hstart : startCount x (periodOf x b) c.position = start := by rw [hseen.period hp]; exact hseen.start c p
  have hready := hclosed.readiness hopenx
  have hhands := hclosed.hands_over hstart hopenx
  rw [← hvlc, hseen.vlc, ← hbegins] at hready
  rw [← hvlc, ← hsli, ← hafter.own, hseen.vlc, ← hbegins, hseen.event (by decide)] at hhands
  have hmeasured := hseen.measured hp c
  refine ⟨t, hexec, ?_, ⟨?_, fun hnone => ?_, fun l hl => ?_⟩, hready.1, hready.2.1, hready.2.2.1, hready.2.2.2, ?_, ?_,
    _, by rw [hhr]; exact hclosed.last hoffx hfreex, ?_, rfl, rfl, rfl, hseen.index, ?_, ?_, ?_, hhands⟩
  · rw [show t.oc = v.oc from (congrArg State.oc hafter.rest :), hclosed.device, hseen.oc, hrun]
  · rw [htrack, hseen.own, hbegins]
    rfl
  · rw [show (s.ct.tracks.get b).lastAccepted = none from hnone] at hmeasured
    rw [htrack]
    exact congrArg some hmeasured
  · rw [show (s.ct.tracks.get b).lastAccepted = some l from hl] at hmeasured
    rw [htrack]
    exact congrArg some hmeasured
  · rw [hbdu, hclosed.branch]
    rfl
  · rw [hhr, hclosed.appended hoffx hfreex, hseen.hr]
    rfl
  · rw [← hseen.hr]
    rfl
  · rw [← hfiring]
    exact endOutcome_idle hopenx
  · rw [hbdu, hclosed.branch, decidedDemand_decision]
    rfl
  · rw [hbdu, hclosed.branch]
    rfl

/-- R72, R127: with an order open, the closure settles it. -/
theorem exec_accepts_settling {x : Transaction} (hopen : (s.vlc.firing.get b).transaction = some x) (hfree : s.hr.capture = .free)
    (hoff : s.hr.triggers = 0) (hmisses : (s.vlc.groups.get x.group).misfireRun + 1 < s.vlc.settings.misfireLimit) :
    let overtaken := x.phase = .waiting ∧ x.attempts ≤ 1
    let old := s.vlc.groups.get x.group
    ∃ t r, exec (.dataFrame h words) s = .next t ∧ t.oc.device = .run ∧ t.hr.ring.getLast? = some r ∧ r.branch = b ∧
      r.kind = .accepted ∧ r.ended = ended ∧ r.outcome = (if overtaken then .overtaken else .misfire) ∧
      r.attempts = some x.attempts ∧ (t.vlc.firing.get b).transaction = none ∧ (t.vlc.groups.get x.group).failure = old.failure ∧
      (t.vlc.groups.get x.group).counters.overtaken =
        (if overtaken then count16 old.counters.overtaken else old.counters.overtaken) ∧
      (t.vlc.groups.get x.group).counters.misfires =
        (if overtaken then old.counters.misfires else count16 old.counters.misfires) ∧
      (t.vlc.groups.get x.group).misfireRun = (if overtaken then old.misfireRun else old.misfireRun + 1) := by
  intro overtaken old
  have hbelowLimit : MissesBelow s b := fun y hy => by
    rw [hopen] at hy
    cases hy
    exact hmisses
  obtain ⟨y, v, t, count, hseen, hexec, hclosed, hafter⟩ :=
    exec_accepts hexp hrun hconfirms hquiet hcounter hfrom hbelow hended hbelowLimit
  have hopeny : (y.vlc.firing.get b).transaction = some x := by rw [hseen.vlc]; exact hopen
  have hoffy : y.hr.triggers = 0 := by rw [hseen.hr]; exact hoff
  have hfreey : y.hr.capture = .free := by rw [hseen.hr]; exact hfree
  obtain ⟨hfailure, hruncount, hcounters⟩ := hclosed.group_keeps x.group
  have hsettled : settledRecord (y.vlc.firing.get b) x.group (y.vlc.groups.get x.group) =
      if missed x then missedRecord old else overtakenRecord old := by
    rw [settledRecord, hopeny, hseen.vlc]
    exact if_pos rfl
  rw [hsettled, ← show t.vlc = v.vlc from (congrArg State.vlc hafter.rest :)] at hfailure hruncount hcounters
  have hhr : t.hr = v.hr := (congrArg State.hr hafter.rest :)
  refine ⟨t, _, hexec, ?_, by rw [hhr]; exact hclosed.last hoffy hfreey, rfl, rfl, rfl, ?_, ?_, ?_, ?_, ?_⟩
  · rw [show t.oc = v.oc from (congrArg State.oc hafter.rest :), hclosed.device, hseen.oc, hrun]
  · rw [endOutcome_open hopeny]
    by_cases hwaits : overtaken
    · rw [if_pos hwaits, missed_eq_false_iff.mpr hwaits]
      rfl
    · rw [if_neg hwaits, eq_true_of_ne_false (mt missed_eq_false_iff.mp hwaits)]
      rfl
  · rw [endOutcome_open hopeny]
    rfl
  · rw [show t.vlc = v.vlc from (congrArg State.vlc hafter.rest :), hclosed.firing, handedFiring_transaction]
  · rw [hfailure]
    split <;> rfl
  · rw [hcounters, hruncount]
    by_cases hwaits : overtaken
    · rw [missed_eq_false_iff.mpr hwaits]
      simp only [if_pos hwaits]
      exact ⟨rfl, rfl, rfl⟩
    · rw [eq_true_of_ne_false (mt missed_eq_false_iff.mp hwaits)]
      simp only [if_neg hwaits]
      exact ⟨rfl, rfl, rfl⟩

/-- R69, R72, R167: the closure judges the window with the frame in it. -/
theorem exec_accepts_judging (hn : s.ct.nominal = some n)
    (hgroups : ∀ g, (s.vlc.groups.get g).misfireRun + 1 < s.vlc.settings.misfireLimit) :
    ∃ t, exec (.dataFrame h words) s = .next t ∧ t.oc.device = .run ∧
      let judged := judgedIn s words n b t.slr
      t.slr.frameIndex = s.slr.frameIndex + 1 ∧ t.bdu.branches.get b = decidedDemand judged b .accepted ∧
      (s.hr.capture = .free → s.hr.triggers = 0 → ∃ r, t.hr.ring.getLast? = some r ∧
        r = decidedRecord judged b .accepted ended r.outcome r.attempts) := by
  have hall : AllBelow s := hgroups
  obtain ⟨x, v, t, count, hseen, hexec, hclosed, hafter⟩ :=
    exec_accepts hexp hrun hconfirms hquiet hcounter hfrom hbelow hended (hall.missesBelow b)
  have hslr : t.slr = x.slr := (congrArg State.slr hafter.rest :).trans hclosed.slr
  have hjudged := hseen.judgedAlike hrun hn
  refine ⟨t, hexec, ?_, ?_⟩
  · rw [show t.oc = v.oc from (congrArg State.oc hafter.rest :), hclosed.device, hseen.oc, hrun]
  · intro judged
    rw [show judged = judgedIn s words n b x.slr by rw [← hslr]]
    refine ⟨by rw [hslr, hseen.index], ?_, fun hfree hoff => ?_⟩
    · rw [show t.bdu = v.bdu from (congrArg State.bdu hafter.rest :), hclosed.branch, hjudged.decidedDemand]
    · have hlast := hclosed.last (by rw [hseen.hr]; exact hoff) (by rw [hseen.hr]; exact hfree)
      rw [← show t.hr = v.hr from (congrArg State.hr hafter.rest :)] at hlast
      exact ⟨_, hlast, hjudged.decidedRecord .accepted ended _ _ (by rw [hseen.hr]; rfl)⟩

end

/-! ## Closed first and then rejected (R59, R69) -/

section
variable (htop : 2048 + s.ct.settings.halfWidth ≤ a.count) (hwidth : s.ct.settings.halfWidth ≤ 512)
  (hlimit : (s.ct.tracks.get b).synthesisedRun + 1 < s.ct.settings.limit)
include htop hwidth hlimit

/-- R56, R61: what the crossing leaves of its branch's tracking items. -/
theorem exec_closes_then_rejects (hopen : (s.vlc.firing.get b).transaction = none) :
    ∃ t, exec (.dataFrame h words) s = .next t ∧ t.oc.device = .run ∧
      t.ct.tracks.get b = { s.ct.tracks.get b with
        previous := some (voltageIn s words b), candidate := none
        counter := some ⟨s.ct.settings.halfWidth, 0⟩, polarity := some (flipPolarity ended), lastAccepted := none
        synthesisedRun := (s.ct.tracks.get b).synthesisedRun + 1
        synthesised := count32 (s.ct.tracks.get b).synthesised, rejected := count32 (s.ct.tracks.get b).rejected } ∧
      t.sli.events.get .crossingSynthesized = ⟨true, bump 255 (s.sli.events.get .crossingSynthesized).count⟩ ∧
      t.sli.events.get .crossingRejected = ⟨true, bump 255 (s.sli.events.get .crossingRejected).count⟩ := by
  have hmarks : MissesBelow s b := fun y hy => by simp [hopen] at hy
  obtain ⟨z, x, t, hclosed, hseen, hexec, hafter⟩ :=
    exec_closes_first hexp hrun hconfirms hquiet hcounter htop hwidth hended hmarks hlimit
  have hrejected := rejectCrossing_rejects hafter
  have hfirst : z.sli.events.get .crossingRejected = s.sli.events.get .crossingRejected := hclosed.events _ (by decide)
  refine ⟨t, hexec, ?_, ?_, ?_, ?_⟩
  · rw [hrejected.oc, hseen.oc, hclosed.device]
    exact hrun
  · rw [hrejected.track, hseen.own, hclosed.track_self, synthTrack,
      show (takePicks 1 s).ct.tracks.get b = s.ct.tracks.get b from rfl, hended, voltageIn_congr (show z.slr = s.slr from hclosed.slr)]
    rfl
  · rw [hrejected.others _ (by decide), hseen.event (by decide), hclosed.synthesized]
    rfl
  · rw [hrejected.event, hseen.event (by decide), hfirst]

/-- R69: the closure judges the window without the frame, which goes to the new one. -/
theorem exec_closes_judging (hn : s.ct.nominal = some n)
    (hgroups : ∀ g, (s.vlc.groups.get g).misfireRun + 1 < s.vlc.settings.misfireLimit) :
    let closed := decidedDemand s b .synthesized
    ∃ t, exec (.dataFrame h words) s = .next t ∧ t.oc.device = .run ∧
      t.slr.frameIndex = s.slr.frameIndex + 1 ∧
      t.bdu.branches.get b = { closed with window := closed.window.map (fedWindow s words n b) } ∧
      (s.hr.capture = .free → s.hr.triggers = 0 → ∃ r, t.hr.ring.getLast? = some r ∧
        r = decidedRecord s b .synthesized ended r.outcome r.attempts) := by
  intro closed
  have hall : AllBelow s := hgroups
  obtain ⟨z, x, t, hclosed, hseen, hexec, hafter⟩ :=
    exec_closes_first hexp hrun hconfirms hquiet hcounter htop hwidth hended (hall.missesBelow b) hlimit
  have hrejected := rejectCrossing_rejects hafter
  have hslr : z.slr = s.slr := hclosed.slr
  have hpicked : JudgedAlike b s (takePicks 1 s) := ⟨rfl, rfl, rfl, rfl, rfl, rfl⟩
  have hrunz : z.oc.device = .run := hclosed.device.trans hrun
  have hnominal : nominalOf z = n := by
    rw [nominalOf, show z.ct.nominal = s.ct.nominal from (congrArg (·.ct.nominal) hclosed.rest :), hn]
    rfl
  have hwindow : fedWindow z words n b = fedWindow s words n b := by
    funext y
    simp only [fedWindow, hslr, show z.bdu.lines = s.bdu.lines from (congrArg (·.bdu.lines) hclosed.rest :)]
  have hbranch := hseen.fed.windows hrunz b
  rw [hnominal, hwindow, hclosed.branches, PerBranch.get_set_self, hpicked.decidedDemand] at hbranch
  refine ⟨t, hexec, ?_, ?_, ?_, fun hfree hoff => ?_⟩
  · rw [hrejected.oc, hseen.oc, hrunz]
  · rw [hrejected.slr, hseen.index, hslr]
  · rw [hrejected.bdu]
    exact hbranch
  · have hlast := hclosed.last hoff hfree
    rw [← hseen.hr, ← hrejected.hr] at hlast
    exact ⟨_, hlast, hpicked.decidedRecord .synthesized ended _ _ rfl⟩

end

end

/-- Settles O38. -/
theorem periodMovesAnEighth : Obligations.PeriodMovesAnEighth := by
  unfold Obligations.PeriodMovesAnEighth
  refine ⟨updatePeriod_moves, fun s h w b c p hexp hrun hconfirms hquiet hp hcounter => ?_,
    fun s h w b c a hexp hrun hconfirms hquiet hcounter hbelow => ?_,
    fun s h w b c p a ended hexp hrun hconfirms hquiet hp hcounter hfrom hbelow hended hopen hfree hoff hwrap htable =>
      exec_accepts_handing hexp hrun hconfirms hquiet hcounter hended hfrom hbelow hp hopen hfree hoff,
    fun s h w b c a ended hexp hrun hconfirms hquiet hcounter hended htop hwidth harmed hopen hlimit =>
      exec_closes_then_rejects hexp hrun hconfirms hquiet hcounter hended htop hwidth hlimit hopen,
    fun s h w b c a ended x hexp hrun hconfirms hquiet hcounter hended hfrom hbelow hopen hfree hoff hwrap hmisses =>
      exec_accepts_settling hexp hrun hconfirms hquiet hcounter hended hfrom hbelow hopen hfree hoff hmisses,
    fun s h w b c a ended n hexp hrun hn hconfirms hquiet hcounter hended hfrom hbelow hgroups =>
      exec_accepts_judging hexp hrun hconfirms hquiet hcounter hended hfrom hbelow hn hgroups,
    fun s h w b c a ended n hexp hrun hn hconfirms hquiet hcounter hended htop hwidth hlimit hgroups =>
      exec_closes_judging hexp hrun hconfirms hquiet hcounter hended htop hwidth hlimit hn hgroups⟩
  · intro begins start seen
    rw [show begins = crossingPolarity c.direction from (crossingPolarity_eq _).symm]
    exact exec_starts hexp hrun hconfirms hquiet hp hcounter
  · obtain ⟨x, t, hseen, hexec, hrejected⟩ := exec_rejects hexp hrun hconfirms hquiet hcounter hbelow
    refine ⟨t, hexec, hrejected.oc.trans hseen.oc, hrejected.vlc.trans hseen.vlc, by rw [hrejected.hr, hseen.hr], ?_, ?_⟩
    · rw [hrejected.track, hseen.own]
      rfl
    · rw [hrejected.event, hseen.event (by decide)]

end

end Sys2Proof.Machine

/-! A tick of the clock: what stands still, what it advances, and the marks it brings (R36, R47, R54, R115, R155, R183, R194). -/

namespace Sys2Proof.Machine

open Safety

section
variable {s t : State} {b : Branch}

/-! ## A device held in reset (R183, R194) -/

theorem exec_held (c : Instr) (h : inReset s = true)
    (hc : c ≠ .powerOn ∧ c ≠ .supplyDip ∧ c ≠ .resetLine ∧ c ≠ .resetLineRelease ∧ c ≠ .supplyRecovery ∧ ∀ i l, c ≠ .rawLevelChange i l) :
    exec c s = .next s := by
  obtain ⟨hpower, hdip, hline, hrelease, hrecovery, hraw⟩ := hc
  cases c with
  | powerOn => exact absurd rfl hpower
  | supplyDip => exact absurd rfl hdip
  | resetLine => exact absurd rfl hline
  | resetLineRelease => exact absurd rfl hrelease
  | supplyRecovery => exact absurd rfl hrecovery
  | rawLevelChange i l => exact absurd rfl (hraw i l)
  | _ => exact congrArg Host.Outcome.next (running_held _ s h)

/-! ## The angle counters (R54) -/

/-- R54: a branch's tracking items one tick later. -/
def advancedTrack (s : State) (k : Track) : Track :=
  if s.oc.device = .run then
    { k with counter := k.counter.map (advanceCounter (topCount s) (k.period.getD (halfPeriod (nominalOf s)))) }
  else k

theorem advanceAngle_eq (b : Branch) (s : State) : advanceAngle b s = modTrack b (advancedTrack s) s := by
  have hstill {k : Track} (hk : s.ct.tracks.get b = k) : modTrack b (fun _ => k) s = s := by
    rw [modTrack, ← hk, PerBranch.set_get]
  unfold advanceAngle
  by_cases hruns : counterRuns s b = true
  · have hrun := counterRuns_run hruns
    rw [if_pos hruns]
    simp only [modTrack, advancedTrack, if_pos hrun, periodOf]
  · rw [if_neg hruns]
    refine (hstill ?_).symm
    unfold advancedTrack
    split
    · next hrun =>
      have hnone : (s.ct.tracks.get b).counter = none := by
        simpa [counterRuns_iff, hrun] using hruns
      rw [hnone, Option.map_none, ← hnone]
    · rfl

/-- R54: the three counters, each by its own period. -/
theorem advanceAngles_eq (s : State) :
    forBranches advanceAngle s = { s with ct := { s.ct with tracks := s.ct.tracks.mapKey fun _ => advancedTrack s } } := by
  rw [forBranches, advanceAngle_eq, advanceAngle_eq, advanceAngle_eq]
  rfl

/-! ## A tick's time (log entry 1) -/

theorem advanceTime_within (h : s.clock.phase + 1 < 32) : advanceTime s = { s with
    clock := { s.clock with phase := s.clock.phase + 1 }
    ct := { s.ct with tracks := s.ct.tracks.mapKey fun _ => advancedTrack s } } := by
  rw [advanceTime, advanceAngles_eq]
  exact if_pos h

theorem advanceTime_ends (h : s.clock.phase = 31) : advanceTime s = advanceInterval { s with
    clock := { s.clock with phase := 0 }
    ct := { s.ct with tracks := s.ct.tracks.mapKey fun _ => advancedTrack s } } := by
  have hlast : ¬ s.clock.phase + 1 < Config.ticksPerInterval := by
    rw [h]
    decide
  rw [advanceTime, advanceAngles_eq]
  exact if_neg hlast

/-- R36, R47, R115, R155: what a tick's time changes. -/
structure TimeAdvanced (ends : Prop) [Decidable ends] (s t : State) : Prop where
  phase : t.clock.phase = (s.clock.phase + 1) % 32
  sinceReset : t.clock.sinceReset = if ends then bump 8 s.clock.sinceReset else s.clock.sinceReset
  slr : t.slr = { s.slr with gap := if ends ∧ s.slr.gapRunning = true then bump 48 s.slr.gap else s.slr.gap }
  progress : t.ct.progress = { s.ct.progress with
    elapsed := if ends ∧ s.oc.device = .acquire then bump 19200 s.ct.progress.elapsed else s.ct.progress.elapsed }
  channels : ∀ c, t.vlc.channels.get c = { s.vlc.channels.get c with
    silence := if ends then bump 384 (s.vlc.channels.get c).silence else (s.vlc.channels.get c).silence }
  inputs : ∀ i, t.pli.inputs.get i = { s.pli.inputs.get i with
    stability := if ends then bump 8 (s.pli.inputs.get i).stability else (s.pli.inputs.get i).stability }
  tracks : t.ct.tracks = s.ct.tracks.mapKey fun _ => advancedTrack s
  rest : t = { s with
    clock := t.clock, slr := t.slr, ct := { s.ct with progress := t.ct.progress, tracks := t.ct.tracks }
    vlc := { s.vlc with channels := t.vlc.channels }, pli := { s.pli with inputs := t.pli.inputs } }

theorem advanceTime_advances (h : s.clock.phase < 32) : TimeAdvanced (s.clock.phase = 31) s (advanceTime s) := by
  by_cases hends : s.clock.phase = 31
  · rw [advanceTime_ends hends]
    refine ⟨by simp [advanceInterval, hends], by simp [advanceInterval, hends, Config.stableMark], ?_, ?_, fun c => ?_, fun i => ?_, rfl, rfl⟩
    · simp [advanceInterval, hends, Config.lostMark]
    · simp [advanceInterval, hends, Config.acquireLimit]
    · simp [advanceInterval, hends, Config.silenceMark]
    · simp [advanceInterval, hends, Config.stableMark]
  · have hwithin : s.clock.phase + 1 < 32 := by omega
    rw [advanceTime_within hwithin]
    refine ⟨(Nat.mod_eq_of_lt hwithin).symm, by simp [hends], by simp [hends], by simp [hends], fun c => by simp [hends],
      fun i => by simp [hends], rfl, rfl⟩

/-! ## The queue and the pins -/

theorem endSettling_pins (s : State) : (endSettling s).pins = s.pins := by
  unfold endSettling
  split
  · dsimp only
    split
    · simp
    · rfl
  · rfl

theorem receiverOn_pins (s : State) : (receiverOn s).pins = s.pins := by
  unfold receiverOn
  split
  · exact endSettling_pins s
  · rfl

theorem actOnLevel_pins (i : PlantInput) (level : Bool) (s : State) : (actOnLevel i level s).pins = s.pins := by
  unfold actOnLevel
  split
  · split
    · simp
    · rfl
  · simp
  · rfl

theorem changeLevel_pins (i : PlantInput) (s : State) : (changeLevel i s).pins = s.pins := by
  unfold changeLevel
  dsimp only
  split
  · rw [actOnLevel_pins]
    simp
  · rfl

theorem runDue_pins (d : Due) (s : State) : (runDue d s).pins = s.pins := by
  cases d with
  | settling => exact endSettling_pins s
  | receiver => exact receiverOn_pins s
  | gap => simp [runDue, markGap]
  | line i => exact changeLevel_pins i s
  | _ => simp [runDue]

theorem tickRunning_pins (s : State) : (tickRunning s).pins = s.pins := by
  have hadvanced : (advanceTime s).pins = s.pins := by
    unfold advanceTime
    split <;> simp [advanceInterval, advanceAngles_eq]
  unfold tickRunning
  exact inAnyOrder_keeps runDue (fun t => t.pins = s.pins) _ _ (fun _ => hadvanced) fun d t ht => (runDue_pins d t).trans ht

theorem step_idle (h : s.pending = []) : step s = .next (tick s) := by simp only [step, h]

/-! ## The marks (log entry 2) -/

theorem mem_flatten_map {α : Type} {f : α → List Due} {l : List α} {d : Due} : d ∈ (l.map f).flatten ↔ ∃ c ∈ l, d ∈ f c := by
  rw [← List.flatMap_def, List.mem_flatMap]

/-- A timer that one step may have brought one further reaches its mark from just below it. -/
theorem justReached_bump {mark limit n : Nat} {p : Prop} [Decidable p] (hpos : 0 < mark) (hle : mark ≤ limit) :
    justReached mark n (if p then bump limit n else n) = true ↔ p ∧ n = mark - 1 := by
  unfold justReached bump
  rw [decide_eq_true_iff]
  split
  · next hp =>
    simp only [hp, true_and]
    split <;> omega
  · next hp =>
    simp only [hp, false_and, iff_false]
    omega

theorem mem_intervalDue_timers (s t : State) (d : Due) : d ∈ intervalDue s t ↔
    (t.clock.phase = 0 ∧ 8 ≤ t.clock.sinceReset ∧ t.pli.settling = true ∧ d = .settling) ∨
    (t.clock.phase = 0 ∧ 8 ≤ t.clock.sinceReset ∧ t.sli.receive = .off ∧ d = .receiver) ∨
    (justReached 3 s.slr.gap t.slr.gap = true ∧ d = .late) ∨ (justReached 12 s.slr.gap t.slr.gap = true ∧ d = .gap) ∨
    (justReached 48 s.slr.gap t.slr.gap = true ∧ d = .lost) ∨
    (justReached 19200 s.ct.progress.elapsed t.ct.progress.elapsed = true ∧ d = .timeout) ∨
    (∃ c, justReached 384 (s.vlc.channels.get c).silence (t.vlc.channels.get c).silence = true ∧
      (t.vlc.channels.get c).link = .active ∧ d = .silent c) ∨
    ∃ i, justReached 8 (s.pli.inputs.get i).stability (t.pli.inputs.get i).stability = true ∧
      (t.pli.inputs.get i).debounced ≠ t.pins.raw.get i ∧ d = .line i := by
  have hchannels (c : ValveChannel) : c ∈ ValveChannel.all := by cases c <;> decide
  have hinputs (i : PlantInput) : i ∈ PlantInput.all := by cases i <;> decide
  simp only [intervalDue, List.mem_append, mem_dueIf, mem_flatten_map, hchannels, hinputs, true_and,
    Bool.and_eq_true, beq_iff_eq, decide_eq_true_eq, bne_iff_ne, and_assoc, or_assoc]
  rfl

/-- The marks of one branch's counter. -/
theorem mem_angleDue (s t : State) (b : Branch) (d : Due) : d ∈ angleDue s t b ↔
    ((∃ n, (t.vlc.firing.get b).armed = some n ∧ countOf s b < n ∧ n ≤ countOf t b) ∧ d = .delay b) ∨
    ((∃ x, (t.vlc.firing.get b).transaction = some x ∧ x.phase = .waiting ∧ countOf s b < x.guardEnd ∧ x.guardEnd ≤ countOf t b) ∧
      d = .guardEnd b) ∨
    ((∃ x, (t.vlc.firing.get b).transaction = some x ∧ x.phase = .retryGap ∧ countOf s b < x.guardEnd + 8 ∧
      x.guardEnd + 8 ≤ countOf t b) ∧ d = .retry b) ∨
    ((∃ a, (t.ct.tracks.get b).counter = some a ∧ topCount t ≤ a.count) ∧ d = .top b) := by
  simp only [angleDue, List.mem_append, mem_dueIf, Option.any_eq_true, justReached, Bool.and_eq_true, beq_iff_eq, decide_eq_true_eq, or_assoc]
  rfl

theorem mem_dueAt (s t : State) (d : Due) : d ∈ dueAt s t ↔ d ∈ intervalDue s t ∨ ∃ b, d ∈ angleDue s t b := by
  simp only [dueAt, List.mem_append, or_assoc]
  refine or_congr_right ⟨fun h => ?_, fun ⟨b, hb⟩ => ?_⟩
  · obtain h | h | h := h
    · exact ⟨_, h⟩
    · exact ⟨_, h⟩
    · exact ⟨_, h⟩
  · cases b <;> simp [hb]

end

end Sys2Proof.Machine

/-! The device held in reset, and the tick (R36, R47, R54, R115, R155, R183, R194). -/

namespace Sys2Proof.Machine

open Safety

section
variable {s t : State} {b : Branch}

theorem advanceTime_tracks (s : State) : (advanceTime s).ct.tracks = s.ct.tracks.mapKey fun _ => advancedTrack s := by
  rw [advanceTime, advanceAngles_eq]
  dsimp only
  split <;> rfl

/-- R54: a counter below 2048 + W advances by 1024 parts of 1/P count. -/
theorem advanceCounter_advances {top p : Nat} {a : AngleCounter} (hbelow : a.count < top) (hp : 1024 < p) (hpart : a.part < p) :
    (advanceCounter top p a).count * p + (advanceCounter top p a).part = a.count * p + a.part + 1024 ∧
      (advanceCounter top p a).part < p := by
  rw [advanceCounter, if_neg (Nat.not_le.mpr hbelow)]
  split
  · next hwithin => exact ⟨by simp only; omega, hwithin⟩
  · next hcarries =>
    simp only [Nat.add_mul, Nat.one_mul]
    omega

theorem advanceTime_counter {a : AngleCounter} {p : Nat} (ha : (s.ct.tracks.get b).counter = some a)
    (hperiod : (s.ct.tracks.get b).period = some p) (hp : 1024 < p) (hpart : a.part < p) :
    ∃ x, (advanceTime s).ct.tracks.get b = { s.ct.tracks.get b with counter := some x } ∧
      (s.oc.device ≠ .run ∨ 2048 + s.ct.settings.halfWidth ≤ a.count → x = a) ∧
      (s.oc.device = .run → a.count < 2048 + s.ct.settings.halfWidth →
        x.count * p + x.part = a.count * p + a.part + 1024 ∧ x.part < p) := by
  rw [advanceTime_tracks, PerBranch.get_mapKey, advancedTrack]
  by_cases hrun : s.oc.device = .run
  · rw [if_pos hrun, ha, hperiod]
    refine ⟨advanceCounter (topCount s) p a, by simp [hperiod], fun hstill => ?_, fun _ hbelow => advanceCounter_advances hbelow hp hpart⟩
    exact if_pos (hstill.resolve_left (not_not.mpr hrun))
  · rw [if_neg hrun]
    exact ⟨a, by rw [← ha], fun _ => rfl, fun h => absurd h hrun⟩

/-! ## One mark alone (log entry 2) -/

theorem step_tick (hheld : inReset s = false) (hidle : s.pending = []) :
    step s = .next (inAnyOrder runDue (dueAt s (advanceTime s)) (advanceTime s)) := by
  rw [step_idle hidle, tick, running_free _ s hheld]
  rfl

/-! ## The marks of a tick -/

namespace TimeAdvanced

variable {ends : Prop} [Decidable ends] (h : TimeAdvanced ends s t)
include h

theorem gap : t.slr.gap = if ends ∧ s.slr.gapRunning = true then bump 48 s.slr.gap else s.slr.gap := (congrArg SampleLink.gap h.slr :)

theorem elapsed : t.ct.progress.elapsed =
    if ends ∧ s.oc.device = .acquire then bump 19200 s.ct.progress.elapsed else s.ct.progress.elapsed :=
  (congrArg Progress.elapsed h.progress :)

theorem settling : t.pli.settling = s.pli.settling := (congrArg (·.pli.settling) h.rest :)

theorem sli : t.sli = s.sli := (congrArg State.sli h.rest :)

theorem pins : t.pins = s.pins := (congrArg State.pins h.rest :)

theorem firing : t.vlc.firing = s.vlc.firing := (congrArg (·.vlc.firing) h.rest :)

theorem settings : t.ct.settings = s.ct.settings := (congrArg (·.ct.settings) h.rest :)

theorem gap_reaches {mark : Nat} (hpos : 0 < mark) (hle : mark ≤ 48) :
    justReached mark s.slr.gap t.slr.gap = true ↔ (ends ∧ s.slr.gapRunning = true) ∧ s.slr.gap = mark - 1 := by
  rw [h.gap, justReached_bump hpos hle]

theorem silence_reaches (c : ValveChannel) : justReached 384 (s.vlc.channels.get c).silence (t.vlc.channels.get c).silence = true ↔
    ends ∧ (s.vlc.channels.get c).silence = 383 := by
  rw [h.channels]
  exact justReached_bump (by decide) le_rfl

theorem stability_reaches (i : PlantInput) : justReached 8 (s.pli.inputs.get i).stability (t.pli.inputs.get i).stability = true ↔
    ends ∧ (s.pli.inputs.get i).stability = 7 := by
  rw [h.inputs]
  exact justReached_bump (by decide) le_rfl

/-- R155, R183: the interval that ends is at least the 8th since the reset. -/
theorem eighth_ends (hphase : t.clock.phase = 0 ↔ ends) : t.clock.phase = 0 ∧ 8 ≤ t.clock.sinceReset ↔ ends ∧ 7 ≤ s.clock.sinceReset := by
  rw [hphase, h.sinceReset]
  refine and_congr_right fun hends => ?_
  rw [if_pos hends, bump]
  split <;> omega

end TimeAdvanced

/-- The marks that count frame intervals. -/
theorem interval_marks (h : s.clock.phase < 32) (d : Due) : d ∈ intervalDue s (advanceTime s) ↔
    let ends := s.clock.phase = 31
    ((ends ∧ 7 ≤ s.clock.sinceReset) ∧ s.pli.settling = true ∧ d = .settling) ∨
    ((ends ∧ 7 ≤ s.clock.sinceReset) ∧ s.sli.receive = .off ∧ d = .receiver) ∨
    (((ends ∧ s.slr.gapRunning = true) ∧ s.slr.gap = 2) ∧ d = .late) ∨
    (((ends ∧ s.slr.gapRunning = true) ∧ s.slr.gap = 11) ∧ d = .gap) ∨
    (((ends ∧ s.slr.gapRunning = true) ∧ s.slr.gap = 47) ∧ d = .lost) ∨
    (((ends ∧ s.oc.device = .acquire) ∧ s.ct.progress.elapsed = 19199) ∧ d = .timeout) ∨
    (∃ c, (ends ∧ (s.vlc.channels.get c).silence = 383) ∧ (s.vlc.channels.get c).link = .active ∧ d = .silent c) ∨
    ∃ i, (ends ∧ (s.pli.inputs.get i).stability = 7) ∧ (s.pli.inputs.get i).debounced ≠ s.pins.raw.get i ∧ d = .line i := by
  have hadvanced := advanceTime_advances h
  generalize advanceTime s = t at hadvanced
  have hphase : t.clock.phase = 0 ↔ s.clock.phase = 31 := by
    rw [hadvanced.phase]
    omega
  have helapsed : justReached 19200 s.ct.progress.elapsed t.ct.progress.elapsed = true ↔
      (s.clock.phase = 31 ∧ s.oc.device = .acquire) ∧ s.ct.progress.elapsed = 19199 := by
    rw [hadvanced.elapsed]
    exact justReached_bump (by decide) le_rfl
  have hlink (c : ValveChannel) : (t.vlc.channels.get c).link = (s.vlc.channels.get c).link := by rw [hadvanced.channels]
  have hlevel (i : PlantInput) : (t.pli.inputs.get i).debounced = (s.pli.inputs.get i).debounced := by rw [hadvanced.inputs]
  rw [mem_intervalDue_timers, ← and_assoc, ← and_assoc (c := t.sli.receive = .off ∧ d = .receiver), hadvanced.eighth_ends hphase,
    hadvanced.gap_reaches (by decide) (by decide), hadvanced.gap_reaches (by decide) (by decide), hadvanced.gap_reaches (by decide) le_rfl,
    helapsed, hadvanced.settling, hadvanced.sli, hadvanced.pins]
  simp only [hadvanced.silence_reaches, hadvanced.stability_reaches, hlink, hlevel]

/-- Settles O6. -/
theorem heldDeviceStandsStill : Obligations.HeldDeviceStandsStill := by
  unfold Obligations.HeldDeviceStandsStill
  refine ⟨fun c s hheld hc => exec_held c hheld hc, fun s hidle => ⟨tick s, step_idle hidle, ?_, ?_, fun hheld => running_held _ s hheld⟩,
    fun s h => ?_, fun s b a p ha hperiod hp hpart => advanceTime_counter ha hperiod hp hpart,
    fun s hheld hidle => ⟨fun hnone => ?_, fun d hone => ?_⟩, fun s h => ?_⟩
  · rw [tick_shifts.pending, hidle]
  · rw [tick, running]
    split
    · rfl
    · exact tickRunning_pins s
  · have hadvanced := advanceTime_advances h
    intro t ends
    have hrest := hadvanced.rest
    exact ⟨hadvanced.phase, hadvanced.sinceReset, hadvanced.slr, hadvanced.progress, hadvanced.channels, hadvanced.inputs,
      (congrArg State.oc hrest :), (congrArg State.bdu hrest :), (congrArg State.causes hrest :), (congrArg State.hr hrest :),
      (congrArg State.sli hrest :), (congrArg State.table hrest :)⟩
  · rw [step_tick hheld hidle, hnone, inAnyOrder_nil]
  · rw [step_tick hheld hidle, hone, inAnyOrder_one]
    rfl
  · have hadvanced := advanceTime_advances h
    intro ends due
    have htop : topCount (advanceTime s) = 2048 + s.ct.settings.halfWidth := by
      rw [topCount, hadvanced.settings]
      rfl
    simp only [due, ends, mem_dueAt, interval_marks h, mem_angleDue, hadvanced.firing, htop]
    simp [and_assoc]

end

end Sys2Proof.Machine
